-- ==== Sys2Proof/Word.lean ====
section
/-!
DEFINITION. Plain data every file of the model shares: bytes, byte strings and the unit of time.
-/

namespace Sys2Proof

/-- One byte. -/
abbrev Byte := BitVec 8

/-- A string of bytes, first byte first. -/
abbrev Bytes := List Byte

/-- An instant or an interval in units of 2⁻¹³ ps. One picosecond is 8,192 units and 2⁻¹⁶ ns (R64) is 125 units,
so that the picosecond constants of R241, the 15.625 ps of R243 and the fraction of R64 are all whole. -/
abbrev Units := Int

/-- Units in one picosecond. -/
def unitsPerPs : Nat := 8192

/-- Units in one nanosecond. -/
def unitsPerNs : Nat := 8192000

/-- Units in one second. -/
def unitsPerSec : Nat := 8192000000000000

end Sys2Proof
end

