-- ==== Sys2Proof/Config.lean ====
section
/-!
DEFINITION. What one device fixes and what the manual leaves open. Every constant here is opaque: nothing can be
proved about its value, so a claim holds whatever it is. The assumption log names each.
-/

namespace Sys2Proof.Config

/-- The digits of π below 10⁻¹⁶ with which the device takes the loop constants of R132 (log entry 10). -/
opaque piRest : Rat

/-- The digits below 2⁻⁴⁸ of the exponential of R144 and R462 (log entry 10). -/
opaque expRest : Rat → Rat

/-- The digits below 2⁻³² of a square root (R144, R177, R179, R208; log entry 10). -/
opaque sqrtRest : Rat → Rat

/-- The digits below 2⁻⁴⁸ of the weight sin² of R179 (log entry 10). -/
opaque sinSqRest : Nat → Rat

/-- Whether the device rounds an exact quantity up or down to whole units of a register or record field, where the manual gives
no rounding (log entry 11). -/
opaque roundsUp : Rat → Bool

/-- What a field of the given width shows of a quantity that does not fit it (log entry 11). -/
opaque narrow : Nat → Int → Nat

/-- The tracking filter of R113: bandwidth in 0.0001 Hz, samples per 1,000 s, the filtered value held and the new sample,
to the new filtered value. The manual gives the bandwidth and no form (log entry 9). -/
opaque trackFilter : Rat → Rat → Units → Units → Units

/-- The least-squares slope the device finds where fewer than two samples stand in the window (R111; log entry 9). -/
opaque slopeOfFew : Nat → Rat

/-- The 64-bit unique serial of R422 (log entry 12). -/
opaque serial : Nat

/-- Whether the grade fuse of R512 says industrial (log entry 12). -/
opaque gradeIndustrial : Bool

/-- The factory centre tuning word of each ADPLL (R92; log entry 13). -/
opaque centreWord : Nat → Nat

/-- The `n`-th draw of the on-die random source (R278, R313; log entry 8): as many bytes as are asked for. -/
opaque random : Nat → Nat → Bytes

/-- SHA-256, for R36 (log entry 7). -/
opaque sha256 : Bytes → Bytes

/-- Ed25519 verification under RFC 8032: key, message, signature (R33; log entry 7). -/
opaque ed25519Verify : Bytes → Bytes → Bytes → Bool

/-- AES-256-GCM opening: key, IV, associated data, ciphertext, tag (R43; log entry 7). -/
opaque aesGcmOpen : Bytes → Bytes → Bytes → Bytes → Bytes → Option Bytes

/-- AES-128 of one block, for AES-SIV-CMAC-256 (R313): key, block (log entry 7). -/
opaque aes128 : Bytes → Bytes → Bytes

/-- AES-256 of one block: key, block (R60 `SEAL_KCV`; log entry 7). -/
opaque aes256 : Bytes → Bytes → Bytes

/-- What a ring entry, a latch or a register word reads as where the manual gives nothing has been written: the word
address (log entry 14). -/
opaque unwritten : Nat → Nat

/-- The region of 2,048 Hopper cells in which the `n`-th stored frame lies (R282; log entry 15). -/
opaque cellRegion : Nat → Nat

/-- The `n`-th value the manual leaves open and no other constant names (log entry 16). -/
opaque freeNat : Nat → Nat

/-- The transmit part, in ps, that the design ratio gives of a loopback round trip of a Leat lane (R393). -/
opaque leatTxPart : Nat → Nat

/-- The `n`-th value the manual leaves open each time it arises (log entry 16): applied to the instant of the device clock, so that
no two uses need agree. -/
opaque freeAt : Nat → Nat → Nat

/-- The IEEE 1588 dataset comparison of two Announce datasets on profile 0 (R352 names the standard's; log entry 17):
whether the first is better. -/
opaque datasetBetter : List Nat → List Nat → Bool

/-- The number by which an event names a retention item, where the manual gives none (log entry 16). -/
opaque retentionItemNumber : Nat → Nat

/-- How the C/N0 reference table of R184 learns: the entry held, if any, and the new C/N0 in 0.1 dB (log entry 16). -/
opaque cn0Learn : Option Nat → Nat → Nat

/-- The 10 s filter of the multipath metric of R170 (log entry 52): the metric held and the new asymmetry, both in 0.001, to the new one.
The manual gives the time and no form. -/
opaque metricFilter : Nat → Rat → Nat

end Sys2Proof.Config
end

