-- ==== Sys2Proof/Syntax.lean ====
section
/-!
DEFINITION. The commands of the block, one constructor of `Instr` for each row of spec/opcode_table.json, and the
types of their operands. A command's first operand `dt` is the number of advances of the timebase (R93) since the
command before it; SECOND_MARKER and GOVERNOR_TICK carry none, because they move the timebase to their own instant
(log entry 4).
-/

namespace Sys2Proof

/-- The retention items of R474. -/
inductive RetItem
  | rtc | model | almanac | ephemeris | position | utcParams | cn0Table | maps | retainCnt
deriving DecidableEq, Repr

/-- Which pin starts the entry to RETAIN (R473). -/
inductive RetainCause
  | stbyN | pgood
deriving DecidableEq, Repr

/-- The IP header of a frame, as far as R246, R247 and R278 read it. An IPv4 address is held in its IPv4-mapped form. -/
structure IpHdr where
  /-- 1 for IPv6. -/
  v6 : Bool := false
  src : Nat := 0
  dst : Nat := 0
  ihl : Nat := 5
  hdrChecksumOk : Bool := true
  fragment : Bool := false
  options : Bool := false
  /-- IPv4 protocol or IPv6 next header. -/
  proto : Nat := 17
  dscp : Nat := 0
  flowLabel : Nat := 0
deriving DecidableEq, Repr

/-- The UDP header of a frame. -/
structure UdpHdr where
  srcPort : Nat := 0
  dstPort : Nat := 123
  /-- The checksum field is zero. -/
  checksumZero : Bool := false
  checksumOk : Bool := true
deriving DecidableEq, Repr

/-- A TLV of a PTP Signaling message (R345 to R349). -/
structure Tlv where
  tlvType : Nat := 4
  messageType : Nat := 0
  /-- logInterMessagePeriod, signed. -/
  logInterval : Int := 0
  duration : Nat := 0
  /-- renewalInvited of a GRANT. -/
  renewalInvited : Bool := false
deriving DecidableEq, Repr

/-- A PTP message as IEEE 1588-2019 lays it out, in the fields the rules read. -/
structure PtpMsg where
  majorSdoId : Nat := 0
  messageType : Nat := 0
  version : Nat := 2
  /-- messageLength lies inside the frame. -/
  lengthOk : Bool := true
  domain : Nat := 0
  twoStep : Bool := false
  unicast : Bool := false
  /-- correctionField in units of 2⁻¹⁶ ns. -/
  correction : Int := 0
  clockId : Nat := 0
  portNumber : Nat := 0
  seqId : Nat := 0
  logInterval : Int := 0
  /-- originTimestamp, receiveTimestamp or preciseOriginTimestamp: seconds and nanoseconds. -/
  tsSec : Nat := 0
  tsNs : Nat := 0
  /-- requestingPortIdentity or targetPortIdentity. -/
  reqClockId : Nat := 0
  reqPort : Nat := 0
  tlvs : List Tlv := []
  /-- Announce: grandmaster dataset. -/
  utcOffset : Int := 0
  utcOffsetValid : Bool := false
  leap61 : Bool := false
  leap59 : Bool := false
  gmPriority1 : Nat := 128
  gmClass : Nat := 248
  gmAccuracy : Nat := 0xFE
  gmVariance : Nat := 0xFFFF
  gmPriority2 : Nat := 128
  gmIdentity : Nat := 0
  stepsRemoved : Nat := 0
  timeSource : Nat := 0
  ptpTimescale : Bool := false
  timeTraceable : Bool := false
  freqTraceable : Bool := false
  uncertain : Bool := false
deriving DecidableEq, Repr

/-- A received frame. The surroundings give it already divided into the fields of IEEE 802.3 and the IP standards
(log entry 6); the UDP payload of an NTP frame stays bytes. -/
structure Frame where
  fcsOk : Bool := true
  /-- Length from destination address to FCS, in bytes. -/
  len : Nat := 94
  dst : Nat := 0
  src : Nat := 0
  /-- The tags after the source address: TPID, PCP, VID. -/
  tags : List (Nat × Nat × Nat) := []
  /-- EtherType after the tags. -/
  etherType : Nat := 0x0800
  /-- Slow-protocol subtype, for EtherType 0x8809. -/
  subtype : Nat := 0x0A
  ip : Option IpHdr := none
  udp : Option UdpHdr := none
  /-- ICMP or ICMPv6 type. -/
  icmpType : Option Nat := none
  /-- Target protocol address of an ARP request or target of a Neighbour Solicitation. -/
  target : Nat := 0
  /-- ARP opcode. -/
  arpOp : Nat := 1
  payload : Bytes := []
  ptp : Option PtpMsg := none
  /-- Of a received frame, its bytes from destination address to the byte before its FCS. -/
  raw : Bytes := []
deriving DecidableEq, Repr

/-- What the timestamp unit of a port records of a received frame (R243): the stamp in steps of 15.625 ps from the crossing, the variable
part of the latency removed; the position of the start-of-frame delimiter in its FEC codeword and 66-bit block; its byte lane in the MAC
word; and the lane of the port that carried it. -/
structure RxPoint where
  steps : Int := 0
  codeword : Nat := 0
  block : Nat := 0
  byteLane : Nat := 0
  lane : Fin 4 := 0
deriving DecidableEq, Repr

/-- What the PHY of a port finds of its link (R239), as far as the conditions hold on every lane: signal, CDR, PCS lock and alignment, FEC
lock, the faults received, the partner's offer under auto-negotiation, and link training; with the skew of each lane against the first
and the symbol phase, measured at link-up (R243), and the codewords corrected since the report before. -/
structure LineState where
  port : Fin 8
  signal : Bool := true
  cdr : Bool := true
  blockLock : Bool := true
  fecLock : Bool := true
  localFault : Bool := false
  remoteFault : Bool := false
  offered : Bool := true
  trained : Bool := true
  skewPs : List Int := []
  phasePs : Int := 0
  corrected : Nat := 0
deriving DecidableEq, Repr

/-- An uncorrectable codeword on a port, and the codewords corrected there since the report before (R269). -/
structure FecReport where
  port : Fin 8
  corrected : Nat := 0
deriving DecidableEq, Repr

/-- What `SDCAL` connects to (R504). -/
inductive SdCal
  | fitted | opened | shorted
deriving DecidableEq, Repr

/-- A domain that has become good, and what its calibration finds at `SDCAL` (R471, R504). -/
structure PowerUp where
  pd : Fin 12
  sdcal : SdCal := .fitted
deriving DecidableEq, Repr

/-- How the raw measurement of a reference arrives (R111, R112). -/
inductive PhaseMeas
  /-- A 1PPS edge, by its timebase stamp. -/
  | edge (stamp : Units)
  /-- The phase of a frequency input accumulated against the timebase. -/
  | accumulated (x : Units)
  /-- What the owning block of a full-time reference delivered last. -/
  | delivered
deriving DecidableEq, Repr

/-- GPS UTC parameters of subframe 4, page 18 (R186, R76). -/
structure GpsUtc where
  dtLs : Int := 18
  /-- WNLSF, the low eight bits of a week. -/
  wnLsf : Nat := 0
  /-- DN, 1 for Sunday to 7. -/
  dn : Nat := 1
  dtLsf : Int := 18
deriving DecidableEq, Repr

/-- The correlators of a channel over an epoch (R170): very early, early, narrow early, prompt, narrow late, late, very late. -/
structure Taps where
  ve : Int := 0
  e : Int := 0
  ne : Int := 0
  p : Int := 1
  nl : Int := 0
  l : Int := 0
  vl : Int := 0
deriving DecidableEq, Repr

/-- The corrections of R178 to one satellite's time, each to be added: satellite clock, relativistic term and T_GD by the broadcast
ephemeris, ionosphere, troposphere, Earth rotation. -/
structure SatCorr where
  clock : Units := 0
  relativity : Units := 0
  tgd : Units := 0
  iono : Units := 0
  tropo : Units := 0
  rotation : Units := 0
deriving DecidableEq, Repr

/-- What one satellite gives to a timing solution (R178 to R181). -/
structure SatMeas where
  chan : Fin 32
  prn : Nat
  /-- GPS time + 19 s less timebase time by this satellite, uncorrected. -/
  x : Units
  corr : SatCorr := {}
  elevDeg : Nat
  /-- C/N0 in 0.1 dB-Hz. -/
  cn0 : Nat
  /-- Measured Doppler, and the one predicted by ephemeris and held position, in 0.01 Hz. -/
  dopp : Int := 0
  doppPred : Int := 0
  taps : Taps := {}
  /-- A complete ephemeris set has passed parity and issue-of-data agreement. -/
  ephemerisOk : Bool
  /-- A subframe of the ephemeris failed issue-of-data agreement. -/
  iodFails : Bool := false
deriving DecidableEq, Repr

/-- What an epoch gives beside its satellites (R164, R171, R179). -/
structure GnssEpoch where
  /-- The navigation solution after each number of residual exclusions, uncorrected by the receiver delay. -/
  navX : List Units := []
  /-- The stamp of the last 16,368th `GSCLK` edge, and the rate of `GSCLK` the stamps show, less nominal, in ppb. -/
  gsStamp : Units := 0
  gsRatePpb : Int := 0
  /-- Elevation of satellites in degrees by almanac, where almanac and position are known: PRN and degrees, 0 below the horizon. -/
  elevs : List (Nat × Nat) := []
deriving DecidableEq, Repr

/-- What a search has found (R171): a PRN, its elevation by almanac where it is known, its Doppler and the predicted one in Hz. -/
structure Acquired where
  prn : Nat
  elevDeg : Option Nat := none
  dopp : Int := 0
  doppPred : Int := 0
deriving DecidableEq, Repr

/-- A level of `GANT_OK` held for the time of R168: the advances since the command before, and the level. -/
structure AntLevel where
  dt : Nat
  high : Bool
deriving DecidableEq, Repr

/-- What a GNSS start finds known of what is retained (R172). -/
structure StartFacts where
  /-- Satellites whose ephemeris is in its fit interval, predicted above the mask: their PRNs. -/
  hotSats : List Nat
  /-- The almanac is under four weeks old. -/
  almanacFresh : Bool
  /-- The position is known to 100 km. -/
  posWithin100km : Bool
deriving DecidableEq, Repr

/-- A received Leat `TIME` frame (R396, R400). -/
structure TimeFrame where
  sender : Nat := 0
  seq : Nat := 0
  wave : Nat := 0
  waveValid : Bool := true
  held : Bool := false
  tValid : Bool := true
  tDegraded : Bool := false
  tMode : Nat := 3
  stepEpoch : Nat := 0
  rootId : Nat := 0
  parentId : Nat := 0
  rootQl : Nat := 0
  hops : Nat := 0
  rootBudgetUs : Nat := 100
  accLatPs : Nat := 0
  upDispNs : Nat := 0
  txTime : Units := 0
  echoSeq : Nat := 0xFFFF
  echoRx : Units := 0
deriving DecidableEq, Repr

/-- A received Leat `HELLO` frame (R398). -/
structure HelloFrame where
  sender : Nat := 0
  group : Nat := 1
  port : Nat := 0
  pairS : Bool := false
  spillAccept : Bool := true
deriving DecidableEq, Repr

/-- A received Leat `TELEM` frame (R398). -/
structure TelemFrame where
  sender : Nat := 0
  mode : Nat := 0
  selSlot : Nat := 15
  selQl : Nat := 15
  hoState : Nat := 0
  headroom : Nat := 0
  hoRemaining : Nat := 0
deriving DecidableEq, Repr

/-- A received Leat `SPILL` frame (R398). -/
structure SpillFrame where
  handle : Nat := 0
  cls : Nat := 0
  port : Fin 8 := 0
  degraded : Bool := false
  stepEpoch : Nat := 0
  t2 : Units := 0
  /-- LF_LEN. -/
  len : Nat := 40
  req : Frame := {}
deriving DecidableEq, Repr

/-- A received Leat `RESP` frame (R398, R408). -/
structure RespFrame where
  handle : Nat := 0
  refused : Bool := false
  /-- 0 NTP or NTSN, 1 NTS, 2 Delay_Resp. -/
  kind : Nat := 0
  /-- LF_LEN. -/
  len : Nat := 28
  /-- Kind 0 and 2: the UDP payload as built. Kind 1: header. -/
  payload : Bytes := []
  uniqueId : Bytes := []
  s2cKey : Bytes := []
  plaintext : Bytes := []
  ptp : Option PtpMsg := none
deriving DecidableEq, Repr

/-- The loopback round trips of both pairs of a link, ps (R393). -/
structure LeatLoop where
  link : Fin 4
  wPs : Nat := 0
  sPs : Nat := 0
deriving DecidableEq, Repr

/-- Why a Leat frame is bad (R391, R396). -/
inductive LeatBad
  | crc | unknownType | unknownVersion
deriving DecidableEq, Repr

/-- What an uncorrectable error strikes (R453, R455, R461). -/
inductive UeTarget
  | hopperRequest (ms : Fin 40) (cell : Fin 18432)
  | hopperCell (cell : Fin 18432)
  | rateRecord (index : Nat)
  | grantRecord (index : Nat)
deriving DecidableEq, Repr

/-- One check of one unit by the Dresser (R453): the unit and the measured quantity of its kind (slowdown in 0.01 %,
corrected errors, unlocks, margin, errored blocks per second, correlation loss in 0.1 dB). -/
structure UnitCheck where
  unit : Nat
  measured : Nat
  /-- The kind's immediate condition holds. -/
  immediate : Bool := false
deriving DecidableEq, Repr

/-- The known-answer vectors that complete a probation, and whether every one of them matched (R457). -/
structure KatSupply where
  probation : Fin 4
  agrees : Bool := true
deriving DecidableEq, Repr

/-- What the regulator answers at an alert (R483): `STATUS_WORD`, none where not acknowledged, and whether `CLEAR_FAULTS` is
acknowledged. -/
structure AlertRead where
  status : Option Nat := none
  cleared : Bool := true
deriving DecidableEq, Repr

/-- Readings of the regulator at a takeover (R481): `VOUT_MODE` and `READ_VOUT` in mV, none where not acknowledged. -/
structure AvsTakeover where
  voutMode : Option Nat := none
  voutMv : Option Nat := none
deriving DecidableEq, Repr

/-- The first 64 bytes of slot B as both flash devices would give them (R31): at 0x0080_0000 of the device on CS0, and at 0 of the
device on CS1. -/
structure SlotBHeader where
  cs0 : Bytes := []
  cs1 : Bytes := []
deriving DecidableEq, Repr

/-- A fast unlock of an ADPLL (R91). -/
structure FastUnlock where
  adpll : Fin 4
  /-- OSCIN has stopped, and its loss is not yet declared (R101). -/
  losing : Bool := false
deriving DecidableEq, Repr

/-- A phase of PFC: priority enable bits and pause times in quanta (R254). -/
structure PfcTimes where
  enable : Nat
  quanta : List Nat
deriving DecidableEq, Repr

/-- A channel of the interval counter that holds a vernier cell (R197). -/
inductive IcChan
  | start
  | stop (n : Fin 8)
deriving DecidableEq, Repr

/-- The roles of R87. -/
inductive Role
  | tb | sd | ck
deriving DecidableEq, Repr

/-- An enhanced SSM TLV as received (R261). -/
structure EsmcTlv where
  essm : Nat := 0xFF
  clockId : Nat := 0
  flags : Nat := 0
  eeecCount : Nat := 1
  eecCount : Nat := 0
deriving DecidableEq, Repr

/-- The stream of a scheduled message (R340): a grant's, or a multicast port's. -/
inductive SchedSource
  | grant (g : BitVec 20)
  | port (n : Fin 8)
deriving DecidableEq, Repr

/-- The commands. -/
inductive Instr
  -- Power and reset (18_power_domains_modes_reset.md)
  | powerOn (onVddio : Bool)
  | retainExit (rtcCycles : Nat) (damaged : List (RetItem × Bool))
  | retainEntry (dt : Nat) (cause : RetainCause) (rtcCycles : Nat)
  | warmReset (dt : Nat)
  | coldReset (dt : Nat)
  | resetRelease (dt : Nat) (rtcCycles : Nat) (damaged : List (RetItem × Bool))
  | reload (dt : Nat)
  | tapReset (dt : Nat)
  | pd0SupplyChangeover (dt : Nat) (toVddio : Bool)
  | domainPowerGood (dt : Nat) (rtcCycles : Nat) (pd : PowerUp)
  -- Loading (02_configuration_image.md)
  | nvmWakeDone (dt : Nat) (jedec0 jedec1 : Nat) (hdrA : Bytes) (hdrB : SlotBHeader)
  | verificationPassDone (dt : Nat) (hdr body trailer : Bytes)
  | signatureVerified (dt : Nat)
  | parseRecord (dt : Nat) (record : Bytes)
  | sectionEndRecord (dt : Nat) (record : Bytes)
  | parsePassDone (dt : Nat)
  | applyTick (avs : AvsTakeover)
  | otpProgram (dt : Nat) (word : Nat) (data : Nat)
  | otpRead (dt : Nat) (word : Nat)
  | otpKcv (dt : Nat)
  | otpLock (dt : Nat)
  -- Window (16_telemetry_and_monitors.md)
  | windowRead (dt : Nat) (addr : BitVec 24) (words : Nat) (lastCut : Bool)
  | windowReadId (dt : Nat) (words : Nat)
  | windowUnknownOpcode (dt : Nat) (opcode : Byte)
  | rcFieldRead (dt : Nat) (addr : BitVec 24) (complete : Bool)
  | latchingRead (dt : Nat) (addr : BitVec 24) (complete : Bool)
  | attnPendingRead (dt : Nat) (complete : Bool)
  -- Timescale, Governor and ADPLLs (03, 04, 05)
  | secondMarker (rtcCycles : Nat)
  | governorTick (msRates : List Nat) (ioutMa : Option Nat) (voutAcked : Bool)
  | adpllWindowEnd (dt : Nat) (n : Fin 4) (count : Nat) (phaseErrPs : Int) (meanTune : Nat)
  | adpllFastUnlock (dt : Nat) (n : FastUnlock)
  | adpllAcquisitionDone (dt : Nat) (n : Fin 4)
  | spareTakeover (dt : Nat)
  | adpllRetry (dt : Nat) (n : Fin 4)
  | oscinLost (dt : Nat)
  | oscinRestored (dt : Nat)
  | oscinRestoreTimeout (dt : Nat) (n : Fin 4)
  | oscinDetect (dt : Nat) (cycles : Nat) (rtcRunning : Bool)
  -- References (05)
  | refPhaseSample (dt : Nat) (slot : Fin 13) (meas : PhaseMeas)
  | refSignalLoss (dt : Nat) (slot : Fin 13)
  | refQualified (dt : Nat) (slot : Fin 13)
  | wtrExpiry (dt : Nat) (slot : Fin 13)
  | refDisagree (dt : Nat) (i j : Fin 13)
  | refRestoredAgreement (dt : Nat) (slot : Fin 13)
  | integrityFailure (dt : Nat) (cause : Nat)
  | graceExpiry (dt : Nat)
  | esmcRx (dt : Nat) (slot : Fin 2) (ssm : Nat) (tlv : Option EsmcTlv)
  | esmcTimeout (dt : Nat) (slot : Fin 2)
  -- Holdover (06)
  | holdoverExpired (dt : Nat)
  | hoIntegrityFailure (dt : Nat) (cause : Nat)
  | returnCorroborated (dt : Nat) (i j : Fin 13)
  -- GNSS (07)
  | gnssStart (dt : Nat) (facts : StartFacts)
  | sampleLoss (dt : Nat)
  | sampleLossCleared (dt : Nat)
  | antFault (held : AntLevel)
  | antFaultCleared (held : AntLevel)
  | satAcquired (dt : Nat) (chan : Fin 32) (found : Acquired)
  | navWord (dt : Nat) (chan : Fin 32) (word : BitVec 30) (parityOk : Bool) (subframe wordNum tow : Nat) (utc : Option GpsUtc)
  | navFix (dt : Nat) (x y z : Int)
  | timingSolution (dt : Nat) (week towMs : Nat) (sats : List SatMeas) (epoch : GnssEpoch)
  | shadowVisit (dt : Nat) (chan : Fin 32) (tracked : Fin 32) (peakHalfChips : Nat) (belowDb : Int)
  | satReadmitted (dt : Nat) (chan : Fin 32)
  | spoofSuspect (dt : Nat) (rise : Bool)
  | jamming (dt : Nat) (rise : Bool)
  | xcheckFail (dt : Nat) (rise : Bool)
  | gnssSleep (dt : Nat)
  | gnssWake (dt : Nat)
  -- Interval counter (08)
  | icStartEdge (dt : Nat) (fine : Fin 800)
  | icStopEdge (dt : Nat) (ch : Fin 8) (fine : Fin 800) (startFirst : Bool)
  | icConversionDone (dt : Nat) (cell : Fin 12)
  | icWindowTimeout (dt : Nat)
  | vcCalibration (dt : Nat) (cell : Fin 12) (stepFs : Nat)
  | icGateEnd (dt : Nat) (ch : Fin 8)
  | icFreqResult (dt : Nat) (ch : Fin 8)
  | icRingWrite (dt : Nat)
  | icCellSwap (dt : Nat) (ch : IcChan)
  -- Outputs (09)
  | ppsEdge (dt : Nat) (n : Fin 4)
  | ppsFall (dt : Nat) (n : Fin 4)
  | clkDivChange (dt : Nat) (n : Fin 2)
  | clkRealigned (dt : Nat) (n : Fin 2)
  | todSentence (dt : Nat)
  | todEchoCheck (dt : Nat) (rx : Bytes)
  -- Ports (10)
  | linkUp (dt : Nat) (line : LineState)
  | linkDown (dt : Nat) (line : LineState)
  | frameRefused (dt : Nat) (port : Fin 8) (frame : Frame)
  | ntpRequest (dt : Nat) (port : Fin 8) (point : RxPoint) (frame : Frame)
  | arpRequest (dt : Nat) (port : Fin 8) (frame : Frame)
  | neighbourSolicitation (dt : Nat) (port : Fin 8) (frame : Frame)
  | echoRequest (dt : Nat) (port : Fin 8) (frame : Frame)
  | pauseFrame (dt : Nat) (port : Fin 8) (quanta : Nat) (wellFormed : Bool)
  | pfcFrame (dt : Nat) (port : Fin 8) (times : PfcTimes) (wellFormed : Bool)
  | pauseEnd (dt : Nat) (port : Fin 8) (prio : Option (Fin 8))
  | esmcInfoTx (dt : Nat) (port : Fin 8)
  | eqSliceSwapped (dt : Nat) (group : Fin 2) (lane : Fin 4) (probationOk : Bool)
  -- The core (11)
  | msTake (dt : Nat)
  | garnerReadForUpdate (dt : Nat) (bank : Fin 48)
  | garnerWriteBeat (dt : Nat) (bank : Fin 48)
  | hopperCellRead (dt : Nat) (arbiter : Fin 8)
  | msBuildDone (dt : Nat) (ms : Fin 40)
  | launchCommit (dt : Nat) (port : Fin 8) (grid : Units)
  | commitRetry (dt : Nat) (ms : Fin 40)
  | msFinish (dt : Nat) (ms : Fin 40)
  | msDeposit (dt : Nat) (port : Fin 8) (probation : List Bool)
  | launch (dt : Nat) (port : Fin 8)
  | slotMissedLate (dt : Nat) (port : Fin 8)
  | parkRelease (dt : Nat) (port : Fin 8)
  | msHung (dt : Nat) (ms : Fin 40)
  | msFault (dt : Nat) (ms : Fin 40)
  | spillTimeout (dt : Nat) (handle : Nat)
  | respCreditTimeout (dt : Nat) (link : Fin 4)
  -- NTS keys and NTP fields (12)
  | ntsKeyActivated (dt : Nat) (slot : Fin 64)
  | ntsKeyRetired (dt : Nat) (slot : Fin 64)
  | ntpLiChanged (dt : Nat)
  -- PTP service (13)
  | delayReq (dt : Nat) (port : Fin 8) (point : RxPoint) (frame : Frame)
  | signalingRequest (dt : Nat) (port : Fin 8) (point : RxPoint) (frame : Frame)
  | ptpMessageDropped (dt : Nat) (port : Fin 8) (frame : Frame)
  | scheduledMessageDue (dt : Nat) (src : SchedSource) (announce : Bool)
  | grantSweep (dt : Nat) (block : Fin 16384)
  | nhMacExpiry (dt : Nat) (entry : Fin 4096)
  -- PTP client (13)
  | clientAnnounceRx (dt : Nat) (inst : Fin 2) (src : Nat) (msg : PtpMsg)
  | clientSyncRx (dt : Nat) (inst : Fin 2) (src : Nat) (point : RxPoint) (msg : PtpMsg)
  | clientFollowUpRx (dt : Nat) (inst : Fin 2) (src : Nat) (msg : PtpMsg)
  | followUpTimeout (dt : Nat) (inst : Fin 2)
  | clientDelayRespRx (dt : Nat) (inst : Fin 2) (src : Nat) (msg : PtpMsg)
  | clientSignalingRx (dt : Nat) (inst : Fin 2) (src : Nat) (msg : PtpMsg)
  | clientDelayReqTx (dt : Nat) (inst : Fin 2)
  | clientGrantRenewal (dt : Nat) (inst : Fin 2)
  | clientRequestRetry (dt : Nat) (inst : Fin 2)
  | clientNoMaster (dt : Nat) (inst : Fin 2)
  | xWithholdTimeout (dt : Nat) (inst : Fin 2)
  | asymReleased (dt : Nat) (inst : Fin 2)
  -- Leat (15)
  | leatBringupRetry (dt : Nat) (link : Fin 4)
  | leatCalibrationDone (dt : Nat) (link : LeatLoop)
  | leatBlockLock (dt : Nat) (link : Fin 4) (pairS : Bool)
  | leatTrainingTimeout (dt : Nat) (link : Fin 4)
  | leatHelloTx (dt : Nat) (link : Fin 4)
  | leatHelloRx (dt : Nat) (link : Fin 4) (frame : HelloFrame)
  | leatTimeRx (dt : Nat) (link : Fin 4) (refine : Units) (frame : TimeFrame)
  | leatWaveLaunch (dt : Nat) (grid : List Units)
  | leatWaveForward (dt : Nat) (grid : List Units)
  | leatNoWave (dt : Nat) (grid : List Units)
  | leatWaveTimeout (dt : Nat) (link : Fin 4)
  | leatLinkTimeout (dt : Nat) (link : Fin 4)
  | leatSwapDecided (dt : Nat) (link : Fin 4)
  | leatSwapRx (dt : Nat) (link : Fin 4)
  | leatSwapTimeout (dt : Nat) (link : Fin 4)
  | leatSpareOk (dt : Nat) (link : Fin 4)
  | leatSpareCalibration (dt : Nat) (link : Fin 4) (passed : Option Nat)
  | leatCreditRx (dt : Nat) (link : Fin 4) (spillRet respRet suRate : Nat)
  | leatCreditTx (dt : Nat) (link : Fin 4)
  | leatTelemRx (dt : Nat) (link : Fin 4) (frame : TelemFrame)
  | leatSpillRx (dt : Nat) (link : Fin 4) (refine : Units) (frame : SpillFrame)
  | leatRespRx (dt : Nat) (link : Fin 4) (frame : RespFrame)
  | leatBadFrame (dt : Nat) (link : Fin 4) (why : LeatBad)
  | leatLoadIdleRx (dt : Nat) (link : Fin 4)
  | leatProxyWave (dt : Nat) (grid : List Units)
  | leatHoldTimeout (dt : Nat) (link : Fin 4)
  | leatAsymReleased (dt : Nat) (link : Fin 4)
  -- Telemetry (16)
  | tallyIntervalEnd (dt : Nat) (n : Fin 24)
  | samplerFired (dt : Nat) (n : Fin 16)
  | sampleRingWrite (dt : Nat)
  | telemReport (dt : Nat)
  -- Dresser (17)
  | wearCheck (dt : Nat) (kind : Fin 12) (checks : List UnitCheck)
  | uncorrectableError (dt : Nat) (target : UeTarget)
  | katRun (dt : Nat) (ms : Fin 40) (agrees : Bool)
  | katPeriodExpiry (dt : Nat) (ms : Fin 40)
  | probationPassed (dt : Nat) (k : Fin 4)
  | probationKatSupply (dt : Nat) (k : KatSupply)
  | spareInService (dt : Nat) (k : Fin 4)
  | msDrained (dt : Nat) (ms : Fin 40)
  | garnerMigrationBeat (dt : Nat) (beats : Nat) (bad : List Nat)
  | retentionHourlyWrite (dt : Nat)
  -- AVS, monitors and the RTC (18)
  | avsSettleExpiry (dt : Nat) (acked : Bool)
  | avsVoutCheck (dt : Nat) (voutMv : Option Nat)
  | avsAlert (dt : Nat) (status : AlertRead)
  | avsTakeoverRetry (dt : Nat) (readings : AvsTakeover)
  | railMonitorSample (dt : Nat) (rails : List Nat) (tjCenti : Int)
  | railOutOfRange (dt : Nat) (rail : Fin 8) (mv : Nat)
  | rtcCrystalLoss (dt : Nat)
  -- Rows the table adds at its end
  | tallyUsSample (dt : Nat) (n : Fin 24)
  | candidateAnnounceTimeout (dt : Nat) (inst : Fin 2) (src : Nat)
  | fecUncorrectable (dt : Nat) (report : FecReport)
  | otpProgramDone (dt : Nat)
  | leatSpareLockTimeout (dt : Nat) (link : Fin 4)
deriving DecidableEq, Repr

end Sys2Proof
end

