-- ==== Sys2Proof/Decode.lean ====
section
/-!
DEFINITION. The command a word spells by the bits of spec/opcode_table.json. Every row of the table has an empty list of fields, so
there is no bit to decode: commands reach the block as events on its balls and interfaces, not as words.
-/

namespace Sys2Proof

/-- The command of a row that gives bits: none does. -/
def decodeTableWord (_nbits _w : Nat) : Option Instr := none

/-- The command that a shift of the JTAG data register gives (R62): with the instruction `OTP_ACCESS`, opcode 0x3A, the 48 bits are the
command code [47:40], the word address [39:32] and the data [31:0]. Of a code the table of R62 lacks the manual says nothing: none
(log entry 21). -/
def decodeOtpAccess (dt : Nat) (ir : BitVec 8) (dr : BitVec 48) : Option Instr :=
  let word := (dr.extractLsb' 32 8).toNat
  if ir != 0x3A then none
  else match (dr.extractLsb' 40 8).toNat with
    | 0x01 => some (.otpProgram dt word (dr.extractLsb' 0 32).toNat)
    | 0x02 => some (.otpRead dt word)
    | 0x03 => some (.otpKcv dt)
    | 0x04 => some (.otpLock dt)
    | _ => none

end Sys2Proof
end

