-- ==== Sys2Proof/Machine/Crc.lean ====
section
/-!
DEFINITION. The checks the manual gives whole: CRC-32C (R34) and SipHash-2-4, which R278 names.
-/

namespace Sys2Proof.Machine

/-- One bit of CRC-32C, reflected (R34). -/
def crcBit (c : BitVec 32) : BitVec 32 := if c &&& 1 == 1 then (c >>> 1) ^^^ 0x82F63B78 else c >>> 1

/-- One byte into the CRC-32C register. -/
def crcByte (c : BitVec 32) (b : Byte) : BitVec 32 :=
  let c := c ^^^ b.setWidth 32
  crcBit (crcBit (crcBit (crcBit (crcBit (crcBit (crcBit (crcBit c)))))))

/-- Bytes into the CRC-32C register, which starts at 0xFFFF_FFFF. -/
def crcBytes (c : BitVec 32) (bs : Bytes) : BitVec 32 := bs.foldl crcByte c

/-- CRC-32C of a byte string (R34): the register inverted. -/
def crc32c (bs : Bytes) : Nat := (~~~ (crcBytes (BitVec.allOnes 32) bs)).toNat

/-- The state of SipHash. -/
structure Sip where
  v0 : BitVec 64
  v1 : BitVec 64
  v2 : BitVec 64
  v3 : BitVec 64

/-- One SipRound. -/
def sipRound (s : Sip) : Sip :=
  let v0 := s.v0 + s.v1
  let v1 := (s.v1.rotateLeft 13) ^^^ v0
  let v0 := v0.rotateLeft 32
  let v2 := s.v2 + s.v3
  let v3 := (s.v3.rotateLeft 16) ^^^ v2
  let v0 := v0 + v3
  let v3 := (v3.rotateLeft 21) ^^^ v0
  let v2 := v2 + v1
  let v1 := (v1.rotateLeft 17) ^^^ v2
  let v2 := v2.rotateLeft 32
  { v0 := v0, v1 := v1, v2 := v2, v3 := v3 }

/-- One 64-bit word of the message: two rounds. -/
def sipWord (s : Sip) (m : BitVec 64) : Sip :=
  let s := sipRound (sipRound { s with v3 := s.v3 ^^^ m })
  { s with v0 := s.v0 ^^^ m }

/-- Eight bytes, the first least significant. -/
def le64 (bs : Bytes) : BitVec 64 := (bs.take 8).foldr (fun b n => (n <<< 8) ||| b.setWidth 64) 0

/-- The whole words of a message, by its length in words. -/
def sipWords : Nat → Bytes → Sip → Sip
  | 0, _, s => s
  | n + 1, bs, s => sipWords n (bs.drop 8) (sipWord s (le64 bs))

/-- SipHash-2-4 of a message under a 16-byte key. -/
def sipHash24 (key msg : Bytes) : BitVec 64 :=
  let k0 := le64 key
  let k1 := le64 (key.drop 8)
  let s : Sip := { v0 := k0 ^^^ 0x736f6d6570736575, v1 := k1 ^^^ 0x646f72616e646f6d,
                   v2 := k0 ^^^ 0x6c7967656e657261, v3 := k1 ^^^ 0x7465646279746573 }
  let n := msg.length / 8
  let s := sipWords n msg s
  let tail := le64 (msg.drop (8 * n)) ||| ((BitVec.ofNat 64 (msg.length % 256)) <<< 56)
  let s := sipWord s tail
  let s := sipRound (sipRound (sipRound (sipRound { s with v2 := s.v2 ^^^ 0xff })))
  s.v0 ^^^ s.v1 ^^^ s.v2 ^^^ s.v3

end Sys2Proof.Machine
end

