-- ==== Sys2Proof/Machine/Records.lean ====
section
/-!
DEFINITION. The image records of R58: for each type its layout as the owning chapter gives it, its defaults, the
reserved bits R41 requires to be zero, the ranges R47 checks, and the configuration the records make up. Every
multi-byte field is little-endian (R8).
-/

namespace Sys2Proof.Machine

/-- The bytes read as one little-endian number (R8). -/
def leNat : Bytes → Nat
  | [] => 0
  | b :: bs => b.toNat + 256 * leNat bs

/-- The bytes read as one number in network order (R8). -/
def beNat (bs : Bytes) : Nat := bs.foldl (fun n b => 256 * n + b.toNat) 0

/-- Bits `[lo + w - 1 : lo]` of a number (R7). -/
def bitsOf (n lo w : Nat) : Nat := n / 2 ^ lo % 2 ^ w

/-- Bit `i` of a number (R7). -/
def bitAt (n i : Nat) : Bool := n / 2 ^ i % 2 == 1

/-- A `w`-bit number read as two's complement. -/
def signedOf (w n : Nat) : Int := if n < 2 ^ (w - 1) then (n : Int) else (n : Int) - 2 ^ w

/-- `n` bytes from offset `o`. -/
def bytesAt (p : Bytes) (o n : Nat) : Bytes := (p.drop o).take n

/-- A byte string of zeros. -/
def zeroBytes (n : Nat) : Bytes := List.replicate n 0

/-- Inserts an entry into a list kept in rising order of its index, replacing an entry of the same index. -/
def putIndexed {α : Type} (i : Nat) (x : α) : List (Nat × α) → List (Nat × α)
  | [] => [(i, x)]
  | (j, y) :: r => if i < j then (i, x) :: (j, y) :: r else if i = j then (i, x) :: r else (j, y) :: putIndexed i x r

/-- The entry of an index, if there is one. -/
def getIndexed {α : Type} (i : Nat) (l : List (Nat × α)) : Option α := (l.find? (fun e => e.1 == i)).map (·.2)

/-- `SYSTEM_CONFIG` (0x0201, R59). -/
structure SystemConfigRec where
  requiredSections : Nat := 0
  reloadEnable : Bool := true
deriving DecidableEq, Repr

/-- The layout of R59. -/
def SystemConfigRec.read (p : Bytes) : SystemConfigRec :=
  let n := leNat p
  { requiredSections := bitsOf n 0 32,
    reloadEnable := bitAt n 32 }

/-- Every field lies within the range R59 gives it, as far as the record alone decides it (R47). -/
def SystemConfigRec.inRange (x : SystemConfigRec) : Bool :=
  x == x

/-- `TIMESCALE_CONFIG` (0x0301, R80). -/
structure TimescaleConfigRec where
  stampFormat : Bool := false
  secMarkerEn : Bool := true
  stepAtLoad : Bool := false
  maxFreqOffset : Nat := 10000
  maxRateChange : Nat := 100
  stepMin : Nat := 100
deriving DecidableEq, Repr

/-- The layout of R80. -/
def TimescaleConfigRec.read (p : Bytes) : TimescaleConfigRec :=
  let n := leNat p
  { stampFormat := bitAt n 0,
    secMarkerEn := bitAt n 1,
    stepAtLoad := bitAt n 2,
    maxFreqOffset := bitsOf n 32 32,
    maxRateChange := bitsOf n 64 32,
    stepMin := bitsOf n 96 32 }

/-- Every field lies within the range R80 gives it, as far as the record alone decides it (R47). -/
def TimescaleConfigRec.inRange (x : TimescaleConfigRec) : Bool :=
  decide (1 ≤ x.maxFreqOffset ∧ x.maxFreqOffset ≤ 100000) &&
  decide (1 ≤ x.maxRateChange ∧ x.maxRateChange ≤ 100000) &&
  decide (x.stepMin ≤ 1000000000)

/-- `UTC_LEAP` (0x0302, R81). -/
structure UtcLeapRec where
  utcOffset : Nat := 37
  leapDir : Int := 0
  leapTime : Nat := 0
deriving DecidableEq, Repr

/-- The layout of R81. -/
def UtcLeapRec.read (p : Bytes) : UtcLeapRec :=
  let n := leNat p
  { utcOffset := bitsOf n 0 16,
    leapDir := signedOf 8 (bitsOf n 16 8),
    leapTime := bitsOf n 64 48 }

/-- Every field lies within the range R81 gives it, as far as the record alone decides it (R47). -/
def UtcLeapRec.inRange (x : UtcLeapRec) : Bool :=
  decide (x.utcOffset ≤ 255) &&
  (x.leapDir == 0 || x.leapDir == 1 || x.leapDir == -1)

/-- `OSCIN_CONFIG` (0x0401, R106). -/
structure OscinConfigRec where
  oscinFreq : Nat := 10000000
  oscinType : Bool := false
  adpll0Ratio : Nat := 500 * 2 ^ 32 + 1
deriving DecidableEq, Repr

/-- The layout of R106. -/
def OscinConfigRec.read (p : Bytes) : OscinConfigRec :=
  let n := leNat p
  { oscinFreq := bitsOf n 0 32,
    oscinType := bitAt n 32,
    adpll0Ratio := bitsOf n 64 48 }

/-- Every field lies within the range R106 gives it, as far as the record alone decides it (R47). -/
def OscinConfigRec.inRange (x : OscinConfigRec) : Bool :=
  [10000000, 20000000, 25000000, 38880000, 40000000].contains x.oscinFreq

/-- `ADPLL_CONFIG` (0x0402, R107). -/
structure AdpllConfigRec where
  adpllBw : Nat := 1
  followEn : Bool := false
  a3Standby : Bool := false
  dcoFreqKhz : Nat := 0
deriving DecidableEq, Repr

/-- The layout of R107. -/
def AdpllConfigRec.read (p : Bytes) : AdpllConfigRec :=
  let n := leNat p
  { adpllBw := bitsOf n 8 8,
    followEn := bitAt n 16,
    a3Standby := bitAt n 17,
    dcoFreqKhz := bitsOf n 64 32 }

/-- Every field lies within the range R107 gives it, as far as the record alone decides it (R47). -/
def AdpllConfigRec.inRange (x : AdpllConfigRec) : Bool :=
  decide (x.adpllBw ≤ 3)

/-- `FANTAIL_CONFIG` (0x0501, R139). -/
structure FantailConfigRec where
  qualTimeS : Nat := 10
  disagreeTimeS : Nat := 60
  qualFreqPpb : Nat := 100000
  phaseJumpNs : Nat := 1000
  disagreePpb : Nat := 20
  disagreeNs : Nat := 500
  integrityLimitNs : Nat := 1000000
  buildoutDrain : Nat := 10
  integrityClampS : Nat := 600
  leatHopsPerQl : Nat := 0
deriving DecidableEq, Repr

/-- The layout of R139. -/
def FantailConfigRec.read (p : Bytes) : FantailConfigRec :=
  let n := leNat p
  { qualTimeS := bitsOf n 0 16,
    disagreeTimeS := bitsOf n 16 16,
    qualFreqPpb := bitsOf n 32 32,
    phaseJumpNs := bitsOf n 64 32,
    disagreePpb := bitsOf n 96 32,
    disagreeNs := bitsOf n 128 32,
    integrityLimitNs := bitsOf n 160 32,
    buildoutDrain := bitsOf n 192 16,
    integrityClampS := bitsOf n 208 16,
    leatHopsPerQl := bitsOf n 224 8 }

/-- Every field lies within the range R139 gives it, as far as the record alone decides it (R47). -/
def FantailConfigRec.inRange (x : FantailConfigRec) : Bool :=
  decide (1 ≤ x.qualTimeS ∧ x.qualTimeS ≤ 600) &&
  decide (1 ≤ x.disagreeTimeS ∧ x.disagreeTimeS ≤ 3600) &&
  decide (1 ≤ x.qualFreqPpb ∧ x.qualFreqPpb ≤ 1000000) &&
  decide (10 ≤ x.phaseJumpNs ∧ x.phaseJumpNs ≤ 1000000) &&
  decide (1 ≤ x.disagreePpb ∧ x.disagreePpb ≤ 100000) &&
  decide (1 ≤ x.disagreeNs ∧ x.disagreeNs ≤ 1000000) &&
  (x.integrityLimitNs == 0 || (1000 ≤ x.integrityLimitNs && x.integrityLimitNs ≤ 1000000000)) &&
  decide (x.buildoutDrain ≤ 1000) &&
  decide (1 ≤ x.integrityClampS ∧ x.integrityClampS ≤ 3600)

/-- `REF_SLOT` (0x0502, R140). -/
structure RefSlotRec where
  refEnable : Bool := false
  refSignal : Bool := false
  refKind : Nat := 0
  refPriority : Nat := 8
  refBw : Nat := 5
  refQlFixed : Nat := 8
  synceLane : Nat := 0
  refWtrS : Nat := 300
  refFreqHz : Nat := 0
  refDelayPs : Int := 0
deriving DecidableEq, Repr

/-- The layout of R140. -/
def RefSlotRec.read (p : Bytes) : RefSlotRec :=
  let n := leNat p
  { refEnable := bitAt n 8,
    refSignal := bitAt n 9,
    refKind := bitsOf n 16 8,
    refPriority := bitsOf n 24 8,
    refBw := bitsOf n 32 8,
    refQlFixed := bitsOf n 40 4,
    synceLane := bitsOf n 44 4,
    refWtrS := bitsOf n 48 16,
    refFreqHz := bitsOf n 64 32,
    refDelayPs := signedOf 32 (bitsOf n 96 32) }

/-- Every field lies within the range R140 gives it, as far as the record alone decides it (R47). -/
def RefSlotRec.inRange (x : RefSlotRec) : Bool :=
  decide (x.refKind ≤ 1) &&
  decide (x.refBw ≤ 20) &&
  decide (x.refWtrS ≤ 3600) &&
  ((x.refKind == 0 && x.refFreqHz == 0) || (x.refKind == 1 && 1000 ≤ x.refFreqHz && x.refFreqHz ≤ 156250000)) &&
  decide (-1000000000 ≤ x.refDelayPs ∧ x.refDelayPs ≤ 1000000000) &&
  (x.refKind == 0 || x.refDelayPs == 0)

/-- `HOLDOVER_CONFIG` (0x0601, R160). -/
structure HoldoverConfigRec where
  hoBudgetNs : Nat := 1100
  hoInheritNs : Nat := 100
  hoFloorPpb : Nat := 50
  hoAgingUnc : Nat := 500
  hoTempcoUnc : Nat := 0
  hoUntrainedPpb : Nat := 10000
  dcoHoldUnc : Nat := 1000000
  learnMinS : Nat := 3600
  relearnS : Nat := 600
  modelTauS : Nat := 86400
  returnMarginNs : Nat := 100
  cat1Ppb : Nat := 10000
  cat2Ppb : Nat := 4600000
  expQlCat1 : Nat := 5
  expQlCat2 : Nat := 6
  expQlCat3 : Nat := 7
  expiryPpsMute : Bool := false
  hoExhaustSafe : Bool := false
deriving DecidableEq, Repr

/-- The layout of R160. -/
def HoldoverConfigRec.read (p : Bytes) : HoldoverConfigRec :=
  let n := leNat p
  { hoBudgetNs := bitsOf n 0 32,
    hoInheritNs := bitsOf n 32 32,
    hoFloorPpb := bitsOf n 64 32,
    hoAgingUnc := bitsOf n 96 32,
    hoTempcoUnc := bitsOf n 128 32,
    hoUntrainedPpb := bitsOf n 160 32,
    dcoHoldUnc := bitsOf n 192 32,
    learnMinS := bitsOf n 224 16,
    relearnS := bitsOf n 240 16,
    modelTauS := bitsOf n 256 32,
    returnMarginNs := bitsOf n 288 32,
    cat1Ppb := bitsOf n 320 32,
    cat2Ppb := bitsOf n 352 32,
    expQlCat1 := bitsOf n 384 4,
    expQlCat2 := bitsOf n 388 4,
    expQlCat3 := bitsOf n 392 4,
    expiryPpsMute := bitAt n 396,
    hoExhaustSafe := bitAt n 397 }

/-- Every field lies within the range R160 gives it, as far as the record alone decides it (R47). -/
def HoldoverConfigRec.inRange (x : HoldoverConfigRec) : Bool :=
  decide (10 ≤ x.hoBudgetNs ∧ x.hoBudgetNs ≤ 1000000000) &&
  decide (x.hoInheritNs ≤ 1000000) &&
  decide (1 ≤ x.hoFloorPpb ∧ x.hoFloorPpb ≤ 1000000) &&
  decide (x.hoAgingUnc ≤ 10000000) &&
  decide (x.hoTempcoUnc ≤ 1000000) &&
  decide (1 ≤ x.hoUntrainedPpb ∧ x.hoUntrainedPpb ≤ 100000000) &&
  decide (1000 ≤ x.dcoHoldUnc ∧ x.dcoHoldUnc ≤ 100000000) &&
  decide (600 ≤ x.learnMinS) &&
  decide (60 ≤ x.relearnS) &&
  decide (3600 ≤ x.modelTauS ∧ x.modelTauS ≤ 2592000) &&
  decide (x.returnMarginNs ≤ 1000000)

/-- `GNSS_CONFIG` (0x0701, R189). -/
structure GnssConfigRec where
  gnssEnable : Bool := false
  sampleFmt : Bool := false
  gsclkEdge : Bool := false
  gfeClocking : Bool := false
  gantEn : Bool := true
  gantPol : Bool := false
  posMode : Bool := false
  sleepEn : Bool := false
  dllMode : Bool := true
  narrowSp : Nat := 2
  wideSp : Nat := 8
  vwideSp : Nat := 16
  elevMaskDeg : Nat := 10
  surveyMinS : Nat := 1800
  minSatsFull : Nat := 4
  surveyLimitMm : Nat := 1000
  antDelayPs : Int := 0
  gfeDelayPs : Int := 0
  residLimitNs : Nat := 50
  dopplerLimit : Nat := 50
  powerMaxDbhz : Nat := 55
  powerSpreadDb : Nat := 20
  shadowRelDb : Nat := 10
  jamDb : Nat := 6
  excludeS : Nat := 300
  spoofHoldS : Nat := 600
  xcheckNs : Nat := 200
  sleepS : Nat := 3600
  awakeS : Nat := 900
  wnBase : Nat := 2360
  spoofPrnMin : Nat := 2
  doppSearchKhz : Nat := 5
deriving DecidableEq, Repr

/-- The layout of R189. -/
def GnssConfigRec.read (p : Bytes) : GnssConfigRec :=
  let n := leNat p
  { gnssEnable := bitAt n 0,
    sampleFmt := bitAt n 1,
    gsclkEdge := bitAt n 2,
    gfeClocking := bitAt n 3,
    gantEn := bitAt n 4,
    gantPol := bitAt n 5,
    posMode := bitAt n 6,
    sleepEn := bitAt n 7,
    dllMode := bitAt n 8,
    narrowSp := bitsOf n 32 8,
    wideSp := bitsOf n 40 8,
    vwideSp := bitsOf n 48 8,
    elevMaskDeg := bitsOf n 56 8,
    surveyMinS := bitsOf n 64 16,
    minSatsFull := bitsOf n 80 16,
    surveyLimitMm := bitsOf n 96 32,
    antDelayPs := signedOf 32 (bitsOf n 128 32),
    gfeDelayPs := signedOf 32 (bitsOf n 160 32),
    residLimitNs := bitsOf n 192 16,
    dopplerLimit := bitsOf n 208 16,
    powerMaxDbhz := bitsOf n 224 8,
    powerSpreadDb := bitsOf n 232 8,
    shadowRelDb := bitsOf n 240 8,
    jamDb := bitsOf n 248 8,
    excludeS := bitsOf n 256 16,
    spoofHoldS := bitsOf n 272 16,
    xcheckNs := bitsOf n 288 32,
    sleepS := bitsOf n 320 32,
    awakeS := bitsOf n 352 16,
    wnBase := bitsOf n 368 16,
    spoofPrnMin := bitsOf n 384 8,
    doppSearchKhz := bitsOf n 392 8 }

/-- Every field lies within the range R189 gives it, as far as the record alone decides it (R47). -/
def GnssConfigRec.inRange (x : GnssConfigRec) : Bool :=
  decide (x.elevMaskDeg ≤ 60) &&
  decide (60 ≤ x.surveyMinS) &&
  decide (2 ≤ x.minSatsFull ∧ x.minSatsFull ≤ 16) &&
  decide (100 ≤ x.surveyLimitMm ∧ x.surveyLimitMm ≤ 100000) &&
  decide (-1000000 ≤ x.antDelayPs ∧ x.antDelayPs ≤ 1000000) &&
  decide (-1000000 ≤ x.gfeDelayPs ∧ x.gfeDelayPs ≤ 1000000) &&
  decide (5 ≤ x.residLimitNs ∧ x.residLimitNs ≤ 10000) &&
  decide (5 ≤ x.dopplerLimit ∧ x.dopplerLimit ≤ 10000) &&
  decide (40 ≤ x.powerMaxDbhz ∧ x.powerMaxDbhz ≤ 70) &&
  decide (x.powerSpreadDb ≤ 100) &&
  decide (x.shadowRelDb ≤ 30) &&
  decide (2 ≤ x.jamDb ∧ x.jamDb ≤ 40) &&
  decide (10 ≤ x.excludeS) &&
  decide (10 ≤ x.spoofHoldS) &&
  decide (x.xcheckNs ≤ 1000000) &&
  decide (60 ≤ x.sleepS ∧ x.sleepS ≤ 86400) &&
  decide (300 ≤ x.awakeS) &&
  decide (1 ≤ x.spoofPrnMin ∧ x.spoofPrnMin ≤ 16) &&
  decide (1 ≤ x.doppSearchKhz ∧ x.doppSearchKhz ≤ 10) &&
  decide (1 ≤ x.narrowSp ∧ x.narrowSp < x.wideSp ∧ x.wideSp < x.vwideSp ∧ x.vwideSp ≤ 24)

/-- `GNSS_POSITION` (0x0702, R190). -/
structure GnssPositionRec where
  posXMm : Int := 0
  posYMm : Int := 0
  posZMm : Int := 0
deriving DecidableEq, Repr

/-- The layout of R190. -/
def GnssPositionRec.read (p : Bytes) : GnssPositionRec :=
  let n := leNat p
  { posXMm := signedOf 64 (bitsOf n 0 64),
    posYMm := signedOf 64 (bitsOf n 64 64),
    posZMm := signedOf 64 (bitsOf n 128 64) }

/-- Every field lies within the range R190 gives it, as far as the record alone decides it (R47). -/
def GnssPositionRec.inRange (x : GnssPositionRec) : Bool :=
  x == x

/-- `IC_CONFIG` (0x0801, R212). -/
structure IcConfigRec where
  armMode : Nat := 0
  startEdge : Bool := false
  startSrc : Nat := 12
  stopWindowMs : Nat := 1100
  startDelayPs : Int := 0
deriving DecidableEq, Repr

/-- The layout of R212. -/
def IcConfigRec.read (p : Bytes) : IcConfigRec :=
  let n := leNat p
  { armMode := bitsOf n 0 2,
    startEdge := bitAt n 2,
    startSrc := bitsOf n 8 8,
    stopWindowMs := bitsOf n 16 16,
    startDelayPs := signedOf 32 (bitsOf n 32 32) }

/-- Every field lies within the range R212 gives it, as far as the record alone decides it (R47). -/
def IcConfigRec.inRange (x : IcConfigRec) : Bool :=
  decide (x.armMode ≤ 2) &&
  decide (x.startSrc ≤ 12) &&
  decide (1 ≤ x.stopWindowMs ∧ x.stopWindowMs ≤ 2000) &&
  decide (-1000000000 ≤ x.startDelayPs ∧ x.startDelayPs ≤ 1000000000)

/-- `IC_STOP` (0x0802, R213). -/
structure IcStopRec where
  stopEn : Bool := false
  stopMode : Nat := 0
  stopEdge : Bool := false
  maxStops : Nat := 15
  stopSrc : Nat := 0
  stopDelayPs : Int := 0
  stopDiv : Nat := 1
  nomFreqHz : Nat := 0
  gateMs : Nat := 1000
deriving DecidableEq, Repr

/-- The layout of R213. -/
def IcStopRec.read (p : Bytes) : IcStopRec :=
  let n := leNat p
  { stopEn := bitAt n 8,
    stopMode := bitsOf n 9 2,
    stopEdge := bitAt n 11,
    maxStops := bitsOf n 12 4,
    stopSrc := bitsOf n 16 8,
    stopDelayPs := signedOf 32 (bitsOf n 32 32),
    stopDiv := bitsOf n 64 32,
    nomFreqHz := bitsOf n 96 32,
    gateMs := bitsOf n 128 32 }

/-- Every field lies within the range R213 gives it, as far as the record alone decides it (R47). -/
def IcStopRec.inRange (x : IcStopRec) : Bool :=
  decide (x.stopMode ≤ 2) &&
  decide (x.stopSrc ≤ 12) &&
  decide (-1000000000 ≤ x.stopDelayPs ∧ x.stopDelayPs ≤ 1000000000) &&
  decide (1 ≤ x.stopDiv ∧ x.stopDiv ≤ 1000000) &&
  (if x.stopMode == 0 then x.nomFreqHz == 0 else decide (1 ≤ x.nomFreqHz ∧ x.nomFreqHz ≤ 156250000))

/-- `PPSOUT` (0x0901, R231). -/
structure PpsoutRec where
  ppsMode : Nat := 0
  ppsAcqRun : Bool := false
  ppsTNs : Nat := 0
  ppsTSec : Nat := 0
  ppsPeriod : Nat := 1000000000
  ppsWidth : Nat := 100000000
  ppsDelayPs : Int := 0
deriving DecidableEq, Repr

/-- The layout of R231. -/
def PpsoutRec.read (p : Bytes) : PpsoutRec :=
  let n := leNat p
  { ppsMode := bitsOf n 8 2,
    ppsAcqRun := bitAt n 10,
    ppsTNs := bitsOf n 32 32,
    ppsTSec := bitsOf n 64 48,
    ppsPeriod := bitsOf n 128 64,
    ppsWidth := bitsOf n 192 32,
    ppsDelayPs := signedOf 32 (bitsOf n 224 32) }

/-- Every field lies within the range R231 gives it, as far as the record alone decides it (R47). -/
def PpsoutRec.inRange (x : PpsoutRec) : Bool :=
  decide (x.ppsMode ≤ 2) &&
  decide (x.ppsTNs ≤ 999999999) &&
  (if x.ppsMode == 2 then decide (1000 ≤ x.ppsPeriod ∧ x.ppsPeriod ≤ 86400000000000) else x.ppsPeriod == 0) &&
  decide (8 ≤ x.ppsWidth ∧ x.ppsWidth ≤ 4000000000) &&
  decide (-1000000 ≤ x.ppsDelayPs ∧ x.ppsDelayPs ≤ 1000000)

/-- `CLKOUT` (0x0902, R232). -/
structure ClkoutRec where
  clkEn : Bool := false
  clkType : Bool := false
  clkAlign : Bool := false
  clkAcqRun : Bool := false
  clkDiv : Nat := 300
deriving DecidableEq, Repr

/-- The layout of R232. -/
def ClkoutRec.read (p : Bytes) : ClkoutRec :=
  let n := leNat p
  { clkEn := bitAt n 8,
    clkType := bitAt n 9,
    clkAlign := bitAt n 10,
    clkAcqRun := bitAt n 11,
    clkDiv := bitsOf n 32 32 }

/-- Every field lies within the range R232 gives it, as far as the record alone decides it (R47). -/
def ClkoutRec.inRange (x : ClkoutRec) : Bool :=
  decide (31 ≤ x.clkDiv ∧ x.clkDiv ≤ 6400000)

/-- `TOD_CONFIG` (0x0903, R233). -/
structure TodConfigRec where
  todEn : Bool := true
  todEchoEn : Bool := false
  todOffsetMs : Nat := 100
deriving DecidableEq, Repr

/-- The layout of R233. -/
def TodConfigRec.read (p : Bytes) : TodConfigRec :=
  let n := leNat p
  { todEn := bitAt n 0,
    todEchoEn := bitAt n 1,
    todOffsetMs := bitsOf n 16 16 }

/-- Every field lies within the range R233 gives it, as far as the record alone decides it (R47). -/
def TodConfigRec.inRange (x : TodConfigRec) : Bool :=
  decide (1 ≤ x.todOffsetMs ∧ x.todOffsetMs ≤ 495)

/-- `LANE_GROUP` (0x0A01, R264). -/
structure LaneGroupRec where
  groupMode : Nat := 0
  laneRate : Nat := 0
  rxInvert : Nat := 0
  txInvert : Nat := 0
deriving DecidableEq, Repr

/-- The layout of R264. -/
def LaneGroupRec.read (p : Bytes) : LaneGroupRec :=
  let n := leNat p
  { groupMode := bitsOf n 8 8,
    laneRate := bitsOf n 16 8,
    rxInvert := bitsOf n 24 4,
    txInvert := bitsOf n 28 4 }

/-- Every field lies within the range R264 gives it, as far as the record alone decides it (R47). -/
def LaneGroupRec.inRange (x : LaneGroupRec) : Bool :=
  decide (x.groupMode ≤ 5) &&
  decide (x.laneRate ≤ 3)

/-- `PORT` (0x0A02, R265). -/
structure PortRec where
  portEn : Bool := false
  pauseObey : Bool := false
  pfcObey : Bool := false
  anEn : Bool := false
  ltEn : Bool := false
  garpEn : Bool := true
  esmcTxEn : Bool := true
  esmcExtEn : Bool := false
  fecMode : Nat := 2
  untaggedPrio : Nat := 0
  arpNdEn : Bool := true
  maxFrame : Nat := 1522
  echoRate : Nat := 100
  portMac : Nat := 0
  respRate : Nat := 1000
  pmdType : Nat := 0
deriving DecidableEq, Repr

/-- The layout of R265. -/
def PortRec.read (p : Bytes) : PortRec :=
  let n := leNat p
  { portEn := bitAt n 8,
    pauseObey := bitAt n 9,
    pfcObey := bitAt n 10,
    anEn := bitAt n 11,
    ltEn := bitAt n 12,
    garpEn := bitAt n 13,
    esmcTxEn := bitAt n 14,
    esmcExtEn := bitAt n 15,
    fecMode := bitsOf n 16 8,
    untaggedPrio := bitsOf n 24 3,
    arpNdEn := bitAt n 27,
    maxFrame := bitsOf n 32 16,
    echoRate := bitsOf n 48 16,
    portMac := bitsOf n 64 48,
    respRate := bitsOf n 112 16,
    pmdType := bitsOf n 128 2 }

/-- Every field lies within the range R265 gives it, as far as the record alone decides it (R47). -/
def PortRec.inRange (x : PortRec) : Bool :=
  decide (64 ≤ x.maxFrame ∧ x.maxFrame ≤ 9216) &&
  decide (1 ≤ x.respRate) &&
  decide (x.pmdType ≤ 2)

/-- `PORT_CAL` (0x0A03, R266). -/
structure PortCalRec where
  rxExtPs : Int := 0
  txExtPs : Int := 0
deriving DecidableEq, Repr

/-- The layout of R266. -/
def PortCalRec.read (p : Bytes) : PortCalRec :=
  let n := leNat p
  { rxExtPs := signedOf 32 (bitsOf n 32 32),
    txExtPs := signedOf 32 (bitsOf n 64 32) }

/-- Every field lies within the range R266 gives it, as far as the record alone decides it (R47). -/
def PortCalRec.inRange (x : PortCalRec) : Bool :=
  decide (-1000000 ≤ x.rxExtPs ∧ x.rxExtPs ≤ 1000000) &&
  decide (-1000000 ≤ x.txExtPs ∧ x.txExtPs ≤ 1000000)

/-- `SERVING_ADDR` (0x0A04, R267). -/
structure ServingAddrRec where
  addrV6 : Bool := false
  addrAnycast : Bool := false
  addrPorts : Nat := 255
  addrVid : Nat := 0
  addrIp : Bytes := zeroBytes 16
deriving DecidableEq, Repr

/-- The layout of R267. -/
def ServingAddrRec.read (p : Bytes) : ServingAddrRec :=
  let n := leNat p
  { addrV6 := bitAt n 8,
    addrAnycast := bitAt n 9,
    addrPorts := bitsOf n 16 8,
    addrVid := bitsOf n 32 16,
    addrIp := bytesAt p 8 16 }

/-- Every field lies within the range R267 gives it, as far as the record alone decides it (R47). -/
def ServingAddrRec.inRange (x : ServingAddrRec) : Bool :=
  decide (x.addrVid ≤ 4094)

/-- `HOPPER_CONFIG` (0x0A05, R268). -/
structure HopperConfigRec where
  precReserve : Nat := 1024
deriving DecidableEq, Repr

/-- The layout of R268. -/
def HopperConfigRec.read (p : Bytes) : HopperConfigRec :=
  let n := leNat p
  { precReserve := bitsOf n 0 16 }

/-- Every field lies within the range R268 gives it, as far as the record alone decides it (R47). -/
def HopperConfigRec.inRange (x : HopperConfigRec) : Bool :=
  decide (x.precReserve ≤ 8192)

/-- `CORE_CONFIG` (0x0B01, R296). -/
structure CoreConfigRec where
  msInService : Nat := 32
  msSpare : Nat := 8
  recommitMax : Nat := 4
  bookAheadNs : Nat := 100
deriving DecidableEq, Repr

/-- The layout of R296. -/
def CoreConfigRec.read (p : Bytes) : CoreConfigRec :=
  let n := leNat p
  { msInService := bitsOf n 0 8,
    msSpare := bitsOf n 8 8,
    recommitMax := bitsOf n 16 8,
    bookAheadNs := bitsOf n 32 16 }

/-- Every field lies within the range R296 gives it, as far as the record alone decides it (R47). -/
def CoreConfigRec.inRange (x : CoreConfigRec) : Bool :=
  decide (1 ≤ x.msInService ∧ x.msInService ≤ 32) &&
  decide (x.msSpare ≤ 39) &&
  decide (1 ≤ x.recommitMax ∧ x.recommitMax ≤ 15) &&
  decide (x.bookAheadNs ≤ 120)

/-- `GARNER_CONFIG` (0x0B02, R297). -/
structure GarnerConfigRec where
  hashFixed : Bool := false
  hashKey : Bytes := zeroBytes 16
deriving DecidableEq, Repr

/-- The layout of R297. -/
def GarnerConfigRec.read (p : Bytes) : GarnerConfigRec :=
  let n := leNat p
  { hashFixed := bitAt n 0,
    hashKey := bytesAt p 8 16 }

/-- Every field lies within the range R297 gives it, as far as the record alone decides it (R47). -/
def GarnerConfigRec.inRange (x : GarnerConfigRec) : Bool :=
  x.hashFixed || x.hashKey.all fun b => b == 0

/-- `NTP_CONFIG` (0x0C01, R324). -/
structure NtpConfigRec where
  ntpEn : Bool := true
  ntsEn : Bool := false
  acqAnswer : Bool := true
  ntsnEn : Bool := true
  v3En : Bool := true
  defaultAction : Nat := 0
  kodPoll : Nat := 10
  leapWarnS : Nat := 86400
deriving DecidableEq, Repr

/-- The layout of R324. -/
def NtpConfigRec.read (p : Bytes) : NtpConfigRec :=
  let n := leNat p
  { ntpEn := bitAt n 0,
    ntsEn := bitAt n 1,
    acqAnswer := bitAt n 2,
    ntsnEn := bitAt n 3,
    v3En := bitAt n 4,
    defaultAction := bitsOf n 5 2,
    kodPoll := bitsOf n 8 8,
    leapWarnS := bitsOf n 32 32 }

/-- Every field lies within the range R324 gives it, as far as the record alone decides it (R47). -/
def NtpConfigRec.inRange (x : NtpConfigRec) : Bool :=
  decide (4 ≤ x.kodPoll ∧ x.kodPoll ≤ 17) &&
  decide (x.leapWarnS ≤ 2678400)

/-- `REFID` (0x0C03, R326). -/
structure RefidRec where
  refidCode : Bytes := zeroBytes 4
  refRootDelayNs : Nat := 0
  refDispNs : Nat := 100
deriving DecidableEq, Repr

/-- The layout of R326. -/
def RefidRec.read (p : Bytes) : RefidRec :=
  let n := leNat p
  { refidCode := bytesAt p 4 4,
    refRootDelayNs := bitsOf n 64 32,
    refDispNs := bitsOf n 96 32 }

/-- Every field lies within the range R326 gives it, as far as the record alone decides it (R47). -/
def RefidRec.inRange (x : RefidRec) : Bool :=
  decide (x.refRootDelayNs ≤ 1000000000) &&
  decide (x.refDispNs ≤ 1000000000)

/-- `ACCESS_RULE` (0x0C04, R327). -/
structure AccessRuleRec where
  accV6 : Bool := false
  accPrefixLen : Nat := 0
  accAction : Nat := 0
  accPorts : Nat := 255
  accAddr : Bytes := zeroBytes 16
deriving DecidableEq, Repr

/-- The layout of R327. -/
def AccessRuleRec.read (p : Bytes) : AccessRuleRec :=
  let n := leNat p
  { accV6 := bitAt n 8,
    accPrefixLen := bitsOf n 16 8,
    accAction := bitsOf n 24 2,
    accPorts := bitsOf n 32 8,
    accAddr := bytesAt p 8 16 }

/-- Every field lies within the range R327 gives it, as far as the record alone decides it (R47). -/
def AccessRuleRec.inRange (x : AccessRuleRec) : Bool :=
  x == x

/-- `NTS_KEY` (0x0C05, R328). -/
structure NtsKeyRec where
  keyId : Nat := 0
  keyActivate : Nat := 0
  keyRetire : Nat := 0
  keyMaterial : Bytes := zeroBytes 32
deriving DecidableEq, Repr

/-- The layout of R328. -/
def NtsKeyRec.read (p : Bytes) : NtsKeyRec :=
  let n := leNat p
  { keyId := bitsOf n 16 16,
    keyActivate := bitsOf n 64 48,
    keyRetire := bitsOf n 128 48,
    keyMaterial := bytesAt p 24 32 }

/-- Every field lies within the range R328 gives it, as far as the record alone decides it (R47). -/
def NtsKeyRec.inRange (x : NtsKeyRec) : Bool :=
  x == x

/-- `PTP_CONFIG` (0x0D01, R361). -/
structure PtpConfigRec where
  acqMode : Bool := true
  priority1 : Nat := 128
  priority2 : Nat := 128
  traceableQl : Nat := 4
  oslvLocked : Nat := 20061
  grantMinS : Nat := 60
  grantMaxS : Nat := 1000
  grantSuPct : Nat := 50
  precGrantPct : Nat := 80
  precLinePct : Nat := 5
  clockId : Nat := 0
  ptpLeapWarnS : Nat := 43200
deriving DecidableEq, Repr

/-- The layout of R361. -/
def PtpConfigRec.read (p : Bytes) : PtpConfigRec :=
  let n := leNat p
  { acqMode := bitAt n 0,
    priority1 := bitsOf n 8 8,
    priority2 := bitsOf n 16 8,
    traceableQl := bitsOf n 24 4,
    oslvLocked := bitsOf n 32 16,
    grantMinS := bitsOf n 48 16,
    grantMaxS := bitsOf n 64 16,
    grantSuPct := bitsOf n 80 8,
    precGrantPct := bitsOf n 88 8,
    precLinePct := bitsOf n 96 8,
    clockId := bitsOf n 128 64,
    ptpLeapWarnS := bitsOf n 192 32 }

/-- Every field lies within the range R361 gives it, as far as the record alone decides it (R47). -/
def PtpConfigRec.inRange (x : PtpConfigRec) : Bool :=
  decide (10 ≤ x.grantMinS ∧ x.grantMinS ≤ 1000) &&
  decide (x.grantMinS ≤ x.grantMaxS ∧ x.grantMaxS ≤ 1000) &&
  decide (1 ≤ x.grantSuPct ∧ x.grantSuPct ≤ 90) &&
  decide (1 ≤ x.precGrantPct ∧ x.precGrantPct ≤ 100) &&
  decide (1 ≤ x.precLinePct ∧ x.precLinePct ≤ 8) &&
  decide (x.ptpLeapWarnS ≤ 2678400)

/-- `PTP_PORT` (0x0D02, R362). -/
structure PtpPortRec where
  masterEn : Bool := false
  profile : Nat := 2
  transport : Nat := 1
  twoStep : Bool := false
  mcastMac : Bool := false
  grantPrecAll : Bool := false
  domain : Nat := 44
  mcastPrec : Bool := true
  logSync : Int := -4
  logAnnounce : Int := -3
  logMinDreq : Int := -4
  syncLogMin : Int := -7
  annLogMin : Int := -3
  srcAddrIdx4 : Nat := 0
  srcAddrIdx6 : Nat := 0
deriving DecidableEq, Repr

/-- The layout of R362. -/
def PtpPortRec.read (p : Bytes) : PtpPortRec :=
  let n := leNat p
  { masterEn := bitAt n 8,
    profile := bitsOf n 9 2,
    transport := bitsOf n 11 2,
    twoStep := bitAt n 13,
    mcastMac := bitAt n 14,
    grantPrecAll := bitAt n 15,
    domain := bitsOf n 16 8,
    mcastPrec := bitAt n 24,
    logSync := signedOf 8 (bitsOf n 32 8),
    logAnnounce := signedOf 8 (bitsOf n 40 8),
    logMinDreq := signedOf 8 (bitsOf n 48 8),
    syncLogMin := signedOf 8 (bitsOf n 56 8),
    annLogMin := signedOf 8 (bitsOf n 64 8),
    srcAddrIdx4 := bitsOf n 72 8,
    srcAddrIdx6 := bitsOf n 80 8 }

/-- Every field lies within the range R362 gives it, as far as the record alone decides it (R47). -/
def PtpPortRec.inRange (x : PtpPortRec) : Bool :=
  decide (x.profile ≤ 2) &&
  decide (x.srcAddrIdx4 ≤ 63) &&
  decide (x.srcAddrIdx6 ≤ 63)

/-- `PTP_CLIENT` (0x0D03, R363). -/
structure PtpClientRec where
  cEn : Bool := false
  cProfile : Nat := 2
  cTransport : Nat := 1
  cDomain : Nat := 44
  cPort : Nat := 0
  cLogSync : Int := -4
  cLogAnnounce : Int := -3
  cLogDreq : Int := -4
  cAnnTimeout : Nat := 3
  cDurationS : Nat := 300
  cAddrIdx : Nat := 0
  cMasterCnt : Nat := 0
  cLocalPrio : Nat := 2155905152
  asymDelayNs : Nat := 50
  asymXstepNs : Nat := 50
  asymCorrNs : Int := 0
  cMasterAddr : Bytes := zeroBytes 64
deriving DecidableEq, Repr

/-- The layout of R363. -/
def PtpClientRec.read (p : Bytes) : PtpClientRec :=
  let n := leNat p
  { cEn := bitAt n 8,
    cProfile := bitsOf n 9 2,
    cTransport := bitsOf n 11 2,
    cDomain := bitsOf n 16 8,
    cPort := bitsOf n 24 8,
    cLogSync := signedOf 8 (bitsOf n 32 8),
    cLogAnnounce := signedOf 8 (bitsOf n 40 8),
    cLogDreq := signedOf 8 (bitsOf n 48 8),
    cAnnTimeout := bitsOf n 56 8,
    cDurationS := bitsOf n 64 16,
    cAddrIdx := bitsOf n 80 8,
    cMasterCnt := bitsOf n 88 8,
    cLocalPrio := bitsOf n 96 32,
    asymDelayNs := bitsOf n 128 32,
    asymXstepNs := bitsOf n 160 32,
    asymCorrNs := signedOf 32 (bitsOf n 192 32),
    cMasterAddr := bytesAt p 32 64 }

/-- Every field lies within the range R363 gives it, as far as the record alone decides it (R47). -/
def PtpClientRec.inRange (x : PtpClientRec) : Bool :=
  decide (x.cProfile ≤ 2) &&
  decide (x.cTransport ≤ 2) &&
  decide (x.cPort ≤ 7) &&
  decide (-7 ≤ x.cLogSync ∧ x.cLogSync ≤ 0) &&
  decide (-3 ≤ x.cLogAnnounce ∧ x.cLogAnnounce ≤ 0) &&
  decide (-7 ≤ x.cLogDreq ∧ x.cLogDreq ≤ 0) &&
  decide (2 ≤ x.cAnnTimeout ∧ x.cAnnTimeout ≤ 10) &&
  decide (60 ≤ x.cDurationS ∧ x.cDurationS ≤ 1000) &&
  decide (x.cAddrIdx ≤ 63) &&
  decide (5 ≤ x.asymDelayNs ∧ x.asymDelayNs ≤ 1000000) &&
  decide (5 ≤ x.asymXstepNs ∧ x.asymXstepNs ≤ 1000000) &&
  decide (-1000000 ≤ x.asymCorrNs ∧ x.asymCorrNs ≤ 1000000)

/-- `CLASS_RULE` (0x0E01, R386). -/
structure ClassRuleRec where
  crV6 : Bool := false
  crVidAny : Bool := true
  crProto : Nat := 15
  crClass : Nat := 1
  crBkt : Nat := 0
  crPrefixLen : Nat := 0
  crPorts : Nat := 255
  crVid : Nat := 0
  crAddr : Bytes := zeroBytes 16
deriving DecidableEq, Repr

/-- The layout of R386. -/
def ClassRuleRec.read (p : Bytes) : ClassRuleRec :=
  let n := leNat p
  { crV6 := bitAt n 8,
    crVidAny := bitAt n 9,
    crProto := bitsOf n 16 4,
    crClass := bitsOf n 24 2,
    crBkt := bitsOf n 28 4,
    crPrefixLen := bitsOf n 32 8,
    crPorts := bitsOf n 40 8,
    crVid := bitsOf n 48 16,
    crAddr := bytesAt p 8 16 }

/-- Every field lies within the range R386 gives it, as far as the record alone decides it (R47). -/
def ClassRuleRec.inRange (x : ClassRuleRec) : Bool :=
  decide (x.crClass ≤ 2) &&
  decide (x.crVid ≤ 4094)

/-- `WEIR_CONFIG` (0x0E02, R387). -/
structure WeirConfigRec where
  wmHighNs : Nat := 20000
  wmLowNs : Nat := 5000
  spillMarkNs : Nat := 10000
  kodBudget : Nat := 100
  admitPct : Nat := 98
  ageLimitUs : Nat := 500
  spillEn : Bool := false
  spillPrec : Bool := false
  spillAssured : Bool := true
  spillGeneral : Bool := true
  defClassNtp : Nat := 0
  defClassNts : Nat := 1
  defClassPtp : Nat := 1
  defBktNtp : Nat := 0
  defBktNts : Nat := 0
  spillAcceptPct : Nat := 90
deriving DecidableEq, Repr

/-- The layout of R387. -/
def WeirConfigRec.read (p : Bytes) : WeirConfigRec :=
  let n := leNat p
  { wmHighNs := bitsOf n 0 16,
    wmLowNs := bitsOf n 16 16,
    spillMarkNs := bitsOf n 32 16,
    kodBudget := bitsOf n 48 8,
    admitPct := bitsOf n 56 8,
    ageLimitUs := bitsOf n 64 16,
    spillEn := bitAt n 80,
    spillPrec := bitAt n 81,
    spillAssured := bitAt n 82,
    spillGeneral := bitAt n 83,
    defClassNtp := bitsOf n 88 2,
    defClassNts := bitsOf n 90 2,
    defClassPtp := bitsOf n 92 2,
    defBktNtp := bitsOf n 96 4,
    defBktNts := bitsOf n 100 4,
    spillAcceptPct := bitsOf n 104 8 }

/-- Every field lies within the range R387 gives it, as far as the record alone decides it (R47). -/
def WeirConfigRec.inRange (x : WeirConfigRec) : Bool :=
  decide (1000 ≤ x.wmHighNs ∧ x.wmHighNs ≤ 40000) &&
  decide (x.wmLowNs ≤ 39999) &&
  decide (1000 ≤ x.spillMarkNs ∧ x.spillMarkNs ≤ 40000) &&
  decide (x.kodBudget ≤ 100) &&
  decide (90 ≤ x.admitPct ∧ x.admitPct ≤ 100) &&
  decide (10 ≤ x.ageLimitUs ∧ x.ageLimitUs ≤ 10000) &&
  decide (x.defClassNtp ≤ 2) &&
  decide (x.defClassNts ≤ 2) &&
  decide (x.defClassPtp ≤ 2) &&
  decide (x.spillAcceptPct ≤ 100)

/-- `BUCKET_PROFILE` (0x0E03, R388). -/
structure BucketProfileRec where
  bktEn : Bool := false
  bktAction : Bool := false
  bktBurst : Nat := 8
  bktInterval : Nat := 131072
deriving DecidableEq, Repr

/-- The layout of R388. -/
def BucketProfileRec.read (p : Bytes) : BucketProfileRec :=
  let n := leNat p
  { bktEn := bitAt n 8,
    bktAction := bitAt n 9,
    bktBurst := bitsOf n 16 16,
    bktInterval := bitsOf n 32 32 }

/-- Every field lies within the range R388 gives it, as far as the record alone decides it (R47). -/
def BucketProfileRec.inRange (x : BucketProfileRec) : Bool :=
  decide (1 ≤ x.bktBurst ∧ x.bktBurst ≤ 4096) &&
  decide (1 ≤ x.bktInterval ∧ x.bktInterval ≤ 16777216) &&
  decide (x.bktBurst * x.bktInterval ≤ 2 ^ 28)

/-- `LEAT_CONFIG` (0x0F01, R414). -/
structure LeatConfigRec where
  leatGroup : Nat := 1
  leatbudget : Nat := 100
  leatAsymDelayPs : Nat := 200
  leatAsymXstepPs : Nat := 200
deriving DecidableEq, Repr

/-- The layout of R414. -/
def LeatConfigRec.read (p : Bytes) : LeatConfigRec :=
  let n := leNat p
  { leatGroup := bitsOf n 0 16,
    leatbudget := bitsOf n 16 16,
    leatAsymDelayPs := bitsOf n 32 32,
    leatAsymXstepPs := bitsOf n 64 32 }

/-- Every field lies within the range R414 gives it, as far as the record alone decides it (R47). -/
def LeatConfigRec.inRange (x : LeatConfigRec) : Bool :=
  decide (1 ≤ x.leatGroup) &&
  decide (1 ≤ x.leatbudget ∧ x.leatbudget ≤ 4000) &&
  decide (10 ≤ x.leatAsymDelayPs ∧ x.leatAsymDelayPs ≤ 1000000) &&
  decide (10 ≤ x.leatAsymXstepPs ∧ x.leatAsymXstepPs ≤ 1000000)

/-- `LEAT_PORT` (0x0F02, R415). -/
structure LeatPortRec where
  lpEn : Bool := false
  lpSpillEn : Bool := true
  leatAsymWPs : Int := 0
  leatAsymSPs : Int := 0
deriving DecidableEq, Repr

/-- The layout of R415. -/
def LeatPortRec.read (p : Bytes) : LeatPortRec :=
  let n := leNat p
  { lpEn := bitAt n 8,
    lpSpillEn := bitAt n 9,
    leatAsymWPs := signedOf 32 (bitsOf n 32 32),
    leatAsymSPs := signedOf 32 (bitsOf n 64 32) }

/-- Every field lies within the range R415 gives it, as far as the record alone decides it (R47). -/
def LeatPortRec.inRange (x : LeatPortRec) : Bool :=
  decide (-1000000 ≤ x.leatAsymWPs ∧ x.leatAsymWPs ≤ 1000000) &&
  decide (-1000000 ≤ x.leatAsymSPs ∧ x.leatAsymSPs ≤ 1000000)

/-- `TELEM_CONFIG` (0x1001, R443). -/
structure TelemConfigRec where
  telemPeriod : Nat := 1000
  telemPort : Nat := 0
  telemIcEn : Bool := false
  telemEvEn : Bool := true
  telemSmpEn : Bool := true
  telemSrcAddrIdx : Nat := 0
  telemUdpPort : Nat := 30123
  telemDstMac : Nat := 0
  telemCollector : Bytes := zeroBytes 16
deriving DecidableEq, Repr

/-- The layout of R443. -/
def TelemConfigRec.read (p : Bytes) : TelemConfigRec :=
  let n := leNat p
  { telemPeriod := bitsOf n 0 32,
    telemPort := bitsOf n 32 3,
    telemIcEn := bitAt n 35,
    telemEvEn := bitAt n 36,
    telemSmpEn := bitAt n 37,
    telemSrcAddrIdx := bitsOf n 40 8,
    telemUdpPort := bitsOf n 48 16,
    telemDstMac := bitsOf n 64 48,
    telemCollector := bytesAt p 16 16 }

/-- Every field lies within the range R443 gives it, as far as the record alone decides it (R47). -/
def TelemConfigRec.inRange (x : TelemConfigRec) : Bool :=
  (x.telemPeriod == 0 || decide (10 ≤ x.telemPeriod ∧ x.telemPeriod ≤ 60000)) &&
  decide (1 ≤ x.telemUdpPort) && decide (x.telemSrcAddrIdx ≤ 63)

/-- `TALLY` (0x1002, R444). -/
structure TallyRec where
  tallySrc : Nat := 0
  tallyInst : Nat := 0
  tallyShift : Nat := 0
  tallyMode : Bool := false
  tallyTx : Bool := true
  tallyHistTx : Bool := false
  tallyIntervalMs : Nat := 1000
  tallyAttnMax : Int := 2147483647
deriving DecidableEq, Repr

/-- The layout of R444. -/
def TallyRec.read (p : Bytes) : TallyRec :=
  let n := leNat p
  { tallySrc := bitsOf n 8 8,
    tallyInst := bitsOf n 16 8,
    tallyShift := bitsOf n 24 5,
    tallyMode := bitAt n 29,
    tallyTx := bitAt n 30,
    tallyHistTx := bitAt n 31,
    tallyIntervalMs := bitsOf n 32 32,
    tallyAttnMax := signedOf 32 (bitsOf n 64 32) }

/-- Every field lies within the range R444 gives it, as far as the record alone decides it (R47). -/
def TallyRec.inRange (x : TallyRec) : Bool :=
  decide (100 ≤ x.tallyIntervalMs ∧ x.tallyIntervalMs ≤ 3600000)

/-- `SAMPLER` (0x1003, R445). -/
structure SamplerRec where
  smpSrc : Nat := 0
  smpMsSel : Nat := 63
  smpAttn : Bool := false
  smpPreset : Nat := 1000000
deriving DecidableEq, Repr

/-- The layout of R445. -/
def SamplerRec.read (p : Bytes) : SamplerRec :=
  let n := leNat p
  { smpSrc := bitsOf n 8 8,
    smpMsSel := bitsOf n 16 6,
    smpAttn := bitAt n 22,
    smpPreset := bitsOf n 32 32 }

/-- Every field lies within the range R445 gives it, as far as the record alone decides it (R47). -/
def SamplerRec.inRange (x : SamplerRec) : Bool :=
  decide (x.smpSrc ≤ 11) &&
  (decide (x.smpMsSel < 40) || x.smpMsSel == 63) &&
  decide (1 ≤ x.smpPreset)

/-- `ATTN_MASK` (0x1004, R446). -/
structure AttnMaskRec where
  attnBlockEn : Nat := 524284
  attnOffCount : Nat := 0
  attnOffCode : Bytes := zeroBytes 64
deriving DecidableEq, Repr

/-- The layout of R446. -/
def AttnMaskRec.read (p : Bytes) : AttnMaskRec :=
  let n := leNat p
  { attnBlockEn := bitsOf n 0 32,
    attnOffCount := bitsOf n 32 8,
    attnOffCode := bytesAt p 8 64 }

/-- Every field lies within the range R446 gives it, as far as the record alone decides it (R47). -/
def AttnMaskRec.inRange (x : AttnMaskRec) : Bool :=
  decide (x.attnOffCount ≤ 32)

/-- `DRESSER_CONFIG` (0x1101, R464). -/
structure DresserConfigRec where
  autoRetire : Bool := true
  migrateRate : Bool := true
  canaryLimitPct : Nat := 8
  katPeriodS : Nat := 3600
  garnerCeLimit : Nat := 64
  hopperCeLimit : Nat := 2
  adpllUnlockLimit : Nat := 16
  adpllRetryMax : Nat := 100
  eqMarginLimit : Nat := 20
  leatErrblkLimit : Nat := 100
  probationMaxMs : Nat := 100
  maxProbations : Nat := 2
deriving DecidableEq, Repr

/-- The layout of R464. -/
def DresserConfigRec.read (p : Bytes) : DresserConfigRec :=
  let n := leNat p
  { autoRetire := bitAt n 0,
    migrateRate := bitAt n 1,
    canaryLimitPct := bitsOf n 8 8,
    katPeriodS := bitsOf n 16 16,
    garnerCeLimit := bitsOf n 32 16,
    hopperCeLimit := bitsOf n 48 8,
    adpllUnlockLimit := bitsOf n 56 8,
    adpllRetryMax := bitsOf n 64 8,
    eqMarginLimit := bitsOf n 72 8,
    leatErrblkLimit := bitsOf n 80 16,
    probationMaxMs := bitsOf n 96 16,
    maxProbations := bitsOf n 112 8 }

/-- Every field lies within the range R464 gives it, as far as the record alone decides it (R47). -/
def DresserConfigRec.inRange (x : DresserConfigRec) : Bool :=
  decide (2 ≤ x.canaryLimitPct ∧ x.canaryLimitPct ≤ 30) &&
  decide (60 ≤ x.katPeriodS) &&
  decide (1 ≤ x.garnerCeLimit) &&
  decide (1 ≤ x.hopperCeLimit) &&
  decide (1 ≤ x.adpllUnlockLimit) &&
  decide (1 ≤ x.adpllRetryMax) &&
  decide (5 ≤ x.eqMarginLimit ∧ x.eqMarginLimit ≤ 100) &&
  decide (1 ≤ x.leatErrblkLimit) &&
  decide (10 ≤ x.probationMaxMs ∧ x.probationMaxMs ≤ 10000) &&
  decide (1 ≤ x.maxProbations ∧ x.maxProbations ≤ 4)

/-- `AVS_CONFIG` (0x1201, R488). -/
structure AvsConfigRec where
  avsEn : Bool := true
  avsPec : Bool := false
  avsBusFast : Bool := true
  avsAddr : Nat := 64
  avsPage : Nat := 255
  avsStepMv : Nat := 5
  avsVminMv : Nat := 650
  avsVmaxMv : Nat := 850
  avsGuardPct : Nat := 4
  avsHystPct : Nat := 6
  avsSettleUs : Nat := 500
deriving DecidableEq, Repr

/-- The layout of R488. -/
def AvsConfigRec.read (p : Bytes) : AvsConfigRec :=
  let n := leNat p
  { avsEn := bitAt n 0,
    avsPec := bitAt n 1,
    avsBusFast := bitAt n 2,
    avsAddr := bitsOf n 8 7,
    avsPage := bitsOf n 16 8,
    avsStepMv := bitsOf n 24 8,
    avsVminMv := bitsOf n 32 16,
    avsVmaxMv := bitsOf n 48 16,
    avsGuardPct := bitsOf n 64 8,
    avsHystPct := bitsOf n 72 8,
    avsSettleUs := bitsOf n 80 16 }

/-- Every field lies within the range R488 gives it, as far as the record alone decides it (R47). -/
def AvsConfigRec.inRange (x : AvsConfigRec) : Bool :=
  decide (1 ≤ x.avsStepMv ∧ x.avsStepMv ≤ 20) &&
  decide (650 ≤ x.avsVminMv ∧ x.avsVminMv ≤ 850) &&
  decide (650 ≤ x.avsVmaxMv ∧ x.avsVmaxMv ≤ 850) &&
  decide (x.avsGuardPct ≤ 20) &&
  decide (1 ≤ x.avsHystPct ∧ x.avsHystPct ≤ 30) &&
  decide (10 ≤ x.avsSettleUs ∧ x.avsSettleUs ≤ 10000) &&
  decide (x.avsVminMv ≤ x.avsVmaxMv)

/-- `POWER_CONFIG` (0x1202, R489). -/
structure PowerConfigRec where
  rtcTolPpm : Nat := 50
  rtcDiscipline : Bool := true
  tjAlarmC : Nat := 0
deriving DecidableEq, Repr

/-- The layout of R489. -/
def PowerConfigRec.read (p : Bytes) : PowerConfigRec :=
  let n := leNat p
  { rtcTolPpm := bitsOf n 0 16,
    rtcDiscipline := bitAt n 16,
    tjAlarmC := bitsOf n 24 8 }

/-- Every field lies within the range R489 gives it, as far as the record alone decides it (R47). -/
def PowerConfigRec.inRange (x : PowerConfigRec) : Bool :=
  decide (1 ≤ x.rtcTolPpm ∧ x.rtcTolPpm ≤ 1000) &&
  (x.tjAlarmC == 0 || decide (50 ≤ x.tjAlarmC ∧ x.tjAlarmC ≤ 125))

/-- The bits of a record type that its layout reserves (R9, R41), numbered from bit 0 of payload byte 0. -/
def reservedBits (type : Nat) : Nat :=
  match type with
  | 0x0201 => 0xFFFFFFFEFFF80003
  | 0x0202 => 0x0
  | 0x0301 => 0xFFFFFFF8
  | 0x0302 => 0xFFFF000000000000FFFFFFFFFF000000
  | 0x0401 => 0xFFFF000000000000FFFFFFFE00000000
  | 0x0402 => 0xFFFFFFFF00000000FFFFFFFFFFFC0000
  | 0x0501 => 0xFFFFFF0000000000000000000000000000000000000000000000000000000000
  | 0x0502 => 0xFFFFFFFFFFFFFFFF0000000000000000000000000000FC00
  | 0x0503 => 0xFFFFFFFFF000000000000000000000000000000000000000000000000000000000000000000000000000000000000000
  | 0x0601 => 0xFFFFFFFFFFFFC000000000000000000000000000000000000000000000000000000000000000000000000000000000000000000000000000
  | 0x0701 => 0xFFFFFFFFFFFF00000000000000000000000000000000000000000000000000000000000000000000000000000000000000000000FFFFFE00
  | 0x0702 => 0xFFFFFFFFFFFFFFFF000000000000000000000000000000000000000000000000
  | 0x0703 => 0xFFFFFFFFFF000000
  | 0x0801 => 0xFFFFFFFFFFFFFFFF00000000000000F8
  | 0x0802 => 0xFFFFFFFF00000000000000000000000000000000FF000000
  | 0x0901 => 0xFFFF00000000000000000000FFFFF800
  | 0x0902 => 0xFFFFFFFFFFFFFFFF00000000FFFFF000
  | 0x0903 => 0xFFFFFFFF0000FFFC
  | 0x0A01 => 0xFFFFFFFF00000000
  | 0x0A02 => 0xFFFFFFFFFFFFFFFC000000000000000000000000F0000000
  | 0x0A03 => 0xFFFFFFFF0000000000000000FFFFFF00
  | 0x0A04 => 0xFFFF0000FF00FC00
  | 0x0A05 => 0xFFFFFFFFFFFF0000
  | 0x0B01 => 0xFFFFFFFFFFFFFFFFFFFF0000FF000000
  | 0x0B02 => 0xFFFFFFFFFFFFFFFE
  | 0x0C01 => 0xFFFFFFFFFFFFFFFF00000000FFFF0080
  | 0x0C03 => 0xFFFFFF00
  | 0x0C04 => 0xFFFFFF00FC00FE00
  | 0x0C05 => 0xFFFF000000000000FFFF000000000000FFFFFFFF0000FF00
  | 0x0D01 => 0xFFFFFFFF000000000000000000000000FFFFFF000000000000000000F00000FE
  | 0x0D02 => 0xFFFFFFFFFF00000000000000FE000000
  | 0x0D03 => 0xFFFFFFFF0000000000000000000000000000000000000000000000000000E000
  | 0x0E01 => 0xCF0FC00
  | 0x0E02 => 0xFFFF0000C0F000000000000000000000
  | 0x0E03 => 0xFFFFFFFFFFFFFFFF000000000000FC00
  | 0x0F01 => 0xFFFFFFFF000000000000000000000000
  | 0x0F02 => 0xFFFFFFFF0000000000000000FFFFFC00
  | 0x1001 => 0xFFFFFFFFFFFFFFFF00000000000000000000000000000000FFFF000000000000000000C000000000
  | 0x1002 => 0xFFFFFFFF000000000000000000000000
  | 0x1003 => 0xFFFFFFFFFFFFFFFF00000000FF800000
  | 0x1004 => 0xFFFFFF0000000000
  | 0x1101 => 0xFFFFFFFFFFFFFFFFFFFFFFFFFFFFFFFFFF0000000000000000000000000000FC
  | 0x1201 => 0xFFFFFFFF0000000000000000000080F8
  | 0x1202 => 0xFFFFFFFF00FE0000
  | 0x0C02 => 0
  | 0x0D04 => 0xFFFFFF000000000000000000000000000000000000000000
  | _ => 0

/-- The payload length the owning chapter gives a recognised single or indexed type (R41); `GFE_INIT` gives its own (R191). -/
def recordLen (type : Nat) : Option Nat :=
  match type with
  | 0x0201 => some 8
  | 0x0202 => some 32
  | 0x0301 => some 16
  | 0x0302 => some 16
  | 0x0401 => some 16
  | 0x0402 => some 16
  | 0x0501 => some 32
  | 0x0502 => some 24
  | 0x0503 => some 48
  | 0x0601 => some 56
  | 0x0701 => some 56
  | 0x0702 => some 32
  | 0x0801 => some 16
  | 0x0802 => some 24
  | 0x0901 => some 32
  | 0x0902 => some 16
  | 0x0903 => some 8
  | 0x0A01 => some 8
  | 0x0A02 => some 24
  | 0x0A03 => some 16
  | 0x0A04 => some 24
  | 0x0A05 => some 8
  | 0x0B01 => some 16
  | 0x0B02 => some 24
  | 0x0C01 => some 16
  | 0x0C02 => some 16
  | 0x0C03 => some 16
  | 0x0C04 => some 24
  | 0x0C05 => some 56
  | 0x0D01 => some 32
  | 0x0D02 => some 16
  | 0x0D03 => some 96
  | 0x0D04 => some 24
  | 0x0E01 => some 24
  | 0x0E02 => some 16
  | 0x0E03 => some 16
  | 0x0F01 => some 16
  | 0x0F02 => some 16
  | 0x1001 => some 40
  | 0x1002 => some 16
  | 0x1003 => some 16
  | 0x1004 => some 72
  | 0x1101 => some 32
  | 0x1201 => some 16
  | 0x1202 => some 8
  | _ => none

/-- The number of instances of an indexed type (R58); none for a single one. -/
def recordInstances (type : Nat) : Option Nat :=
  match type with
  | 0x0402 => some 4
  | 0x0502 => some 13
  | 0x0802 => some 8
  | 0x0901 => some 4
  | 0x0902 => some 2
  | 0x0A01 => some 2
  | 0x0A02 => some 8
  | 0x0A03 => some 8
  | 0x0A04 => some 64
  | 0x0C03 => some 13
  | 0x0C04 => some 256
  | 0x0C05 => some 64
  | 0x0D02 => some 8
  | 0x0D03 => some 2
  | 0x0E01 => some 256
  | 0x0E03 => some 16
  | 0x0F02 => some 4
  | 0x1002 => some 24
  | 0x1003 => some 16
  | _ => none
/-- `QL_MAP` (0x0503, R141): `CC_MAP0` to `CC_MAP15` as pairs of clockClass and QL, then the SSM, enhanced SSM and GNSS maps.
The defaults are those of R115. -/
structure QlMapRec where
  ccMap : List (Nat × Nat) :=
    [(6, 1), (7, 2), (135, 4), (140, 5), (150, 6), (160, 7), (165, 14), (248, 15)] ++
      List.replicate 8 (0, 0xFF)
  ssmMap : List Nat := [15, 15, 3, 15, 9, 15, 15, 15, 10, 15, 15, 12, 15, 15, 15, 15]
  /-- ePRTC, PRTC, ePRC, eEEC. -/
  essmMap : List Nat := [0, 1, 2, 11]
  /-- `TIMING_FULL`, `TIMING_REDUCED`, `TIMING_SUSPECT`. -/
  gnssMap : List Nat := [1, 4, 15]
deriving DecidableEq, Repr

/-- The layout of R141. -/
def QlMapRec.read (p : Bytes) : QlMapRec :=
  let n := leNat p
  { ccMap := (List.range 16).map fun i => (bitsOf n (16 * i) 8, bitsOf n (16 * i + 8) 8)
    ssmMap := (List.range 16).map fun i => bitsOf n (256 + 4 * i) 4
    essmMap := (List.range 4).map fun i => bitsOf n (320 + 4 * i) 4
    gnssMap := (List.range 3).map fun i => bitsOf n (336 + 4 * i) 4 }

/-- Each QL of `CC_MAP` is 0 to 15, or 0xFF for an unused entry (R141). -/
def QlMapRec.inRange (x : QlMapRec) : Bool := x.ccMap.all fun e => decide (e.2 ≤ 15) || e.2 == 0xFF

/-- `GFE_INIT` (0x0703, R191). -/
structure GfeInitRec where
  initCount : Nat := 0
  sleepCount : Nat := 0
  gfeWordBits : Nat := 16
  /-- Init words, then sleep words. -/
  gfeWord : List Nat := []
deriving DecidableEq, Repr

/-- The payload length R191 requires: 8 + 4 × (`INIT_COUNT` + `SLEEP_COUNT`), rounded up to a multiple of 8. -/
def gfeInitLen (initCount sleepCount : Nat) : Nat := (8 + 4 * (initCount + sleepCount) + 7) / 8 * 8

/-- The layout of R191. -/
def GfeInitRec.read (p : Bytes) : GfeInitRec :=
  let n := leNat (p.take 8)
  let i := bitsOf n 0 8
  let k := bitsOf n 8 8
  { initCount := i, sleepCount := k, gfeWordBits := bitsOf n 16 8
    gfeWord := (List.range (i + k)).map fun j => leNat (bytesAt p (8 + 4 * j) 4) }

/-- The ranges of R191, and the length it requires, with the filling word zero. -/
def GfeInitRec.inRange (p : Bytes) (x : GfeInitRec) : Bool :=
  decide (x.initCount ≤ 31) && decide (x.sleepCount ≤ 31) && decide (8 ≤ x.gfeWordBits ∧ x.gfeWordBits ≤ 32) &&
  p.length == gfeInitLen x.initCount x.sleepCount && leNat (p.drop (8 + 4 * (x.initCount + x.sleepCount))) == 0

/-- The default strata of R306: 1 for QL0 to QL4, 2 for QL5 to QL9, 3 for QL10 to QL14 and 16 for QL15. -/
def defaultStrata : List Nat := [1, 1, 1, 1, 1, 2, 2, 2, 2, 2, 3, 3, 3, 3, 3, 16]

/-- `CLOCKCLASS_MAP` (0x0D04, R364): `CC_LOCKED` by QL, then `CC_HOLDOVER`, `CC_CAT1`, `CC_CAT2`, `CC_CAT3`, `CC_ACQUIRE`.
The defaults are those of R335. -/
structure ClockClassRec where
  ccLocked : List Nat := [6, 6, 7, 135, 135, 140, 150, 160, 165, 165, 165, 165, 165, 165, 165, 248]
  ccHoldover : Nat := 7
  ccCat1 : Nat := 140
  ccCat2 : Nat := 150
  ccCat3 : Nat := 160
  ccAcquire : Nat := 248
deriving DecidableEq, Repr

/-- The layout of R364. -/
def ClockClassRec.read (p : Bytes) : ClockClassRec :=
  let b := fun i => (p.getD i 0).toNat
  { ccLocked := (List.range 16).map b, ccHoldover := b 16, ccCat1 := b 17, ccCat2 := b 18, ccCat3 := b 19, ccAcquire := b 20 }

/-- The default of an `ADPLL_CONFIG` instance (R107). -/
def adpllDefault (i : Nat) : AdpllConfigRec :=
  { followEn := i == 1 || i == 2, a3Standby := i == 3, dcoFreqKhz := if i == 1 then 4910400 else 0 }

/-- What R107 requires of an instance: a field of an instance that does not use it is zero, and `CK`'s DCO is in range. -/
def adpllInstanceOk (i : Nat) (x : AdpllConfigRec) : Bool :=
  (i == 1 || i == 2 || !x.followEn) && (i == 3 || !x.a3Standby) &&
  (if i == 1 then decide (4800000 ≤ x.dcoFreqKhz ∧ x.dcoFreqKhz ≤ 6400000) else x.dcoFreqKhz == 0)

/-- What R140 requires of an instance: a field marked for particular slots or kinds is zero in every other. -/
def refSlotInstanceOk (i : Nat) (x : RefSlotRec) : Bool :=
  (decide (i ≤ 3) || (!x.refSignal && x.refKind == 0 && x.refQlFixed == 0)) &&
  (i == 11 || i == 12 || x.synceLane == 0) && (i != 11 && i != 12 || decide (x.synceLane ≤ 7)) &&
  (decide (i ≤ 3) || (x.refFreqHz == 0 && x.refDelayPs == 0))

/-- The default of a `PPSOUT` instance (R231): output 0 is periodic. -/
def ppsDefault (i : Nat) : PpsoutRec := { ppsMode := if i == 0 then 2 else 0 }

/-- The configuration of block 0x02. -/
structure Sec02 where
  system : SystemConfigRec := {}
  label : Bytes := zeroBytes 32
deriving DecidableEq, Repr

/-- The configuration of block 0x03. -/
structure Sec03 where
  timescale : TimescaleConfigRec := {}
  utcLeap : UtcLeapRec := {}
deriving DecidableEq, Repr

/-- The configuration of block 0x04. -/
structure Sec04 where
  oscin : OscinConfigRec := {}
  /-- The section carries `OSCIN_CONFIG` (R50). -/
  oscinPresent : Bool := false
  adpll : Vector AdpllConfigRec 4 := Vector.ofFn fun i => adpllDefault i.val
deriving DecidableEq, Repr

/-- The configuration of block 0x05. -/
structure Sec05 where
  fantail : FantailConfigRec := {}
  slot : Vector RefSlotRec 13 := Vector.replicate 13 {}
  qlMap : QlMapRec := {}
deriving DecidableEq, Repr

/-- The configuration of block 0x07. -/
structure Sec07 where
  gnss : GnssConfigRec := {}
  position : GnssPositionRec := {}
  gfe : GfeInitRec := {}
deriving DecidableEq, Repr

/-- The configuration of block 0x08. -/
structure Sec08 where
  ic : IcConfigRec := {}
  stop : Vector IcStopRec 8 := Vector.replicate 8 {}
deriving DecidableEq, Repr

/-- The configuration of block 0x09. -/
structure Sec09 where
  pps : Vector PpsoutRec 4 := Vector.ofFn fun i => ppsDefault i.val
  clk : Vector ClkoutRec 2 := Vector.replicate 2 {}
  tod : TodConfigRec := {}
deriving DecidableEq, Repr

/-- The configuration of block 0x0A. -/
structure Sec0A where
  group : Vector LaneGroupRec 2 := Vector.replicate 2 {}
  port : Vector PortRec 8 := Vector.replicate 8 {}
  cal : Vector PortCalRec 8 := Vector.replicate 8 {}
  /-- The serving addresses present, by instance. -/
  addr : List (Nat × ServingAddrRec) := []
  hopper : HopperConfigRec := {}
deriving DecidableEq, Repr

/-- The configuration of block 0x0B. -/
structure Sec0B where
  core : CoreConfigRec := {}
  garner : GarnerConfigRec := {}
deriving DecidableEq, Repr

/-- The configuration of block 0x0C. -/
structure Sec0C where
  ntp : NtpConfigRec := {}
  strata : List Nat := defaultStrata
  refid : Vector (Option RefidRec) 13 := Vector.replicate 13 none
  access : List (Nat × AccessRuleRec) := []
  key : List (Nat × NtsKeyRec) := []
deriving DecidableEq, Repr

/-- The configuration of block 0x0D. -/
structure Sec0D where
  ptp : PtpConfigRec := {}
  port : Vector PtpPortRec 8 := Vector.replicate 8 {}
  client : Vector PtpClientRec 2 := Vector.replicate 2 {}
  classes : ClockClassRec := {}
deriving DecidableEq, Repr

/-- The configuration of block 0x0E. -/
structure Sec0E where
  rule : List (Nat × ClassRuleRec) := []
  weir : WeirConfigRec := {}
  bucket : Vector BucketProfileRec 16 := Vector.replicate 16 {}
deriving DecidableEq, Repr

/-- The configuration of block 0x0F. -/
structure Sec0F where
  leat : LeatConfigRec := {}
  link : Vector LeatPortRec 4 := Vector.replicate 4 {}
deriving DecidableEq, Repr

/-- The configuration of block 0x10. -/
structure Sec10 where
  telem : TelemConfigRec := {}
  tally : Vector TallyRec 24 := Vector.replicate 24 {}
  sampler : Vector SamplerRec 16 := Vector.replicate 16 {}
  attn : AttnMaskRec := {}
deriving DecidableEq, Repr

/-- The configuration of block 0x12. -/
structure Sec12 where
  avs : AvsConfigRec := {}
  power : PowerConfigRec := {}
deriving DecidableEq, Repr

/-- A whole configuration: what each block's section gives, defaults standing where a record or a section is absent (R50). -/
structure Cfg where
  b02 : Sec02 := {}
  b03 : Sec03 := {}
  b04 : Sec04 := {}
  b05 : Sec05 := {}
  b06 : HoldoverConfigRec := {}
  b07 : Sec07 := {}
  b08 : Sec08 := {}
  b09 : Sec09 := {}
  b0A : Sec0A := {}
  b0B : Sec0B := {}
  b0C : Sec0C := {}
  b0D : Sec0D := {}
  b0E : Sec0E := {}
  b0F : Sec0F := {}
  b10 : Sec10 := {}
  b11 : DresserConfigRec := {}
  b12 : Sec12 := {}
deriving DecidableEq, Repr

/-- The configuration of block `b` taken from `src`, every other block's kept (R49, R50). -/
def copySection (b : Nat) (src c : Cfg) : Cfg :=
  match b with
  | 0x02 => { c with b02 := src.b02 }
  | 0x03 => { c with b03 := src.b03 }
  | 0x04 => { c with b04 := src.b04 }
  | 0x05 => { c with b05 := src.b05 }
  | 0x06 => { c with b06 := src.b06 }
  | 0x07 => { c with b07 := src.b07 }
  | 0x08 => { c with b08 := src.b08 }
  | 0x09 => { c with b09 := src.b09 }
  | 0x0A => { c with b0A := src.b0A }
  | 0x0B => { c with b0B := src.b0B }
  | 0x0C => { c with b0C := src.b0C }
  | 0x0D => { c with b0D := src.b0D }
  | 0x0E => { c with b0E := src.b0E }
  | 0x0F => { c with b0F := src.b0F }
  | 0x10 => { c with b10 := src.b10 }
  | 0x11 => { c with b11 := src.b11 }
  | 0x12 => { c with b12 := src.b12 }
  | _ => c

/-- One record's payload put into the configuration of its block (R47). -/
def putRecord (type : Nat) (p : Bytes) (c : Cfg) : Cfg :=
  let i := (p.getD 0 0).toNat
  match type with
  | 0x0201 => { c with b02 := { c.b02 with system := SystemConfigRec.read p } }
  | 0x0202 => { c with b02 := { c.b02 with label := p } }
  | 0x0301 => { c with b03 := { c.b03 with timescale := TimescaleConfigRec.read p } }
  | 0x0302 => { c with b03 := { c.b03 with utcLeap := UtcLeapRec.read p } }
  | 0x0401 => { c with b04 := { c.b04 with oscin := OscinConfigRec.read p, oscinPresent := true } }
  | 0x0402 => { c with b04 := { c.b04 with adpll := c.b04.adpll.setIfInBounds i (AdpllConfigRec.read p) } }
  | 0x0501 => { c with b05 := { c.b05 with fantail := FantailConfigRec.read p } }
  | 0x0502 => { c with b05 := { c.b05 with slot := c.b05.slot.setIfInBounds i (RefSlotRec.read p) } }
  | 0x0503 => { c with b05 := { c.b05 with qlMap := QlMapRec.read p } }
  | 0x0601 => { c with b06 := HoldoverConfigRec.read p }
  | 0x0701 => { c with b07 := { c.b07 with gnss := GnssConfigRec.read p } }
  | 0x0702 => { c with b07 := { c.b07 with position := GnssPositionRec.read p } }
  | 0x0703 => { c with b07 := { c.b07 with gfe := GfeInitRec.read p } }
  | 0x0801 => { c with b08 := { c.b08 with ic := IcConfigRec.read p } }
  | 0x0802 => { c with b08 := { c.b08 with stop := c.b08.stop.setIfInBounds i (IcStopRec.read p) } }
  | 0x0901 => { c with b09 := { c.b09 with pps := c.b09.pps.setIfInBounds i (PpsoutRec.read p) } }
  | 0x0902 => { c with b09 := { c.b09 with clk := c.b09.clk.setIfInBounds i (ClkoutRec.read p) } }
  | 0x0903 => { c with b09 := { c.b09 with tod := TodConfigRec.read p } }
  | 0x0A01 => { c with b0A := { c.b0A with group := c.b0A.group.setIfInBounds i (LaneGroupRec.read p) } }
  | 0x0A02 => { c with b0A := { c.b0A with port := c.b0A.port.setIfInBounds i (PortRec.read p) } }
  | 0x0A03 => { c with b0A := { c.b0A with cal := c.b0A.cal.setIfInBounds i (PortCalRec.read p) } }
  | 0x0A04 => { c with b0A := { c.b0A with addr := putIndexed i (ServingAddrRec.read p) c.b0A.addr } }
  | 0x0A05 => { c with b0A := { c.b0A with hopper := HopperConfigRec.read p } }
  | 0x0B01 => { c with b0B := { c.b0B with core := CoreConfigRec.read p } }
  | 0x0B02 => { c with b0B := { c.b0B with garner := GarnerConfigRec.read p } }
  | 0x0C01 => { c with b0C := { c.b0C with ntp := NtpConfigRec.read p } }
  | 0x0C02 => { c with b0C := { c.b0C with strata := p.map (·.toNat) } }
  | 0x0C03 => { c with b0C := { c.b0C with refid := c.b0C.refid.setIfInBounds i (some (RefidRec.read p)) } }
  | 0x0C04 => { c with b0C := { c.b0C with access := putIndexed i (AccessRuleRec.read p) c.b0C.access } }
  | 0x0C05 => { c with b0C := { c.b0C with key := putIndexed i (NtsKeyRec.read p) c.b0C.key } }
  | 0x0D01 => { c with b0D := { c.b0D with ptp := PtpConfigRec.read p } }
  | 0x0D02 => { c with b0D := { c.b0D with port := c.b0D.port.setIfInBounds i (PtpPortRec.read p) } }
  | 0x0D03 => { c with b0D := { c.b0D with client := c.b0D.client.setIfInBounds i (PtpClientRec.read p) } }
  | 0x0D04 => { c with b0D := { c.b0D with classes := ClockClassRec.read p } }
  | 0x0E01 => { c with b0E := { c.b0E with rule := putIndexed i (ClassRuleRec.read p) c.b0E.rule } }
  | 0x0E02 => { c with b0E := { c.b0E with weir := WeirConfigRec.read p } }
  | 0x0E03 => { c with b0E := { c.b0E with bucket := c.b0E.bucket.setIfInBounds i (BucketProfileRec.read p) } }
  | 0x0F01 => { c with b0F := { c.b0F with leat := LeatConfigRec.read p } }
  | 0x0F02 => { c with b0F := { c.b0F with link := c.b0F.link.setIfInBounds i (LeatPortRec.read p) } }
  | 0x1001 => { c with b10 := { c.b10 with telem := TelemConfigRec.read p } }
  | 0x1002 => { c with b10 := { c.b10 with tally := c.b10.tally.setIfInBounds i (TallyRec.read p) } }
  | 0x1003 => { c with b10 := { c.b10 with sampler := c.b10.sampler.setIfInBounds i (SamplerRec.read p) } }
  | 0x1004 => { c with b10 := { c.b10 with attn := AttnMaskRec.read p } }
  | 0x1101 => { c with b11 := DresserConfigRec.read p }
  | 0x1201 => { c with b12 := { c.b12 with avs := AvsConfigRec.read p } }
  | 0x1202 => { c with b12 := { c.b12 with power := PowerConfigRec.read p } }
  | _ => c

/-- An address of 16 bytes, IPv4 in the first four (R267), as one number: an IPv4 address in its IPv4-mapped form, as
frames carry it (log entry 6). -/
def addrNat (v6 : Bool) (ip : Bytes) : Nat := if v6 then beNat ip else beNat (ip.take 4) + 0xFFFF * 2 ^ 32

/-- A prefix is well formed: its length fits the address size, and no address bit beyond it is set (R327, R386). -/
def prefixOk (v6 : Bool) (len : Nat) (ip : Bytes) : Bool :=
  let w := if v6 then 128 else 32
  let a := beNat (if v6 then ip else ip.take 4)
  decide (len ≤ w) && a % 2 ^ (w - len) == 0 && (v6 || leNat (ip.drop 4) == 0)

/-- What R204, R208 and R213 require of a stop channel: the decimated rate is at most 1 MHz, the gate is used in mode 2
only, lies in its range, and holds between 3 and 65,535 stamps. -/
def icStopOk (x : IcStopRec) : Bool :=
  (x.stopMode == 0 || decide (x.nomFreqHz ≤ 1000000 * x.stopDiv)) &&
  (if x.stopMode == 2 then
    decide (1 ≤ x.gateMs ∧ x.gateMs ≤ 1000000) &&
    decide (x.nomFreqHz * x.gateMs ≤ 65535 * 1000 * x.stopDiv) && decide (3 * 1000 * x.stopDiv ≤ x.nomFreqHz * x.gateMs)
  else x.gateMs == 0)

/-- The distance from the Earth's centre that R190 requires: 6,300 km to 6,400 km. -/
def positionOk (x : GnssPositionRec) : Bool :=
  let d := x.posXMm * x.posXMm + x.posYMm * x.posYMm + x.posZMm * x.posZMm
  decide (6300000000 ^ 2 ≤ d ∧ d ≤ 6400000000 ^ 2)

/-- The sources and instances of R427. -/
def tallySourceOk (src inst : Nat) : Bool :=
  match src with
  | 0 | 3 | 4 | 5 | 6 | 8 | 13 => inst == 0
  | 1 => decide (inst ≤ 2)
  | 2 => decide (inst ≤ 7)
  | 7 => decide (inst ≤ 12)
  | 9 | 10 | 11 => decide (inst ≤ 3)
  | 12 => decide (inst ≤ 1)
  | _ => false

/-- What R239 and R265 require of a port: a unicast nonzero address where it is enabled, and no auto-negotiation or
training with `PMD_TYPE` 0. -/
def portRecOk (x : PortRec) : Bool :=
  (!x.portEn || (x.portMac != 0 && !bitAt x.portMac 40)) && (x.pmdType != 0 || (!x.anEn && !x.ltEn))

/-- What R267 requires of a serving address: not multicast, broadcast, unspecified or loopback; IPv4 in the first four
bytes and the others zero. -/
def servingAddrOk (x : ServingAddrRec) : Bool :=
  if x.addrV6 then
    let a := beNat x.addrIp
    a != 0 && a != 1 && (x.addrIp.getD 0 0) != 0xFF
  else
    let b := (x.addrIp.getD 0 0).toNat
    beNat (x.addrIp.take 4) != 0 && b != 127 && decide (b < 224 ∨ 240 ≤ b) && beNat (x.addrIp.take 4) != 0xFFFFFFFF &&
    leNat (x.addrIp.drop 4) == 0

/-- The transports R331 admits for a profile. -/
def transportOk (profile transport : Nat) : Bool :=
  match profile with
  | 0 => decide (transport ≤ 2)
  | 1 => transport == 0
  | _ => decide (1 ≤ transport ∧ transport ≤ 3)

/-- The ranges R331 and R362 give a PTP port by its profile. -/
def ptpPortOk (x : PtpPortRec) : Bool :=
  transportOk x.profile x.transport &&
  match x.profile with
  | 0 => decide (x.domain ≤ 127) && decide (-7 ≤ x.logSync ∧ x.logSync ≤ 1) && decide (-3 ≤ x.logAnnounce ∧ x.logAnnounce ≤ 3) &&
      decide (-7 ≤ x.logMinDreq ∧ x.logMinDreq ≤ 5)
  | 1 => x.logSync == -4 && x.logAnnounce == -3 && x.logMinDreq == -4
  | _ => decide (-7 ≤ x.syncLogMin ∧ x.syncLogMin ≤ 0) && decide (-3 ≤ x.annLogMin ∧ x.annLogMin ≤ 0)

/-- The ranges R363 gives a client instance by its profile. -/
def ptpClientOk (x : PtpClientRec) : Bool :=
  transportOk x.cProfile x.cTransport && (x.cProfile != 0 || decide (x.cDomain ≤ 127)) &&
  (if x.cProfile == 2 then decide (1 ≤ x.cMasterCnt ∧ x.cMasterCnt ≤ 4) else x.cMasterCnt == 0)

/-- The records whose own fields decide their range, by type (R47, cause 0x14). Ranges that need other records or the
device's state are judged with the section. -/
def recordInRange (type : Nat) (p : Bytes) : Bool :=
  let i := (p.getD 0 0).toNat
  match type with
  | 0x0201 => (SystemConfigRec.read p).inRange
  | 0x0301 => (TimescaleConfigRec.read p).inRange
  | 0x0302 => (UtcLeapRec.read p).inRange
  | 0x0401 => (OscinConfigRec.read p).inRange
  | 0x0402 => (AdpllConfigRec.read p).inRange && adpllInstanceOk i (AdpllConfigRec.read p)
  | 0x0501 => (FantailConfigRec.read p).inRange
  | 0x0502 => (RefSlotRec.read p).inRange && refSlotInstanceOk i (RefSlotRec.read p)
  | 0x0503 => (QlMapRec.read p).inRange
  | 0x0601 => (HoldoverConfigRec.read p).inRange
  | 0x0701 => (GnssConfigRec.read p).inRange
  | 0x0702 => positionOk (GnssPositionRec.read p)
  | 0x0703 => (GfeInitRec.read p).inRange p
  | 0x0801 => (IcConfigRec.read p).inRange
  | 0x0802 => (IcStopRec.read p).inRange && icStopOk (IcStopRec.read p)
  | 0x0901 => (PpsoutRec.read p).inRange
  | 0x0902 => (ClkoutRec.read p).inRange
  | 0x0903 => (TodConfigRec.read p).inRange
  | 0x0A01 => (LaneGroupRec.read p).inRange
  | 0x0A02 => (PortRec.read p).inRange && portRecOk (PortRec.read p)
  | 0x0A03 => (PortCalRec.read p).inRange
  | 0x0A04 => (ServingAddrRec.read p).inRange && servingAddrOk (ServingAddrRec.read p)
  | 0x0A05 => (HopperConfigRec.read p).inRange
  | 0x0B01 => (CoreConfigRec.read p).inRange
  | 0x0B02 => (GarnerConfigRec.read p).inRange
  | 0x0C01 => (NtpConfigRec.read p).inRange
  | 0x0C02 => p.all fun b => decide (1 ≤ b.toNat ∧ b.toNat ≤ 16)
  | 0x0C03 => (RefidRec.read p).inRange
  | 0x0C04 => let x := AccessRuleRec.read p; x.inRange && prefixOk x.accV6 x.accPrefixLen x.accAddr
  | 0x0D01 => (PtpConfigRec.read p).inRange
  | 0x0D02 => (PtpPortRec.read p).inRange && ptpPortOk (PtpPortRec.read p)
  | 0x0D03 => (PtpClientRec.read p).inRange && ptpClientOk (PtpClientRec.read p)
  | 0x0E01 => let x := ClassRuleRec.read p; x.inRange && prefixOk x.crV6 x.crPrefixLen x.crAddr
  | 0x0E02 => (WeirConfigRec.read p).inRange
  | 0x0E03 => (BucketProfileRec.read p).inRange
  | 0x0F01 => (LeatConfigRec.read p).inRange
  | 0x0F02 => (LeatPortRec.read p).inRange
  | 0x1001 => (TelemConfigRec.read p).inRange
  | 0x1002 => (TallyRec.read p).inRange && tallySourceOk (TallyRec.read p).tallySrc (TallyRec.read p).tallyInst
  | 0x1003 => (SamplerRec.read p).inRange
  | 0x1004 => let x := AttnMaskRec.read p; x.inRange && leNat (x.attnOffCode.drop (2 * x.attnOffCount)) == 0
  | 0x1101 => (DresserConfigRec.read p).inRange
  | 0x1201 => (AvsConfigRec.read p).inRange
  | 0x1202 => (PowerConfigRec.read p).inRange
  | _ => true

/-- A record type silicon revision A0 recognises (R58). -/
def recordKnown (type : Nat) : Bool := (recordLen type).isSome || type == 0x0703

end Sys2Proof.Machine
end

