-- ==== Sys2Proof/Machine/State.lean ====
section
/-!
DEFINITION. The state of the block: every register, queue, buffer, counter, mode and pin the manual gives it, as plain data,
and the queue of commands that wait.
-/

namespace Sys2Proof.Machine

/-- The six modes of R20. -/
inductive Mode
  | retain | load | acquire | locked | holdover | safe
deriving DecidableEq, Repr

/-- What the device entered LOAD from (R21): RETAIN, `RESET_N`, SAFE, or a reload from ACQUIRE, LOCKED or HOLDOVER. -/
inductive LoadKind
  | retain | resetN | safe | reload
deriving DecidableEq, Repr

/-- The reset in force while `RESET_N` is low (R479). -/
inductive ResetHeld
  | none | warm | cold
deriving DecidableEq, Repr

/-- The states of the timebase (R93). -/
inductive TbState
  | normal | direct | dcoHold | freeRun
deriving DecidableEq, Repr

/-- The states of an ADPLL (R108). -/
inductive AdpllState
  | off | acquiring | qualifying | locked | wordHold | dcoHold | retired
deriving DecidableEq, Repr

/-- The time value of R64 and R65, and what each step of the passing of time needs of it. -/
structure Timebase where
  /-- The 1.25 GHz or OSCIN clock of R93 advances the value. -/
  running : Bool := false
  /-- TAI seconds, 48 bits. -/
  sec : Nat := 0
  /-- The part below one second, in units of 0.8 × 2⁻⁴⁸ ns, below `subPerSec`. -/
  sub : Nat := 0
  /-- The rate word W. -/
  w : Int := 0
  /-- What an OSCIN edge leaves over in DIRECT, in 972nds of a unit of `sub`. -/
  directRem : Nat := 0
  stepCount : Nat := 0
  lastStepSec : Int := 0
  lastStepNs : Int := 0
  /-- The second whose marker was raised last (R69). -/
  markerSec : Nat := 0
  /-- The Governor tick taken last: 64 × seconds + tick of the second (R514). -/
  lastTick : Nat := 0
deriving DecidableEq, Repr

/-- TAI−UTC and at most one scheduled change (R76). -/
structure UtcSchedule where
  offset : Int := 37
  leapDir : Int := 0
  leapTime : Nat := 0
deriving DecidableEq, Repr

/-- The timescale block (R66 to R79). -/
structure Timescale where
  stepArmed : Bool := false
  rateClamped : Bool := false
  slewLimited : Bool := false
  /-- `UTC_SOURCE`: 0 image, 1 PTP, 2 GNSS. -/
  utcSource : Nat := 0
  utc : UtcSchedule := {}
  leapFrozen : Bool := false
  /-- `LEAP_TIME` had passed when the schedule in use took effect, so that no freeze is entered for it (R79). -/
  schedulePast : Bool := false
  /-- The effective offset last announced by event 0x0308. -/
  utcOffsetNow : Int := 37
deriving DecidableEq, Repr

/-- One ADPLL (R86 to R98). -/
structure Adpll where
  st : AdpllState := .off
  /-- Consecutive windows in lock, up to 4. -/
  windows : Nat := 0
  countDev : Int := 0
  phaseErr : Int := 0
  tune : Nat := 0
  /-- Its mean tuning word of the last window that ended in lock, since it started at its present ratio (R92). -/
  saved : Option Nat := none
  /-- Keeps its role on its held word (R96). -/
  held : Bool := false
  /-- Pulls in after OSCIN was restored (R103). -/
  pulling : Bool := false
  /-- Retries since the last lock qualification (R98, R453). -/
  retries : Nat := 0
  /-- Unlock declarations of the last 24 h, by device clock (R453). -/
  unlocks : List Nat := []
deriving DecidableEq, Repr

/-- The timebase clock block: OSCIN, the ADPLLs and their roles (R84 to R105). -/
structure Pll where
  tbState : TbState := .normal
  adpll : Vector Adpll 4 := Vector.replicate 4 {}
  roleTb : Fin 4 := 0
  roleCk : Fin 4 := 1
  roleSd : Fin 4 := 2
  /-- The roles no ADPLL is left for (R87). -/
  unfilled : List Role := []
  /-- The roles whose feedback does not follow W now, until the Governor tick after they may again (R88, R96, R102). -/
  unfollowed : List Role := []
  spare : Option (Fin 4) := none
  /-- The role the spare has been assigned to and has not yet taken over (R95, R97). -/
  incoming : Option (Role × Fin 4) := none
  /-- The tuning word saved for each role (R92): `TB`, `SD`, `CK`. -/
  savedTb : Option Nat := none
  savedSd : Option Nat := none
  savedCk : Option Nat := none
  oscinPresent : Bool := false
  oscFault : Bool := false
  /-- PD1 has powered up, and the count of R85 is still to come. -/
  detectDue : Bool := false
  detectValid : Bool := false
  /-- `OSCIN_DETECTED`: 0 to 4, 7 none. -/
  detected : Nat := 7
  measHz : Nat := 0
  /-- `CK` outputs are muted until the role requalifies (R105). -/
  ckRetune : Bool := false
  /-- The device clock when `DCO_HOLD` or `FREE_RUN` began. -/
  holdSince : Nat := 0
  /-- Time in DIRECT not yet counted as a whole microsecond, in units of the device clock. -/
  directAcc : Nat := 0
  /-- The `OSCIN_CONFIG` in force since the last load with the timebase stopped (R105). -/
  oscin : OscinConfigRec := {}
  /-- The timebase was running when LOAD was entered last, so that this load may not change `oscin` (R50, R105). -/
  oscinFixed : Bool := false
deriving DecidableEq, Repr

/-- What the header of a slot gave (R35, checks 1 to 5). -/
structure SlotHeader where
  signed : Bool := false
  seq : Nat := 0
  len : Nat := 0
  bodyCrc : Nat := 0
  raw : Bytes := []
  /-- 0x00, or the cause of the first check that failed. -/
  cause : Nat := 0x01
deriving DecidableEq, Repr

/-- The two slots of R31. -/
inductive Slot
  | a | b
deriving DecidableEq, Repr

/-- A section being received in the parse pass (R45). -/
structure OpenSection where
  block : Nat
  /-- The records before the end record, the skipped ones apart: offset in the body, type, payload. -/
  recs : List (Nat × Nat × Bytes) := []
  /-- Bytes of the section so far, for `SEC_CRC`: the CRC register (R46). -/
  crc : BitVec 32 := BitVec.allOnes 32
  count : Nat := 0
  /-- Offset of its last record, skipped ones included. -/
  last : Nat := 0
deriving DecidableEq, Repr

/-- The loader (R35 to R56). -/
structure Loader where
  /-- `LOAD_STAGE`: 0 idle, 1 NVM wake, 2 verification, 3 parse, 4 awaiting tick. -/
  stage : Nat := 0
  activeSlot : Slot := .a
  fallbackUsed : Bool := false
  sigUnchecked : Bool := false
  nvCs1Present : Bool := false
  activeSeq : Nat := 0
  causeA : Nat := 0
  seqA : Nat := 0
  causeB : Nat := 0
  seqB : Nat := 0
  failBlock : Nat := 0
  failCause : Nat := 0
  failOffset : Nat := 0
  sectionsActive : Nat := 0
  sectionsPending : Nat := 0
  loadTimeUs : Nat := 0
  loadCount : Nat := 0
  jedec0 : Nat := 0
  jedec1 : Nat := 0
  /-- Device clock at LOAD entry. -/
  entered : Nat := 0
  hdrA : SlotHeader := {}
  hdrB : SlotHeader := {}
  trying : Slot := .a
  /-- The slot being tried is not the first tried in this LOAD. -/
  second : Bool := false
  /-- Body bytes the verification pass read, with the header bytes and the trailer. -/
  verBody : Bytes := []
  verTrailer : Bytes := []
  /-- Offset of the next record of the parse pass. -/
  offset : Nat := 0
  /-- The CRC register of the parse pass (R38). -/
  parseCrc : BitVec 32 := BitVec.allOnes 32
  opened : Option OpenSection := none
  lastBlock : Nat := 0
  unknownSeen : Bool := false
  /-- The image being parsed is signed and its trailer was not checked. -/
  pendUnchecked : Bool := false
  pend : Cfg := {}
deriving DecidableEq, Repr

/-- A JTAG `OTP_ACCESS` command in progress (R62). -/
structure Otp where
  /-- Words 0 to 16. -/
  word : Vector (BitVec 32) 17 := Vector.replicate 17 0
  busy : Bool := false
  refused : Bool := false
  result : BitVec 32 := 0
  /-- The word a `PROGRAM` in progress writes, and its data. -/
  programming : Option (Fin 17 × BitVec 32) := none
  /-- The TAP has an instruction other than its reset one (R478): the last `OTP_ACCESS` shifted in. -/
  tapOtpAccess : Bool := false
deriving DecidableEq, Repr

/-- A stamp of R67: seconds, nanoseconds and fraction, with the flag of R94. -/
structure Stamp where
  sec : Nat := 0
  ns : Nat := 0
  frac : Nat := 0
  degraded : Bool := false
deriving DecidableEq, Repr

/-- An entry of the event ring (R424), in the fields its words are made of. -/
structure EvEntry where
  code : Nat := 0
  inst1 : Nat := 0xFF
  inst2 : Nat := 0xFF
  stamp : Stamp := {}
  compact : Bool := false
  stepEpoch : Nat := 0
  marker : Bool := false
  masked : Bool := false
  valid : Bool := false
  stepMarker : Bool := false
deriving DecidableEq, Repr

/-- What a command reports: the event ring, `ATTN_N`, and the counters that a Window read clears. -/
structure Report where
  /-- Newest entry first, at most 1,024 (R423). -/
  ring : List EvEntry := []
  evHead : Nat := 0
  attnPending : Nat := 0
  /-- `ATTN_N` driven low. -/
  attnLow : Bool := false
  /-- Entries written to the event ring since the last in-band report took its entries (R437). -/
  unsent : Nat := 0
  /-- The RC fields by Window word address: rising addresses, none zero, each within its field's width (R10). -/
  cnt : List (Nat × Nat) := []
deriving DecidableEq, Repr

/-- One thing a command reports, in the order reported. -/
inductive Note
  /-- An event or a marker for the ring. -/
  | entry (e : EvEntry)
  /-- An RC field counts on. -/
  | count (addr n : Nat)
  /-- A Window read took this much from an RC field (R420). -/
  | taken (addr n : Nat)
  /-- A Window read took this much from `ATTN_PENDING`. -/
  | attnTaken (n : Nat)
  /-- An in-band report has taken the entries but the newest `left` (R437, R438). -/
  | reported (left : Nat)
  /-- The RC fields of a block are reset. -/
  | clearBlock (block : Nat)
  /-- RC fields from one address to another are reset. -/
  | clearRange (lo hi : Nat)
  /-- The ring is emptied and `ATTN_N` released (R423, R425). -/
  | clearRing
deriving DecidableEq, Repr

/-- What a Tally monitor has accumulated (R427). -/
structure TallyAcc where
  count : Nat := 0
  sum : Int := 0
  min : Int := 0
  max : Int := 0
  neg : Nat := 0
  /-- Histogram bins that are not zero, by bin. -/
  bins : List (Nat × Nat) := []
  sat : Bool := false
  step : Bool := false
  isPartial : Bool := false
deriving DecidableEq, Repr

/-- A Tally monitor (R427 to R430). -/
structure Monitor where
  live : TallyAcc := {}
  published : Option TallyAcc := none
  setSeq : Nat := 0
deriving DecidableEq, Repr

/-- A sample record (R434). -/
structure SampleRec where
  idx : Nat := 0
  ms : Nat := 63
  port : Nat := 0
  cls : Nat := 0
  /-- `SMP_KIND`. -/
  kind : Nat := 7
  marker : Bool := false
  valid : Bool := false
  stepMarker : Bool := false
  gap : Bool := false
  degraded : Bool := false
  src : Nat := 0
  stepEpoch : Nat := 0
  stamp : Stamp := {}
  compact : Bool := false
  latencyPs : Nat := 0xFFFFFFFF
  queueNs : Nat := 0
  tag : Nat := 0
  /-- The record follows one lost to a full queue, so that its writing issues event 0x1005. -/
  afterLoss : Bool := false
deriving DecidableEq, Repr

/-- A sampler (R433): its count, and the records it owes to the queue. -/
structure SamplerState where
  remain : Nat := 0
  /-- Ledger time of each Millstone not yet counted as a whole 1,000 ns, in units of the device clock. -/
  acc : List (Nat × Nat) := []
  due : List SampleRec := []
deriving DecidableEq, Repr

/-- The telemetry block (R418 to R441), the event ring apart. -/
structure Telemetry where
  /-- Latched Window words by address (R421). -/
  latches : List (Nat × Nat) := []
  monitor : Vector Monitor 24 := Vector.replicate 24 {}
  sampler : Vector SamplerState 16 := Vector.replicate 16 {}
  /-- Sample records waiting for the ring, oldest first, at most 64. -/
  smpQueue : List SampleRec := []
  /-- The samplers have restarted after a reload, and no record has been written since (R441). -/
  smpGap : Bool := false
  /-- A record was lost since the last one queued (R434). -/
  smpLost : Bool := false
  /-- Newest first, at most 1,024. -/
  smpRing : List SampleRec := []
  smpHead : Nat := 0
  telemSeq : Nat := 0
  /-- Entries written to the sample and capture rings since the last report took its entries. -/
  smpUnsent : Nat := 0
  icUnsent : Nat := 0
  /-- Entries were lost or not sent before the next datagram of a stream (R437, R439). -/
  evGap : Bool := false
  smpStreamGap : Bool := false
  icGap : Bool := false
  /-- When an event limited to one a second was last issued: code, instance, device clock. -/
  lastIssued : List (Nat × Nat × Nat) := []
deriving DecidableEq, Repr

/-- A retention item in its two copies (R475): each with its write count; `next` says which is written next. -/
structure Kept (α : Type) where
  copy0 : Option (Nat × α) := none
  copy1 : Option (Nat × α) := none
  next : Bool := false
deriving DecidableEq, Repr

/-- The RTC's retention item (R474). -/
structure RtcItem where
  sec : Nat := 0
  valid : Bool := false
  /-- Crystal cycles since the last alignment. -/
  sinceAlign : Nat := 0
  tolPpm : Nat := 50
deriving DecidableEq, Repr

/-- The oscillator model (R144 to R147). -/
structure ModelItem where
  y0 : Rat := 0
  a : Rat := 0
  sy : Rat := 0
  tFit : Nat := 0
  age : Nat := 0
  state : Nat := 0
deriving DecidableEq, Repr

/-- The retired maps, the stress age and the reserve counts of R452. -/
structure MapsItem where
  /-- Retired units by kind code: bit n for unit n. -/
  retired : Vector Nat 12 := Vector.replicate 12 0
  stressAge : Rat := 0
  /-- `RSVk_COUNT` by kind code. -/
  reserves : Vector Nat 12 := Vector.replicate 12 0
deriving DecidableEq, Repr

/-- The last position with its source (R173): `POS_SOURCE` as R192 codes it. -/
structure RetPosition where
  x : Int := 0
  y : Int := 0
  z : Int := 0
  source : Nat := 1
deriving DecidableEq, Repr

/-- PD0: the RTC and the retention RAM (R474 to R476). -/
structure Pd0 where
  /-- PD0 draws from `VDDIO` (R469). -/
  onVddio : Bool := false
  rtcRunning : Bool := false
  rtcValid : Bool := false
  /-- TAI seconds of the RTC, 48 bits, and crystal cycles of the second. -/
  rtcSec : Nat := 0
  rtcSub : Nat := 0
  /-- Crystal cycles since the last alignment. -/
  sinceAlign : Nat := 0
  tolPpm : Nat := 50
  /-- Crystal cycles since RETAIN was entered. -/
  inRetain : Nat := 0
  rtcItem : Kept RtcItem := {}
  model : Kept ModelItem := {}
  almanac : Kept (List (Nat × Nat)) := {}
  ephemeris : Kept (List (Nat × Nat)) := {}
  position : Kept RetPosition := {}
  utcParams : Kept GpsUtc := {}
  cn0Table : Kept (List (Nat × Nat)) := {}
  maps : Kept MapsItem := {}
  retainCnt : Kept Nat := {}
deriving DecidableEq, Repr

/-- `AVS_STATE` (R490). -/
inductive AvsState
  | disabled | awaiting | active | fault
deriving DecidableEq, Repr

/-- The AVS controller (R480 to R483). -/
structure Avs where
  st : AvsState := .disabled
  setMv : Nat := 0
  /-- The exponent N of the regulator's linear `VOUT_MODE`. -/
  exponent : Int := 0
  atMax : Bool := false
  ioutMa : Nat := 0
  statusWord : Nat := 0
  /-- Consecutive transactions not acknowledged or failing PEC. -/
  nakRun : Nat := 0
  /-- Device clock of the last `VOUT_COMMAND`; the next waits `AVS_SETTLE_US`. -/
  lastWrite : Option Nat := none
  /-- A set point the loop asked for before the settling time had passed. -/
  wanted : Option Nat := none
  /-- `READ_VOUT` is due 1 ms after the last write. -/
  checkDue : Bool := false
  /-- Device clock of the takeover; the loop begins at the next tick (R481, R482). -/
  takenAt : Option Nat := none
deriving DecidableEq, Repr

/-- What the on-die converters measured last (R484): rails in the order of R467, in mV. -/
structure Monitors where
  vbat : Nat := 0
  vddio : Nat := 0
  vddioB : Nat := 0
  vcore : Nat := 0
  vtb : Nat := 0
  vmem : Nat := 0
  vsa : Nat := 0
  vsh : Nat := 0
  tjCenti : Int := 0
  /-- `VDDIO_B` takes its 3.3 V range (R498), by its first measurement after `PGOOD` rises. -/
  vddioB33 : Option Bool := none
  vbatLow : Bool := false
  tjAlarm : Bool := false
  tjCritical : Bool := false
deriving DecidableEq, Repr

/-- Power, mode and reset (R20 to R26, R467 to R479). -/
structure Power where
  mode : Mode := .retain
  /-- What LOAD was entered from, while in LOAD. -/
  loadKind : LoadKind := .retain
  /-- The mode a reload left (R21). -/
  modeLeft : Mode := .acquire
  resetHeld : ResetHeld := .none
  /-- Bit n: PDn powered. -/
  domainOn : Nat := 1
  /-- Domains whose power-up has been started or waits its turn, in the order of R471. -/
  powering : List Nat := []
  resetCause : Nat := 0
  /-- Device clock at the last exit from RETAIN. -/
  exitAt : Nat := 0
  retainS : Nat := 0
  /-- An apply tick has passed since the load from RETAIN or `RESET_N` (R425, R481). -/
  applied : Bool := false
  /-- Bits 5, 6 and 11: the lanes of that domain are calibrated against `SDCAL` since it powered up (R504). -/
  lanesCal : Nat := 0
  /-- `PGOOD` was low at the entry to RETAIN, or there has been none (R470, R496). -/
  pgoodLow : Bool := true
  /-- Device clock at the last entry to SAFE, by which a reload of the same moment is discarded (R22). -/
  safeAt : Option Nat := none
deriving DecidableEq, Repr

/-- The states of a reference slot (R117). -/
inductive RefState
  | disabled | noSignal | qualifying | wtr | eligible | selected | disputed | outvoted | quarantined | unavailable
  | qlUnusable | offTime
deriving DecidableEq, Repr

/-- One reference slot (R110 to R129). -/
structure RefSlot where
  st : RefState := .disabled
  /-- A sample has arrived since the signal was last lost. -/
  signal : Bool := false
  /-- `REFn_QL` (R116); 15 before any was taken (DESIGN CHOICE, log entry 80). -/
  ql : Nat := 15
  /-- Filtered phase x (R113). -/
  x : Units := 0
  /-- Frequency offset y in ppb (R111). -/
  y : Rat := 0
  /-- Filtered samples of the last 16 s, newest first: timebase instant and x. -/
  samples : List (Units × Units) := []
  /-- Consecutive samples discarded under R121. -/
  jumpRun : Nat := 0
  /-- Has been ELIGIBLE or SELECTED since the last load from RETAIN or `RESET_N` (R120). -/
  returning : Bool := false
  /-- Device clock when wait-to-restore began. -/
  wtrSince : Nat := 0
  partner : Option (Fin 13) := none
  /-- The bit of `RETURN_HELD` (R154). -/
  held : Bool := false
  /-- Released from the return window for the rest of this holdover (R155). -/
  released : Bool := false
  /-- Awaited after a reload (R138): the state it had when the reload was recognised stands in `st`. -/
  awaited : Bool := false
  /-- The state a slot of `REF5` to `REF10` had when LOAD was entered. -/
  prior : RefState := .disabled
  /-- What the owning block of `REF4` to `REF10` delivered last. -/
  delivered : Option Units := none
  /-- Received SSM code and extended QL TLV of `REF11` and `REF12`; none for 5 s without ESMC (R116). -/
  ssm : Option (Nat × Option EsmcTlv) := none
deriving DecidableEq, Repr

/-- The Fantail's selection and the Governor's loop (R123 to R138). -/
structure Governor where
  sel : Option (Fin 13) := none
  /-- Build-out B. -/
  b : Units := 0
  /-- Loop input e = x − B. -/
  e : Units := 0
  /-- Integrator I, ppb. -/
  i : Rat := 0
  /-- Loop output yc of the last tick, ppb. -/
  yc : Rat := 0
  ycSum : Rat := 0
  ycTicks : Nat := 0
  /-- The conditions of R145 held on every tick of the second so far. -/
  learnOk : Bool := false
  /-- W of the last 64 ticks, newest first (R149). -/
  rates : List Int := []
  /-- The e last fed by the selected slot (R148), zero from its switch on (R130). -/
  lastFed : Units := 0
  /-- The QL under which the selected slot last fed the Governor (R148). -/
  fedQl : Nat := 15
  /-- The QL used for the stratum while a time or phase reference was last selected (R306). -/
  timeQl : Nat := 15
  /-- A lock is due at the first tick after this one, by the tick numbers of R514, on which a time or phase reference is selected
  and feeds (R134): the apply tick of a reload. -/
  lockAfter : Option Nat := none
  /-- Device clock at the last switch, and at the last lock with a step (R145). -/
  switchAt : Option Nat := none
  stepAt : Option Nat := none
  /-- The 2 s after LOAD by reload (R138). -/
  grace : Bool := false
  /-- OSCIN was lost in LOCKED, and the mode change of R23 is due on the next tick. -/
  oscinLost : Bool := false
  /-- `TB` must complete a lock qualification before a return to LOCKED (R23). -/
  needQualify : Bool := false
  integrityCause : Nat := 0
  /-- The tick whose step 2 a command of its step 3 or 4 has processed (R125). -/
  slotsTick : Option Nat := none
deriving DecidableEq, Repr

/-- The weighted sums of the oscillator model's fit (R144), with times in seconds before the last marker. -/
structure FitSums where
  w : Rat := 0
  t : Rat := 0
  tt : Rat := 0
  y : Rat := 0
  ty : Rat := 0
  yy : Rat := 0
deriving DecidableEq, Repr

/-- The holdover block (R144 to R158). -/
structure Holdover where
  /-- `MODEL_STATE`: 0 EMPTY, 1 LEARNING, 2 TRAINED. -/
  modelState : Nat := 0
  restored : Bool := false
  y0 : Rat := 0
  /-- Drift in ppb per second. -/
  a : Rat := 0
  sy : Rat := 0
  tFit : Nat := 0
  age : Nat := 0
  sums : FitSums := {}
  learnPaused : Bool := true
  /-- `HO_STATE`: 0, 1 within budget, 2 to 4 expired in category 1 to 3. -/
  st : Nat := 0
  /-- F is that of the DCO regime (R150). -/
  dco : Bool := false
  /-- `HO_QL` (R148, R161); 15 before any holdover (DESIGN CHOICE, log entry 80). -/
  ql : Nat := 15
  lastSlot : Option (Fin 13) := none
  remaining : Nat := 0
  /-- Predicted error E, ns. -/
  e : Rat := 0
  /-- E is kept after a frequency reference ended HOLDOVER (R156). -/
  kept : Bool := false
  entryErr : Rat := 0
  /-- Instant of entry, and up to which E has been counted. -/
  entry : Units := 0
  counted : Units := 0
  elapsed : Nat := 0
  /-- Junction temperature at entry, 0.01 °C. -/
  entryTj : Int := 0
  /-- F, ppb. -/
  f : Rat := 0
  integrityCause : Nat := 0
  /-- The mean W of the 64 ticks before entry (R149), as a rate in ppb. -/
  entryRate : Rat := 0
  /-- The parameters in force, replaced at the next second after a section 0x06 (R159). -/
  par : HoldoverConfigRec := {}
deriving DecidableEq, Repr

/-- `PPSn_STATE` (R234). -/
inductive PpsState
  | off | armed | done | periodic | lateNotFired
deriving DecidableEq, Repr

/-- A pulse output (R216 to R221). -/
structure PpsOut where
  st : PpsState := .off
  pulseLate : Bool := false
  lateFired : Bool := false
  muted : Bool := true
  high : Bool := false
  /-- Timebase instant at which the pulse that is high falls, moved with every step (R220). -/
  fallAt : Units := 0
  /-- The next scheduled edge, TAI nanoseconds. -/
  next : Option Nat := none
  /-- An edge that fell due while an old pulse was high is made at its fall (R219). -/
  deferred : Bool := false
deriving DecidableEq, Repr

/-- What a clock output drives on its balls (R222): the `CK` DCO periods of one of its own, those of them for which `_P` is high, and
whether `_N` is the complement of `_P` or low. -/
structure ClkDrive where
  period : Nat
  high : Nat
  complement : Bool
deriving DecidableEq, Repr

/-- A clock output (R222 to R224). -/
structure ClkOut where
  running : Bool := false
  muted : Bool := true
  aligned : Bool := false
  /-- A restart of the divider is due at the next second boundary (R224). -/
  alignDue : Bool := false
  /-- `CLKn_DIV_ACT`. -/
  divAct : Nat := 300
  /-- The balls toggle as this says; held low where none. -/
  drive : Option ClkDrive := none
deriving DecidableEq, Repr

/-- What a $GHTOD sentence says, latched at its marker (R226, R227). -/
structure TodContent where
  sec : Nat := 0
  utcOffset : Int := 0
  leapState : Nat := 0
  mode : Nat := 0
  ql : Nat := 15
  hoSec : Nat := 0
  timeValid : Bool := false
  oscFault : Bool := false
  leapFrozen : Bool := false
  /-- A step was applied between the marker and byte 0. -/
  stepped : Bool := false
  /-- The instant byte 0 begins, moved with every step (R226). -/
  start : Units := 0
deriving DecidableEq, Repr

/-- The pulse, clock and ToD outputs (R216 to R230). -/
structure Outputs where
  pps : Vector PpsOut 4 := Vector.replicate 4 {}
  clk : Vector ClkOut 2 := Vector.replicate 2 {}
  /-- The sentences due, latched at their markers, oldest first. -/
  todDue : List TodContent := []
  /-- The sentence sent last, until its echo is checked. -/
  todSent : Option Bytes := none
deriving DecidableEq, Repr

/-- What a capture record describes (`REC_CH` of R206). -/
inductive IcRecKind
  | stop (ch : Fin 8)
  | start
  | marker
  | freq (ch : Fin 8)
deriving DecidableEq, Repr

/-- A capture, frequency or marker record (R206, R207). -/
structure IcRec where
  kind : IcRecKind := .marker
  index : Nat := 0
  stepEpoch : Nat := 0
  coincident : Bool := false
  overflow : Bool := false
  spacing : Bool := false
  gap : Bool := false
  degraded : Bool := false
  step : Bool := false
  synth : Bool := false
  valid : Bool := false
  stamp : Stamp := {}
  compact : Bool := false
  /-- Interval in ps. -/
  interval : Nat := 0
  window : Nat := 0
  freqN : Nat := 0
  /-- `FREQ_RESULT`, 10⁻¹⁸. -/
  freqResult : Int := 0
  /-- The record follows one lost to a full queue, so that its writing issues event 0x0806. -/
  afterLoss : Bool := false
  /-- The instant it describes (R205), and the steps of the time before it (R70): the order of the records. -/
  instant : Units := 0
  seg : Nat := 0
deriving DecidableEq, Repr

/-- An edge that has been converted and waits for those that may still come before it, its delay subtracted (R196). -/
structure IcEdge where
  chan : IcChan
  instant : Units
  /-- What the mutual-exclusion element decided of a stop against the start (R201); none of an edge produced by arithmetic. -/
  startFirst : Option Bool := none
  degraded : Bool := false
  /-- Of a stamped edge: one before it was discarded (R204). -/
  spacing : Bool := false
deriving DecidableEq, Repr

/-- A gate whose stamps are all taken and whose result is not computed yet (R208). -/
structure IcGate where
  stamps : List Units := []
  degraded : Bool := false
  /-- A step, a LOAD or a cell swap fell into it (R209). -/
  bad : Bool := false
  /-- A step fell into it (R199). -/
  step : Bool := false
  /-- TAI nanoseconds of its end. -/
  stop : Nat := 0
  /-- `STOP_DIV` and `NOM_FREQ_HZ` of the gate, and the steps of the time before it ended (R70). -/
  div : Nat := 1
  nom : Nat := 1
  seg : Nat := 0
deriving DecidableEq, Repr

/-- A stop channel (R201 to R210). -/
structure IcStop where
  cell : Option (Fin 12) := none
  fault : Bool := false
  /-- Edges accepted in the open window. -/
  stops : Nat := 0
  /-- The channel's part of the open window is closed (R211). -/
  shut : Bool := false
  /-- The overflow record of the open window has been written. -/
  overflowed : Bool := false
  lastEdge : Option Units := none
  /-- The most recent edge, which a start that follows within 3 ps may still claim, and the counter that counted it (R201). -/
  recent : Option (Units × Option Nat) := none
  spacingDue : Bool := false
  gapDue : Bool := false
  /-- Edges counted towards the next `STOP_DIV`-th. -/
  divCount : Nat := 0
  gate : Option IcGate := none
  /-- Gates that have ended and whose results are not computed yet, oldest first (R208). -/
  closed : List IcGate := []
  freqResult : Int := 0
  freqErr : Nat := 0
deriving DecidableEq, Repr

/-- The interval counter (R194 to R211). -/
structure IntervalCounter where
  startCell : Option (Fin 12) := none
  stop : Vector IcStop 8 := Vector.replicate 8 {}
  /-- Conversion pairs in use, by cell. -/
  busy : Vector Nat 12 := Vector.replicate 12 0
  /-- Calibrated fine step of each cell in fs (R198); before the first calibration the nominal 1 ps (DESIGN CHOICE, log entry 2). -/
  calFs : Vector Nat 12 := Vector.replicate 12 1000
  windowOpen : Bool := false
  /-- The corrected start of the open window, moved with every step so that intervals are not. -/
  startAt : Units := 0
  startDegraded : Bool := false
  windowStep : Bool := false
  windowSeq : Nat := 0
  lastStart : Option Units := none
  /-- `ARM_MODE` 2: no start has been taken since the apply tick. -/
  singleArmed : Bool := false
  gapDue : Bool := false
  /-- The start channel's next record carries `GAP` (R211). -/
  startGap : Bool := false
  lossDue : Bool := false
  /-- Steps of the time so far, as the counter numbers them. -/
  steps : Nat := 0
  /-- Edges whose place in the order is not settled, by the instants they left their sources (R196). -/
  line : List IcEdge := []
  /-- Records waiting for the ring, in the order of what they describe (R205), at most 256. -/
  queue : List IcRec := []
  /-- Newest first, at most 2,048. -/
  ring : List IcRec := []
  head : Nat := 0
deriving DecidableEq, Repr

/-- The role of a GNSS channel (R169, R192); spare and retired channels are told by the Dresser's map. -/
inductive GnssRole
  | idle | search | track | shadow
deriving DecidableEq, Repr

/-- A GNSS channel (R169 to R183). -/
structure GnssChan where
  role : GnssRole := .idle
  prn : Nat := 0
  used : Bool := false
  /-- `GCn_EXCL`: 0 none, 1 residual, 2 Doppler, 3 power, 4 duplicate peak, 5 parity. -/
  excl : Nat := 0
  /-- The test it was excluded by passed when last applied (R183). -/
  testOk : Bool := false
  /-- `DUPLICATE_PEAK` (R182), and the consecutive visits that found a second peak. -/
  duplicate : Bool := false
  dupRun : Nat := 0
  ephemerisOk : Bool := false
  /-- A word of the ephemeris has failed parity (R181), and the words of subframes 1 to 3 passed since, by 16 × subframe + word. -/
  ephBad : Bool := false
  ephWords : List Nat := []
  /-- The subframe being received, by its number and time of week, and its words that passed parity (R186). -/
  sf : Nat × Nat := (0, 0)
  sfWords : List Nat := []
  /-- C/N0 in 0.1 dB-Hz. -/
  cn0 : Nat := 0
  elev : Nat := 0
  resid : Units := 0
  doppResid : Int := 0
  /-- Multipath metric in 0.001, and the code discriminator of the last epoch (R170). -/
  metric : Nat := 0
  disc : Int := 0
deriving DecidableEq, Repr

/-- An entry of the navigation ring (R188). -/
structure NavEntry where
  word : BitVec 30 := 0
  parityOk : Bool := false
  prn : Nat := 0
  subframe : Nat := 0
  wordNum : Nat := 0
  tow : Nat := 0
deriving DecidableEq, Repr

/-- The GNSS baseband (R163 to R188). -/
structure Gnss where
  chan : Vector GnssChan 32 := Vector.replicate 32 {}
  /-- A start under R172 is due. -/
  startDue : Bool := false
  started : Bool := false
  startType : Nat := 2
  /-- Device clock of the last start, until its first timing state. -/
  startAt : Option Nat := none
  startTimeMs : Nat := 0
  asleep : Bool := false
  sleepAt : Nat := 0
  /-- The wake is a hot start (R175). -/
  wakeHot : Bool := false
  sampleLoss : Bool := false
  antFault : Bool := false
  /-- The level of `GANT_OK` last held (R168). -/
  antHigh : Bool := true
  /-- The stamp of the last 16,368th `GSCLK` edge, and the measured rate of `GSCLK` less nominal, in ppb (R164). -/
  gsStamp : Units := 0
  gsRatePpb : Int := 0
  /-- Elevations of satellites by almanac (R171): PRN and degrees. -/
  elevs : List (Nat × Nat) := []
  /-- The common Doppler term of the last epoch, 0.01 Hz (R181, R184). -/
  commonDopp : Rat := 0
  /-- Consecutive solutions that failed, and that passed, the cross-check of R184. -/
  xFails : Nat := 0
  xPasses : Nat := 0
  timingState : Nat := 0
  /-- A solution was formed in the last epoch. -/
  solved : Bool := false
  towKnown : Bool := false
  spoof : Bool := false
  jamming : Bool := false
  xcheck : Bool := false
  posSource : Nat := 0
  held : Option (Int × Int × Int) := none
  /-- The retained survey position has not been checked against a fix yet (R176). -/
  retainedDue : Bool := false
  /-- Survey: fixes used, their sums and the sum of their squares, mm. -/
  surveyN : Nat := 0
  sumX : Int := 0
  sumY : Int := 0
  sumZ : Int := 0
  sumSq : Int := 0
  clockBias : Units := 0
  rmsPs : Nat := 0
  week : Nat := 0
  towMs : Nat := 0
  utc : Option GpsUtc := none
  /-- The GPS week in which the parameters were received (R76). -/
  utcWeek : Nat := 0
  /-- C/N0 by satellite and 5° bin: key 18 × PRN + bin, value 0.1 dB-Hz (R184). -/
  cn0Table : List (Nat × Nat) := []
  jamLevel : Int := 0
  /-- At least three tracked satellites gave `jamLevel` in the last epoch (R184). -/
  jamFresh : Bool := false
  /-- Newest first, at most 512. -/
  navRing : List NavEntry := []
  navHead : Nat := 0
deriving DecidableEq, Repr

/-- The classes of R367, with the codes of R386. -/
inductive Cls
  | general | assured | prec
deriving DecidableEq, Repr

/-- The Kiss-o'-Death answers of R311. -/
inductive KodKind
  | rate | deny | ntsn
deriving DecidableEq, Repr

/-- What a descriptor asks for (R274, R282, R341, R347, R351). -/
inductive JobKind
  /-- `clientReq` is a message the client sends, `clientRx` one it received (R351). -/
  | ntp | nts | delayReq | signaling | sync | followUp | announce | sweep | clientReq | clientRx
deriving DecidableEq, Repr

/-- What `FINISH` of an NTS answer needs (R292, R320). -/
structure NtsCtx where
  /-- The request's Unique Identifier field. -/
  unique : Bytes := []
  s2c : Bytes := []
  /-- The plaintext of the answer's Authenticator field: its cookies. -/
  plain : Bytes := []
  cookies : Nat := 0
  /-- An NTSN carries the Unique Identifier and no Authenticator. -/
  sealed_ : Bool := true
deriving DecidableEq, Repr

/-- An NTP answer as `BUILD` leaves it (R302, R311). -/
structure NtpBuild where
  /-- 48 bytes; Transmit and Root Dispersion are written at `FINISH` where `timed`. -/
  hdr : Bytes := []
  timed : Bool := true
  /-- D_D without the `DEGRADED` term, ns; none in ACQUIRE, where the field is fixed (R309). -/
  disp : Option Rat := none
  nts : Option NtsCtx := none
deriving DecidableEq, Repr

/-- A descriptor of the Hopper, and the answer it becomes. -/
structure Job where
  id : Nat := 0
  kind : JobKind := .ntp
  cls : Cls := .general
  port : Fin 8 := 0
  req : Frame := {}
  /-- T2, or t_k of a scheduled message. -/
  t2 : Units := 0
  t2Degraded : Bool := false
  /-- `STEP_EPOCH` of T2. -/
  stepEpoch : Nat := 0
  kod : Option KodKind := none
  /-- The KoD answers a bucket refusal (R374). -/
  bucketKod : Bool := false
  /-- Bucket profile, for NTP and NTS (R368). -/
  bkt : Nat := 0
  /-- Hopper cells held. -/
  cells : Nat := 0
  /-- Grant index of a scheduled message; block of a sweep; the master of a client's message. -/
  grant : Nat := 0
  /-- A scheduled message of a multicast port, or a grant's (R340). -/
  mcast : Bool := false
  /-- k of R340. Of a Delay_Req, the Delay_Resp code of its grant; of a Signaling message, what it newly granted: 1 Sync,
  2 Announce (R343); of a message a client received, its messageType. -/
  k : Nat := 0
  macIdx : Option Nat := none
  client : Fin 2 := 0
  /-- A spilled request of a neighbour: its link, handle and T2_L. -/
  spill : Option (Fin 4 × Nat × Units) := none
  relayed : Bool := false
  recommit : Bool := false
  commits : Nat := 0
  /-- Time in hand (R431): Millstone, and time in units of the device clock. -/
  work : List (Nat × Nat) := []
  /-- A bucket refused it without a KoD: it is dropped once its record is written (R374). -/
  refused : Bool := false
  tag : Nat := 0
  out : Option Frame := none
  follow : Option Frame := none
  ntp : Option NtpBuild := none
  /-- The TLVs of a Signaling answer. -/
  reply : List Tlv := []
deriving DecidableEq, Repr

/-- An arbiter's round-robin memory (R283): the requester last granted in each class. -/
structure Arbiter where
  prec : Option Nat := none
  assured : Option Nat := none
  general : Option Nat := none
deriving DecidableEq, Repr

/-- A meter: its level in scaled units, and the device clock it was brought up to. -/
structure Meter where
  level : Nat := 0
  asOf : Nat := 0
deriving DecidableEq, Repr

/-- `MSn_STATE` (R298). -/
inductive MsState
  | off | spare | probation | inService | draining | retired | faulted
deriving DecidableEq, Repr

/-- Where the answer in `TAKE` to `BUILD` stands (R272): the records it has still to update, the cells it has still to read. -/
inductive FrontPhase
  | state (records : List (Fin 48 × Nat))
  | updating (bank : Fin 48) (record : Nat) (rest : List (Fin 48 × Nat))
  | cells (left : Nat)
  | ready
deriving DecidableEq, Repr

/-- Where the answer in `COMMIT` to `DEPOSIT` stands. -/
inductive BackPhase
  | wantPort
  | holdOff (till : Units)
  | finish (ttx t3 : Units)
  | finished (ttx t3 : Units)
deriving DecidableEq, Repr

/-- A Millstone (R271, R272, R431). -/
structure Millstone where
  st : MsState := .off
  /-- `MSn_RATE`, 0.01 M SU/s. -/
  rate : Nat := 0
  front : Option (Job × FrontPhase) := none
  back : Option (Job × BackPhase) := none
  /-- Withheld from the dequeue arbiter for a known-answer run (R454). -/
  withheld : Bool := false
  /-- Device clock up to which its time is accounted. -/
  since : Nat := 0
  /-- Device clock before which it is not yet ungated and is in no arbiter (R471, R499). -/
  joinsAt : Nat := 0
  /-- Device clock at which its known-answer run ends (R454). -/
  katUntil : Nat := 0
  /-- The eight ledgers by code, in units of the device clock. -/
  ledger : Vector Nat 8 := Vector.replicate 8 0
deriving DecidableEq, Repr

/-- A slot booked in a Tailrace (R289). -/
structure Booking where
  ttx : Units := 0
  t3 : Units := 0
  start : Units := 0
  stop : Units := 0
  ms : Fin 40 := 0
  cls : Cls := .general
  prio : Nat := 0
  jobId : Nat := 0
  /-- The slot of a two-step Sync's Follow_Up. -/
  isFollow : Bool := false
  /-- Deposited. -/
  job : Option Job := none
  /-- The Millstone was removed before it filled the slot (R281). -/
  void : Bool := false
  /-- Committed while `TB_STATE` was `DIRECT`. -/
  direct : Bool := false
  /-- An answer or scheduled message committed while `TB_STATE` was `NORMAL` (R94). -/
  normal : Bool := false
deriving DecidableEq, Repr

/-- A transaction of the PMBus master (R480): the address, whether the bus is at 400 kHz and whether the packet carries a PEC, the command,
and what it writes. -/
structure PmbusOp where
  addr : Nat
  fast : Bool
  pec : Bool
  code : Nat
  data : Option Nat := none
deriving DecidableEq, Repr

/-- What the device puts out during a command. -/
inductive Output
  /-- Bytes the Window shifts out on `WIN_MISO`. -/
  | window (bytes : Bytes)
  /-- A $GHTOD sentence. -/
  | todTx (bytes : Bytes)
  /-- A pulse output rises: the instant of the edge at the ball. -/
  | pulse (n : Fin 4) (rise : Units)
  /-- Words of the front-end control port. -/
  | gfeWords (words : List Nat)
  /-- The frame that crosses a port's MAC/PCS interface is cut short (R473): the partner sees a truncated frame, then no signal. -/
  | frameCut (port : Fin 8)
  /-- A frame launched on a port, and its t_tx where it was committed. -/
  | frame (port : Fin 8) (f : Frame) (ttx : Option Units)
  /-- An ESMC PDU: SSM code, enhanced TLV, event PDU. -/
  | esmc (port : Fin 8) (ssm : Nat) (tlv : Option EsmcTlv) (event : Bool)
  | leatTime (link : Fin 4) (f : TimeFrame)
  | leatHello (link : Fin 4) (seq : Nat) (f : HelloFrame)
  | leatCredit (link : Fin 4) (seq spillRet respRet suRate : Nat)
  | leatTelem (link : Fin 4) (seq : Nat) (f : TelemFrame)
  | leatSpill (link : Fin 4) (seq : Nat) (f : SpillFrame)
  | leatResp (link : Fin 4) (seq : Nat) (f : RespFrame)
  /-- Three `SWAP` control blocks on the spare pair. -/
  | leatSwap (link : Fin 4)
  /-- A port that receives local fault sends remote fault (R239). -/
  | remoteFault (port : Fin 8)
  /-- A PMBus transaction. -/
  | pmbus (t : PmbusOp)
  /-- A command to the NVM on one of the chip selects (R28): its opcode, and for a read the address and the number of bytes. -/
  | nvm (cs opcode addr bytes : Nat)
deriving DecidableEq, Repr

/-- A frame the responder, ESMC or the telemetry has to send, held by a pause (R251, R254): the priority it is held under, the
counter that counts its sending, and the frame. -/
structure Waiting where
  prio : Fin 8 := 0
  counter : Option Nat := none
  what : Output
deriving DecidableEq, Repr

/-- What the PHY of a port has reported of its link (R239, R243). -/
structure Phy where
  signal : Bool := false
  cdr : Bool := false
  blockLock : Bool := false
  fecLock : Bool := false
  localFault : Bool := false
  remoteFault : Bool := false
  /-- Auto-negotiation: the partner offers the configured mode and FEC. -/
  offered : Bool := false
  /-- Link training is complete. -/
  trained : Bool := false
  /-- Skew of each lane against the port's first, ps, as measured at the last link-up. -/
  skewPs : List Int := []
  /-- Symbol phase, ps, as measured at the last link-up. -/
  phasePs : Int := 0
deriving DecidableEq, Repr

/-- A port: its link, its flow control, its responder, and the Tailrace behind it. -/
structure Port where
  link : Bool := false
  phy : Phy := {}
  /-- What was recorded of the last frame received, and the skew of the lane that carried it (R243). -/
  rx : RxPoint := {}
  rxSkewPs : Int := 0
  /-- The same of the last frame launched. -/
  tx : RxPoint := {}
  txSkewPs : Int := 0
  /-- The end of what the responder, ESMC and the telemetry have sent, its gap included (R251). -/
  lineBusy : Option Units := none
  /-- Timebase instant up to which a PAUSE, or the PFC pause of a priority, is in force. -/
  pause : Option Units := none
  pfc : Vector (Option Units) 8 := Vector.replicate 8 none
  /-- When a pause was last in force. -/
  lastPause : Option Units := none
  /-- Frames the responder, ESMC and the telemetry have waiting, oldest first. -/
  waiting : List Waiting := []
  /-- The end of the launched frame that crosses last (R255). -/
  crossing : Option Units := none
  /-- Device clock of the last cancellation and of the last uncorrectable codeword (R270). -/
  cancelAt : Option Nat := none
  fecAt : Option Nat := none
  resp : Meter := {}
  echo : Meter := {}
  line : Meter := {}
  ssm : Nat := 15
  essm : Nat := 0xFF
  dnu : Bool := false
  /-- The SSM code and the enhanced code of the tick before, by which a change is told (R260). -/
  tickCode : Nat × Nat := (15, 0xFF)
  refuseCause : Nat := 0
  /-- Booked slots in the order of their instants. -/
  book : List Booking := []
  /-- PRECEDENCE commitments of the last second: t_tx and line time in units. -/
  precDone : List (Units × Units) := []
  arb : Arbiter := {}
  /-- The Millstone that holds the port's grant between the frames of the pair it deposits (R286, R291). -/
  hold : Option Nat := none
  /-- Millstones whose deposit of a pair is suspended between its frames, first suspended last (R286). -/
  susp : List Nat := []
deriving DecidableEq, Repr

/-- A client rate record (R277, R372); the default is one that is not valid. -/
structure RateRec where
  seq : Bool := false
  valid : Bool := false
  tag : Nat := 0
  prof : Nat := 0
  tat : Nat := 0
  kodSent : Bool := false
  epoch : Nat := 0
deriving DecidableEq, Repr

/-- A grant record (R345, R346); the default is one that is not valid. -/
structure GrantRec where
  seq : Bool := false
  valid : Bool := false
  /-- The second record of an IPv6 pair. -/
  second : Bool := false
  v6 : Bool := false
  prec : Bool := false
  port : Nat := 0
  vid : Nat := 0
  macIdx : Nat := 0
  addr : Nat := 0
  srvAddr : Nat := 0
  epoch : Nat := 0
  syncCode : Nat := 0
  drespCode : Nat := 0
  annCode : Nat := 0
  syncExp : Nat := 0
  drespExp : Nat := 0
  annExp : Nat := 0
deriving DecidableEq, Repr

/-- A shadow entry (R279): its requester, its record and the contents saved. -/
structure Shadow where
  who : Nat := 0
  record : Nat := 0
  rate : RateRec := {}
  grant : GrantRec := {}
  /-- What the requester will write (R279, step 2). -/
  nextRate : RateRec := {}
  nextGrant : GrantRec := {}
deriving DecidableEq, Repr

/-- A logical bank of the Garner (R276, R279, R282, R460). -/
structure Bank where
  phys : Nat := 0
  /-- The physical bank it migrates to, and the beats copied. -/
  migrating : Option (Nat × Nat) := none
  arb : Arbiter := {}
  holder : Option Nat := none
  /-- Suspended holders, first suspended last. -/
  susp : List Nat := []
  shadow : List Shadow := []
deriving DecidableEq, Repr

/-- A calendar entry (R341). -/
structure CalEntry where
  prec : Bool := false
  port : Nat := 0
  syncCode : Nat := 0
  annCode : Nat := 0
  epoch : Nat := 0
deriving DecidableEq, Repr

/-- The Garner (R276 to R279), with the grant calendar (R341). -/
structure Garner where
  /-- Valid rate records, by index, and valid grant records, by grant index: rising, none the default. -/
  rate : List (Nat × RateRec) := []
  grant : List (Nat × GrantRec) := []
  bank : Vector Bank 48 := Vector.ofFn fun i => { phys := i.val }
  hashKey : Bytes := []
  calendar : List (Nat × CalEntry) := []
  /-- `NH_MAC` entries in use: entry, MAC, port, device clock of the last refresh (R348). -/
  nhMac : List (Nat × Nat × Nat × Nat) := []
  denyCause : Nat := 0
deriving DecidableEq, Repr

/-- A spilled request of this device that awaits its answer (R288, R406). -/
structure SpillPending where
  handle : Nat := 0
  link : Fin 4 := 0
  job : Job := {}
deriving DecidableEq, Repr

/-- The Hopper, the Millstones and the Tailrace's park (R256, R271, R282, R292). -/
structure Core where
  precQ : List Job := []
  assuredQ : List Job := []
  generalQ : List Job := []
  /-- Answers parked and not yet offered, oldest first. -/
  park : List Job := []
  ms : Vector Millstone 40 := Vector.replicate 40 {}
  dequeue : Arbiter := {}
  cellArb : Vector Arbiter 8 := Vector.replicate 8 {}
  cellsUsed : Nat := 0
  /-- Freed cells keep their contents until overwritten (R57): cells and stored frame, freed last first. -/
  freed : List (Nat × Frame) := []
  nextId : Nat := 0
  pendingSpills : List SpillPending := []
  /-- The counts the Millstones were last assigned by (R271). -/
  inService : Nat := 32
  spares : Nat := 8
deriving DecidableEq, Repr

/-- The Weir and the meters (R370, R375 to R381, R515). SU are counted in quarters. -/
structure Weir where
  shedGeneral : Bool := false
  shedAssured : Bool := false
  rateGeneral : Nat := 0
  rateAssured : Nat := 0
  meterGeneral : Meter := {}
  meterAssured : Meter := {}
  kod : Meter := {}
  /-- Device clock at which the KoD budget last ran empty. -/
  kodEmptyAt : Option Nat := none
  su : Meter := {}
  suRate : Nat := 0
  /-- This tick: offered and admitted work by class, KoDs, completed work. -/
  offPrec : Nat := 0
  offAssured : Nat := 0
  offGeneral : Nat := 0
  admPrec : Nat := 0
  admAssured : Nat := 0
  admGeneral : Nat := 0
  kodSu : Nat := 0
  done : Nat := 0
  donePrec : Nat := 0
  /-- A spill in this tick, and in the last. -/
  spilled : Bool := false
  spilling : Bool := false
  /-- The last tick's, in quarter SU. -/
  lastOffPrec : Nat := 0
  lastOffAssured : Nat := 0
  lastOffGeneral : Nat := 0
  lastAdmPrec : Nat := 0
  lastAdmAssured : Nat := 0
  lastAdmGeneral : Nat := 0
  lastKod : Nat := 0
  lastDone : Nat := 0
  lastDonePrec : Nat := 0
  /-- `CAPACITY_MSUS` and `HEADROOM_MSUS`, 0.1 M SU/s. -/
  capacity : Nat := 0
  headroom : Nat := 0
  /-- The most Millstones the PRECEDENCE meter and the grant limits count since the last tick (R458): 40 until no spare remains. -/
  msCap : Nat := 40
deriving DecidableEq, Repr

/-- The states of an NTS key slot (R316). -/
inductive KeyState
  | empty | pending | active | retired
deriving DecidableEq, Repr

/-- The NTS keys and the advertised NTP and PTP values (R316, R317, R323, R335). -/
structure NtpState where
  key : Vector KeyState 64 := Vector.replicate 64 .empty
  mintSlot : Nat := 0
  mintNone : Bool := true
  serveState : Nat := 1
  advLi : Nat := 3
  advStratum : Nat := 16
  advClockClass : Nat := 248
  /-- `ADV_REFID`, `ADV_ROOT_DELAY`, `ADV_ROOT_DISP` and the 64 bits of the Reference Timestamp, of the last tick. -/
  advRefid : Nat := 0
  advRootDelay : Nat := 0
  advRootDisp : Nat := 0
  advRefTs : Nat := 0
  /-- D_R's path term frozen at the entry to holdover, ns (R308). -/
  frozenPath : Rat := 0
  /-- The tick at which a time or phase reference last fed the Governor (R310). -/
  refTs : Units := 0
  /-- `PTP_DOMAIN_DIFF` of the last second (R356). -/
  ptpDiff : Units := 0
  /-- Draws taken from the random source so far. -/
  draws : Nat := 0
deriving DecidableEq, Repr

/-- A master a client instance has heard (R352). -/
structure Candidate where
  src : Nat := 0
  msg : PtpMsg := {}
  /-- Device clock of its last and of its last but one Announce. -/
  lastAt : Nat := 0
  prevAt : Option Nat := none
  qualified : Bool := false
deriving DecidableEq, Repr

/-- A grant the client has asked for (R354): the master, the message type, and the duration where granted. -/
structure ClientGrant where
  master : Nat := 0
  messageType : Nat := 0
  duration : Option Nat := none
  /-- Device clock when it was granted. -/
  grantedAt : Nat := 0
  /-- Device clock of a request that has no answer yet, or was denied then. -/
  asked : Option Nat := none
deriving DecidableEq, Repr

/-- A Delay_Req sent (R353). -/
structure SentDreq where
  seqId : Nat := 0
  t3 : Option Units := none
  stepEpoch : Nat := 0
deriving DecidableEq, Repr

/-- What R357, R358 and R411 keep of delay and cross-reference difference: sums of the second, means of the last 64. -/
structure AsymWatch where
  dSum : Rat := 0
  dN : Nat := 0
  zSum : Rat := 0
  zN : Nat := 0
  /-- The means of the preceding 64 seconds, newest first, none of one without samples. -/
  d64 : List (Option Rat) := []
  z64 : List (Option Rat) := []
  /-- The last second's D, or Z, lay beyond its threshold of the mean before it. -/
  dOut : Bool := false
  zOut : Bool := false
  noXref : Bool := false
  /-- Quarantined: the means before the change. -/
  pre : Option (Rat × Rat) := none
  /-- D and Z lay within the thresholds of those means in the last second. -/
  back : Bool := false
  delayStep : Rat := 0
  asymEst : Rat := 0
deriving DecidableEq, Repr

/-- A PTP client instance (R351 to R359). -/
structure Client where
  cands : List Candidate := []
  best : Option Nat := none
  /-- The Sync log interval L in force, and the one last granted or heard (R113). -/
  syncLog : Int := 0
  syncHeard : Int := 0
  grants : List ClientGrant := []
  /-- Former masters whose grants are to be cancelled after the first Sync of a new one. -/
  cancelDue : List Nat := []
  /-- A two-step Sync that awaits its Follow_Up: sequenceId, t2, correction, its stamp's flag and epoch. -/
  waiting : Option (Nat × Units × Int × Bool × Nat) := none
  lastSync : Option (Units × Units) := none
  dreqSeq : Nat := 0
  dreqs : List SentDreq := []
  /-- The last 16 d_j, newest first. -/
  dj : List Units := []
  mpd : Units := 0
  /-- dbar before the change that withholds x (R357, R358). -/
  mpdBefore : Option Units := none
  /-- dbar is frozen (R358). -/
  frozen : Bool := false
  offset : Units := 0
  /-- Device clock of the last x, and of the last Delay_Resp received (R355). -/
  xAt : Option Nat := none
  respAt : Option Nat := none
  /-- x is withheld for up to 2 s (R357). -/
  withheld : Bool := false
  watch : AsymWatch := {}
deriving DecidableEq, Repr

/-- `Ln_STATE` (R392). -/
inductive LeatState
  | down | calibrating | training | hello | measuring | up | remeasure | refused
deriving DecidableEq, Repr

/-- A `RESP` frame that waits for credit (R410). -/
structure RespWait where
  link : Fin 4 := 0
  frame : RespFrame := {}
deriving DecidableEq, Repr

/-- A departure of a `TIME` frame (R401): `LF_SEQ`, instant, step epoch and degraded flag of this device, and the `T_STEP_EPOCH` last
received from the neighbour before it. -/
structure LeatDeparture where
  seq : Nat := 0
  tx : Units := 0
  epoch : Nat := 0
  degraded : Bool := false
  far : Option Nat := none
deriving DecidableEq, Repr

/-- A frame for a Leat link that waits for the line (R397): its link priority, type and bytes, and the frame, its `LF_SEQ` still open. -/
structure LeatTx where
  prio : Nat
  type : Fin 7
  bytes : Nat
  what : Output
deriving DecidableEq, Repr

/-- A Leat link (R391 to R412). -/
structure LeatLink where
  st : LeatState := .down
  pairS : Bool := false
  spareOk : Bool := false
  /-- A swap is under way. -/
  swapping : Bool := false
  /-- The slot is refused (R404): a link that is not up refuses it by cause 0. -/
  refused : Bool := true
  refuseCause : Nat := 0
  nbrId : Nat := 0
  nbrMode : Nat := 0
  nbrSelQl : Nat := 0
  nbrSelSlot : Nat := 15
  nbrHoState : Nat := 0
  nbrHeadroom : Nat := 0
  nbrHoRemaining : Nat := 0
  nbrSpillAccept : Bool := false
  /-- Exchanges since the link entered `MEASURING` or `REMEASURE`. -/
  exchanges : Nat := 0
  dj : List Units := []
  delay : Units := 0
  offset : Units := 0
  /-- The last `TIME` frame received, its receipt and the `DEGRADED` flag of the receipt. -/
  rx : Option (TimeFrame × Units × Bool) := none
  accRx : Nat := 0
  /-- The dispersion and the delay sum that the last header carried, as they stand for a slot named after its link went down (R309). -/
  upDispRx : Nat := 0
  /-- `ROOT_ID` of the tick before. -/
  rootBefore : Option Nat := none
  /-- Device clock of the last wave received. -/
  waveAt : Option Nat := none
  /-- Next `LF_SEQ` by frame type, types 1 to 6. -/
  seq : Vector Nat 7 := Vector.replicate 7 0
  /-- The last four `TIME` departures (R401). -/
  departures : List LeatDeparture := []
  /-- The loopback round trips of pair W and pair S as last calibrated, ps (R393). -/
  loopPs : Vector Nat 2 := Vector.replicate 2 0
  /-- Device clock at the end of the frame the line sends, and the frames that wait for it, in the order of their sending (R397). -/
  lineEnd : Nat := 0
  txQ : List LeatTx := []
  spillCredit : Nat := 0
  respCredit : Nat := 0
  /-- Returnable bytes of the receive buffers. -/
  spillReturn : Nat := 0
  respReturn : Nat := 0
  suRate : Nat := 0
  bucket : Meter := {}
  /-- The neighbour sends LOAD idle, and the slot is held (R412). -/
  held : Bool := false
  /-- The hold of 2 s has run out. -/
  holdOver : Bool := false
  watch : AsymWatch := {}
deriving DecidableEq, Repr

/-- The Leat ports (R391 to R413). -/
structure Leat where
  link : Vector LeatLink 4 := Vector.replicate 4 {}
  waveLast : Nat := 0
  /-- The next wave of the parent is forwarded whatever its number (R399). -/
  firstWave : Bool := true
  /-- The slot selected when the header values were last taken. -/
  parentSlot : Option (Fin 13) := none
  parentHeld : Bool := false
  /-- `ROOT_ID` sent. -/
  rootId : Nat := 0
  hopsTx : Nat := 0
  accLatTx : Nat := 0
  rootQlTx : Nat := 15
  /-- The parent's serial and its `ROOT_BUDGET_US`, by its last frame (R403). -/
  parentId : Nat := 0
  rootBudget : Nat := 0
  /-- The parent's wave to be forwarded: its receipt, its number and its `HELD` (R399). -/
  forward : Option (Units × Nat × Bool) := none
  respWait : List RespWait := []
deriving DecidableEq, Repr

/-- A probation (R457). -/
structure Probation where
  unit : Fin 40 := 0
  partner : Fin 40 := 0
  /-- The unit to be replaced, worn or faulted; none where an addition is made good. -/
  worn : Option (Fin 40) := none
  done : Nat := 0
  passed : Bool := false
  /-- Device clock at the start, from which `PROBATION_MAX_MS` counts (R457). -/
  since : Nat := 0
  /-- The descriptors copied to the spare and not yet compared, by number, oldest first (R457): at most 16. -/
  copies : List Nat := []
deriving DecidableEq, Repr

/-- The Dresser (R450 to R463). -/
structure Dresser where
  /-- Retired units by kind code: bit n for unit n. -/
  retired : Vector Nat 12 := Vector.replicate 12 0
  /-- Units found worn, and units faulted, by kind code. -/
  worn : Vector Nat 12 := Vector.replicate 12 0
  faulted : Vector Nat 12 := Vector.replicate 12 0
  /-- Consecutive failed checks: kind, unit, count. -/
  fails : List (Nat × Nat × Nat) := []
  mapOk : Bool := true
  /-- `STRESS_AGE_H`, in hours. -/
  stressAge : Rat := 0
  canaryMs : Vector Nat 40 := Vector.replicate 40 0
  canaryVc : Vector Nat 12 := Vector.replicate 12 0
  probations : Vector (Option Probation) 4 := Vector.replicate 4 none
  /-- Millstones that must still be replaced, worn or faulted, by rising number (R459, R463). -/
  toReplace : List Nat := []
  /-- Spares to be added for a higher `MS_IN_SERVICE` (R295). -/
  toAdd : Nat := 0
  /-- The Millstones that have run their known-answer vectors in this period, bit n for `MSn`, and the device clock at its start (R454). -/
  katRan : Nat := 0
  katSince : Nat := 0
  /-- The Millstones' reserve count that retention RAM gave back (R452). -/
  reserveBefore : Option Nat := none
  /-- Garner banks that must migrate, by logical bank (R461), and whether each is urgent. -/
  toMigrate : List (Nat × Bool) := []
  /-- Reserve events already issued: low, exhausted, by kind code. -/
  lowIssued : Nat := 0
  exhaustedIssued : Nat := 0
  /-- Equaliser slice serving each lane, by group and lane (R262). -/
  eqMap : Vector (Vector Nat 4) 2 := Vector.replicate 2 (Vector.ofFn fun i => i.val)
deriving DecidableEq, Repr


/-- The block has no fault: every command has an effect (NOTES.md, '## Stops'). Nobody raises this one. Safe. -/
inductive Fault
  | none
deriving DecidableEq, Repr

/-- Refusals. -/
inductive Refusal
  /-- Raised by `exec` for a command without a meaning. Safe. -/
  | notModelled (mnemonic : String)
deriving DecidableEq, Repr

/-- The whole block. -/
structure State where
  /-- The commands that wait, first in, first out: the MODEL's own field. -/
  pending : List Instr := []
  /-- What the last command put out: the MODEL's own field. -/
  out : List Output := []
  /-- The bytes on the line of each of these (R8), in the same order: the MODEL's own field. -/
  wire : List Bytes := []
  /-- What the command being executed has noted so far, newest first: the MODEL's own field, empty between commands. -/
  notes : List Note := []
  /-- The device clock since power-on, in units of 1/1,215 ns: the MODEL's own field, by which durations are judged. -/
  clk : Nat := 0
  tb : Timebase := {}
  ts : Timescale := {}
  pll : Pll := {}
  cfg : Cfg := {}
  ld : Loader := {}
  otp : Otp := {}
  rep : Report := {}
  tele : Telemetry := {}
  pd0 : Pd0 := {}
  avs : Avs := {}
  mon : Monitors := {}
  pwr : Power := {}
  refs : Vector RefSlot 13 := Vector.replicate 13 {}
  gov : Governor := {}
  ho : Holdover := {}
  outs : Outputs := {}
  ic : IntervalCounter := {}
  gnss : Gnss := {}
  core : Core := {}
  garner : Garner := {}
  ports : Vector Port 8 := Vector.replicate 8 {}
  weir : Weir := {}
  ntp : NtpState := {}
  cli : Vector Client 2 := Vector.replicate 2 {}
  leat : Leat := {}
  dress : Dresser := {}
deriving DecidableEq, Repr

/-- The block right after a power-on of PD0 (R479): everything reset, RETAIN, `RTC_VALID` 0 (log entries 1 and 2). -/
def State.reset : State := {}

end Sys2Proof.Machine
end

