-- ==== Sys2Proof/Machine/Ops.lean ====
section
/-!
DEFINITION. The named operations every command's meaning uses: the passing of time, stamps, counters and events, the Tally
monitors and the samplers, retention, and the forms in which a command answers.
-/

namespace Sys2Proof.Machine

/-- A quantity in whole units of a register or record field: itself where it is whole, else one of the two whole numbers beside it,
as the device does (log entry 11). -/
def wholeOf (q : Rat) : Int := if q.den = 1 then q.num else if Config.roundsUp q then q.floor + 1 else q.floor

/-- A quantity rounded to the nearest whole number; of a half the device decides (R108; log entry 11). -/
def nearestOf (q : Rat) : Int := if (2 * q).den = 1 then wholeOf q else (q + 1 / 2).floor

/-- The part of a free quantity that lies in [0, 1). -/
def unitPart (q : Rat) : Rat := q - (q.floor : Rat)

/-- A quantity of which the device holds so many binary places as they are, and leaves what lies below them (log entry 10). -/
def nearBinary (places : Nat) (q rest : Rat) : Rat := (((q * (2 ^ places : Nat)).floor : Rat) + unitPart rest) / (2 ^ places : Nat)

/-- ⌊√n⌋. -/
def isqrt (n : Nat) : Nat := (List.range (Nat.log2 n / 2 + 1)).foldr (fun i r => if (r + 2 ^ i) * (r + 2 ^ i) ≤ n then r + 2 ^ i else r) 0

/-- √q, exact to 2⁻³². -/
def sqrtOf (q : Rat) : Rat := nearBinary 32 ((isqrt (q * (2 ^ 64 : Nat)).floor.toNat : Nat) / (2 ^ 32 : Nat)) (Config.sqrtRest q)

/-- ⌊√y − b⌋ for y and b not negative, exactly. -/
def floorRootLess (y b : Rat) : Int :=
  let k : Int := (isqrt y.floor.toNat : Int) - b.floor
  if decide (0 ≤ (k : Rat) + b) && decide (((k : Rat) + b) * ((k : Rat) + b) ≤ y) then k else k - 1

/-- The first twenty terms of a power series whose term k + 1 is the term k times x / d(k). -/
def series (x : Rat) (d : Nat → Nat) : Rat := (List.range 20).foldr (fun k a => 1 + x / (d k : Nat) * a) 1

/-- e^x for −1 ≤ x ≤ 0, exact to 2⁻⁴⁷. -/
def expOf (x : Rat) : Rat := nearBinary 48 (series x fun k => k + 1) (Config.expRest x)

/-- e^x, by the whole powers of e and `expOf`. -/
def expWide (x : Rat) : Rat :=
  let k := x.ceil
  expOf (x - (k : Rat)) * (if 0 ≤ k then (expOf (-1))⁻¹ ^ k.toNat else expOf (-1) ^ (-k).toNat)

/-- π, exact to 10⁻¹⁶. -/
def piOf : Rat := (31415926535897932 + unitPart Config.piRest) / (10 ^ 16 : Nat)

/-- sin² of an elevation in degrees, exact to 2⁻⁴⁷. -/
def sinSqDeg (e : Nat) : Rat :=
  let x : Rat := 314159265358979324 * (e : Nat) / (180 * 10 ^ 17 : Nat)
  let y := x * series (-(x * x)) fun k => (2 * k + 2) * (2 * k + 3)
  nearBinary 48 (y * y) (Config.sinSqRest e)

/-- Units of `Timebase.sub` in one second (R65): 1.25 × 10⁹ × 2⁴⁸. -/
def subPerSec : Nat := 1250000000 * 2 ^ 48

/-- Units of `Timebase.sub` between two Governor ticks (R514): 15,625,000 ns. -/
def subPerTick : Nat := subPerSec / 64

/-- Units of the device clock in one nanosecond; a timebase tick of 0.8 ns is 972 of them, an OSCIN period of any accepted
frequency a whole number. -/
def clkPerNs : Nat := 1215

/-- Units of the device clock in one second. -/
def clkPerSec : Nat := 1215000000000

/-- Units of the device clock in one advance of the timebase (R93): a tick, or in DIRECT an OSCIN edge. -/
def clkPerAdvance (s : State) : Nat :=
  match s.pll.tbState with
  | .direct => clkPerSec / s.pll.oscin.oscinFreq
  | _ => 972

/-- The time value moved on by a number of units of `sub`, whole seconds carried (R65). -/
def addSub (tb : Timebase) (n : Nat) : Timebase :=
  let t := tb.sub + n
  { tb with sec := (tb.sec + t / subPerSec) % 2 ^ 48, sub := t % subPerSec }

/-- What one advance adds, in units of `sub` (R65): 2⁴⁸ + W. -/
def advanceUnits (tb : Timebase) : Nat := (2 ^ 48 + tb.w).toNat

/-- The time value after `n` advances (R65, R93). In DIRECT an edge adds its period's ticks, and what is left below a unit
is carried to the next. -/
def advance (s : State) (n : Nat) : Timebase :=
  match s.pll.tbState with
  | .direct =>
    let t := s.tb.directRem + n * clkPerAdvance s * advanceUnits s.tb
    { addSub s.tb (t / 972) with directRem := t % 972 }
  | _ => addSub s.tb (n * advanceUnits s.tb)

/-- The number of advances to the first one at or after `d` units of `sub` from now. -/
def advancesTo (s : State) (d : Nat) : Nat :=
  match s.pll.tbState with
  | .direct =>
    let p := clkPerAdvance s * advanceUnits s.tb
    if p = 0 then 0 else (972 * d - s.tb.directRem + p - 1) / p
  | _ =>
    let p := advanceUnits s.tb
    if p = 0 then 0 else (d + p - 1) / p

/-- One thing noted for the report of this command. -/
def note (n : Note) (s : State) : State := { s with notes := n :: s.notes }

/-- The RC field at a Window address counts `n` (R10). -/
def countBy (addr n : Nat) (s : State) : State := if n = 0 then s else note (.count addr n) s

/-- The RC field at a Window address counts one. -/
def count (addr : Nat) (s : State) : State := note (.count addr 1) s

/-- Time passes: `n` advances of the timebase, or as many intervals of 0.8 ns while it stands (log entry 4). The device
clock counts on, and the time in DIRECT is counted in whole microseconds (R108). -/
def elapse (n : Nat) (s : State) : State :=
  let d := n * clkPerAdvance s
  let s1 := { s with clk := s.clk + d }
  if s.tb.running then
    match s.pll.tbState with
    | .direct =>
      let a := s.pll.directAcc + d
      countBy 0x040013 (a / (1000 * clkPerNs))
        { s1 with tb := advance s n, pll := { s.pll with directAcc := a % (1000 * clkPerNs) } }
    | _ => { s1 with tb := advance s n }
  else s1

/-- The time value in units of 2⁻¹⁶ ns of the second, truncated (R65). -/
def fracOfSec (tb : Timebase) : Nat := tb.sub * (4 * 2 ^ 16) / (5 * 2 ^ 48)

/-- The sampled time (R65). -/
def nowUnits (s : State) : Units := (s.tb.sec * unitsPerSec + 125 * fracOfSec s.tb : Nat)

/-- One advance of the timebase, in units. -/
def advanceTime (s : State) : Units := ((clkPerAdvance s * unitsPerNs / clkPerNs : Nat) : Int)

/-- An instant has come: the timebase has reached it, or its next advance will. -/
def instantCome (s : State) (t : Units) : Bool := decide (t ≤ nowUnits s + advanceTime s)

/-- The stamp of an instant (R67). -/
def stampOf (t : Units) (degraded : Bool) : Stamp :=
  let n := t.toNat
  let r := n % unitsPerSec
  { sec := n / unitsPerSec % 2 ^ 48, ns := r / unitsPerNs, frac := r % unitsPerNs / 125, degraded := degraded }

/-- The timebase is in DIRECT, so stamps taken now are `DEGRADED` (R94). -/
def degradedNow (s : State) : Bool := s.pll.tbState == .direct

/-- A full stamp of now (R67). -/
def stampNow (s : State) : Stamp := stampOf (nowUnits s) (degradedNow s)

/-- The compact form of a stamp (R68). -/
def compactOf (st : Stamp) : Nat := (st.sec * 1000000000 + st.ns) % 2 ^ 32

/-- `TIME_VALID` (R66): 1 in LOCKED and HOLDOVER, and kept through a LOAD by reload. -/
def timeValid (s : State) : Bool :=
  match s.pwr.mode with
  | .locked | .holdover => true
  | .load => s.pwr.loadKind == .reload && (s.pwr.modeLeft == .locked || s.pwr.modeLeft == .holdover)
  | _ => false

/-- The first `ATTN_OFF_COUNT` entries of `ATTN_OFF_CODE` (R446). -/
def attnOffCodes (a : AttnMaskRec) : List Nat := (List.range a.attnOffCount).map fun i => leNat (bytesAt a.attnOffCode (2 * i) 2)

/-- An event is masked (R425). -/
def eventMasked (a : AttnMaskRec) (code : Nat) : Bool :=
  !bitAt a.attnBlockEn (code / 256) || (attnOffCodes a).contains code

/-- The ring entry of an event issued now (R423, R424), naming up to two instances. -/
def eventNote (code : Nat) (s : State) (i : Nat := 0xFF) (j : Nat := 0xFF) : Note :=
  .entry { code := code, inst1 := i, inst2 := j, stamp := stampNow s, compact := s.cfg.b03.timescale.stampFormat,
           stepEpoch := s.tb.stepCount, masked := eventMasked s.cfg.b10.attn code, valid := timeValid s }

/-- An event is issued (R423, R424), naming up to two instances. -/
def emit (code : Nat) (s : State) (i : Nat := 0xFF) (j : Nat := 0xFF) : State :=
  note (eventNote code s i j) s

/-- An event limited to one per second for a key (R430, R449 and others); it names the instance `i`. -/
def emitOncePer (code key i : Nat) (s : State) : State :=
  match s.tele.lastIssued.find? (fun e => e.1 == code && e.2.1 == key) with
  | some e =>
    if s.clk < e.2.2 + clkPerSec then s
    else emit code { s with tele := { s.tele with lastIssued :=
      (code, key, s.clk) :: s.tele.lastIssued.filter (fun e => !(e.1 == code && e.2.1 == key)) } } i
  | none => emit code { s with tele := { s.tele with lastIssued := (code, key, s.clk) :: s.tele.lastIssued } } i

/-- An event limited to one per second and instance. -/
def emitLimited (code i : Nat) : State → State := emitOncePer code i i

/-- The value of an RC field, zero where it is not listed. -/
def cntGet (a : Nat) : List (Nat × Nat) → Nat
  | [] => 0
  | (b, v) :: r => if a = b then v else cntGet a r

/-- An RC field set, the list kept rising and without zeros. -/
def cntSet (a v : Nat) : List (Nat × Nat) → List (Nat × Nat)
  | [] => if v = 0 then [] else [(a, v)]
  | (b, w) :: r =>
    if a < b then (if v = 0 then (b, w) :: r else (a, v) :: (b, w) :: r)
    else if a = b then (if v = 0 then r else (a, v) :: r)
    else (b, w) :: cntSet a v r

/-- The RC fields of block 0x02: first and last address, greatest value. -/
def rcFields02 : List (Nat × Nat × Nat) :=
  [(0x02000C, 0x02000D, 0xFFFF)]

/-- The RC fields of block 0x03: first and last address, greatest value. -/
def rcFields03 : List (Nat × Nat × Nat) :=
  [(0x03000D, 0x03000D, 0xFFFF),
   (0x03000E, 0x03000E, 0xFFFFFFFF),
   (0x03000F, 0x03000F, 0xFFFF)]

/-- The RC fields of block 0x04: first and last address, greatest value. -/
def rcFields04 : List (Nat × Nat × Nat) :=
  [(0x04000E, 0x040012, 0xFFFF),
   (0x040013, 0x040014, 0xFFFFFFFF),
   (0x040015, 0x040015, 0xFFFF)]

/-- The RC fields of block 0x05: first and last address, greatest value. -/
def rcFields05 : List (Nat × Nat × Nat) :=
  [(0x050004, 0x050005, 0xFFFF),
   (0x050006, 0x050006, 0xFFFFFFFF),
   (0x050040, 0x05004C, 0xFFFF)]

/-- The RC fields of block 0x06: first and last address, greatest value. -/
def rcFields06 : List (Nat × Nat × Nat) :=
  [(0x06000C, 0x06000C, 0xFFFF),
   (0x06000D, 0x06000D, 0xFFFFFFFF),
   (0x06000E, 0x06000E, 0xFFFF)]

/-- The RC fields of block 0x07: first and last address, greatest value. -/
def rcFields07 : List (Nat × Nat × Nat) :=
  [(0x07000E, 0x070011, 0xFFFF),
   (0x070012, 0x070012, 0xFFFFFFFF)]

/-- The RC fields of block 0x08: first and last address, greatest value. -/
def rcFields08 : List (Nat × Nat × Nat) :=
  [(0x080005, 0x080008, 0xFFFFFFFF),
   (0x080009, 0x08000B, 0xFFFF)]

/-- The RC fields of block 0x09: first and last address, greatest value. -/
def rcFields09 : List (Nat × Nat × Nat) :=
  [(0x090010, 0x090013, 0xFFFFFFFF),
   (0x090014, 0x090017, 0xFFFF),
   (0x09001A, 0x09001A, 0xFFFF),
   (0x09001C, 0x09001C, 0xFFFFFFFF),
   (0x09001D, 0x09001D, 0xFFFF)]

/-- The RC fields of block 0x0A: first and last address, greatest value. -/
def rcFields0A : List (Nat × Nat × Nat) :=
  [(0x0A0004, 0x0A0004, 0xFFFFFFFF),
   (0x0A0006, 0x0A0006, 0xFFFF),
   (0x0A0028, 0x0A0087, 0xFFFFFFFF),
   (0x0A0088, 0x0A008F, 0xFFFF),
   (0x0A0090, 0x0A0097, 0xFFFFFFFF)]

/-- The RC fields of block 0x0B: first and last address, greatest value. -/
def rcFields0B : List (Nat × Nat × Nat) :=
  [(0x0B0005, 0x0B0006, 0xFFFFFFFF),
   (0x0B0007, 0x0B0007, 0xFFFF),
   (0x0B0008, 0x0B0008, 0xFFFFFFFF),
   (0x0B0009, 0x0B000A, 0xFFFF),
   (0x0B0080, 0x0B009F, 0xFFFFFFFF)]

/-- The RC fields of block 0x0C: first and last address, greatest value. -/
def rcFields0C : List (Nat × Nat × Nat) :=
  [(0x0C0010, 0x0C0020, 0xFFFFFFFF),
   (0x0C0140, 0x0C017F, 0xFFFFFFFF)]

/-- The RC fields of block 0x0D: first and last address, greatest value. -/
def rcFields0D : List (Nat × Nat × Nat) :=
  [(0x0D0005, 0x0D0010, 0xFFFFFFFF),
   (0x0D0011, 0x0D0011, 0xFFFF),
   (0x0D0028, 0x0D003F, 0xFFFFFFFF),
   (0x0D0107, 0x0D0108, 0xFFFFFFFF),
   (0x0D0117, 0x0D0118, 0xFFFFFFFF)]

/-- The RC fields of block 0x0E: first and last address, greatest value. -/
def rcFields0E : List (Nat × Nat × Nat) :=
  [(0x0E0010, 0x0E001E, 0xFFFFFFFF)]

/-- The RC fields of block 0x0F: first and last address, greatest value. -/
def rcFields0F : List (Nat × Nat × Nat) :=
  [(0x0F0007, 0x0F0009, 0xFFFFFFFF),
   (0x0F002C, 0x0F0033, 0xFFFFFFFF),
   (0x0F0034, 0x0F0037, 0xFFFF),
   (0x0F0038, 0x0F003B, 0xFFFFFFFF),
   (0x0F0048, 0x0F004F, 0xFFFFFFFF)]

/-- The RC fields of block 0x10: first and last address, greatest value. -/
def rcFields10 : List (Nat × Nat × Nat) :=
  [(0x100005, 0x100005, 0xFFFFFFFF),
   (0x100006, 0x100008, 0xFFFF)]

/-- The RC fields of block 0x11: first and last address, greatest value. -/
def rcFields11 : List (Nat × Nat × Nat) :=
  [(0x110050, 0x110083, 0xFFFFFFFF),
   (0x110090, 0x110092, 0xFFFF),
   (0x110093, 0x110095, 0xFFFFFFFF)]

/-- The RC fields of block 0x12: first and last address, greatest value. -/
def rcFields12 : List (Nat × Nat × Nat) :=
  [(0x12000F, 0x12000F, 0xFFFFFFFF),
   (0x120010, 0x120012, 0xFFFF)]

/-- Every RC field of the Window (R10), ATTN_PENDING apart. -/
def rcFields : List (Nat × Nat × Nat) :=
  rcFields02 ++ rcFields03 ++ rcFields04 ++ rcFields05 ++ rcFields06 ++ rcFields07 ++ rcFields08 ++ rcFields09 ++ rcFields0A ++ rcFields0B ++ rcFields0C ++ rcFields0D ++ rcFields0E ++ rcFields0F ++ rcFields10 ++ rcFields11 ++ rcFields12

/-- The greatest value of the RC field at an address; an address with none holds nothing. -/
def rcMax (a : Nat) : Nat :=
  match rcFields.find? fun f => decide (f.1 ≤ a ∧ a ≤ f.2.1) with
  | some f => f.2.2
  | none => 0

/-- What one note does to the report (R10, R420, R423, R425, R441). -/
def applyNote (n : Note) (r : Report) : Report :=
  match n with
  | .entry e =>
    let r := { r with ring := (e :: r.ring).take 1024, evHead := (r.evHead + 1) % 65536, unsent := r.unsent + 1 }
    if e.marker || e.masked then r else { r with attnPending := min 0xFFFF (r.attnPending + 1), attnLow := true }
  | .count a k => { r with cnt := cntSet a (min (rcMax a) (cntGet a r.cnt + k)) r.cnt }
  | .taken a k => { r with cnt := cntSet a (cntGet a r.cnt - k) r.cnt }
  | .attnTaken k => { r with attnPending := r.attnPending - k, attnLow := r.attnLow && decide (0 < r.attnPending - k) }
  | .reported k => { r with unsent := k }
  | .clearBlock b => { r with cnt := r.cnt.filter fun e => e.1 / 65536 != b }
  | .clearRange lo hi => { r with cnt := r.cnt.filter fun e => decide (e.1 < lo ∨ hi < e.1) }
  | .clearRing => { r with ring := [], evHead := 0, attnPending := 0, attnLow := false, unsent := 0 }

/-- The report after a command's notes, the oldest first. -/
def applyNotes (ns : List Note) (r : Report) : Report := ns.foldr applyNote r

/-- A number put into a rising list, once. -/
def insertNat (a : Nat) : List Nat → List Nat
  | [] => [a]
  | b :: r => if a < b then a :: b :: r else if a = b then b :: r else b :: insertNat a r

/-- An element put before the first of a list that is not to stand before it. -/
def insertBy {α : Type} (le : α → α → Bool) (x : α) : List α → List α
  | [] => [x]
  | y :: r => if le x y then x :: y :: r else y :: insertBy le x r

/-- A list in ascending order; what stands equal keeps its order. -/
def sortBy {α : Type} (le : α → α → Bool) (l : List α) : List α := l.foldr (insertBy le) []

/-- The event code of a note; none for what is not an entry of the ring. -/
def Note.entryCode (n : Note) : Option Nat :=
  match n with
  | .entry e => some e.code
  | _ => none

/-- A step of R125: the events it issues appear in ascending event code (R423). -/
def inOrder (f : State → State) (s : State) : State :=
  let s1 := f { s with notes := [] }
  let old := s1.notes.reverse
  let entries := sortBy (fun a b => decide (a.entryCode.getD 0 ≤ b.entryCode.getD 0)) (old.filter fun n => n.entryCode.isSome)
  { s1 with notes := (old.filter (fun n => n.entryCode.isNone) ++ entries).reverse ++ s.notes }

/-- PD4 runs: the device is not in RETAIN, and `RESET_N` is not low (R468, R479). -/
def pd4Runs (s : State) : Bool := s.pwr.mode != .retain && s.pwr.resetHeld == .none

/-- The state a command starts from: its outputs empty, and its time passed. -/
def begin (dt : Nat) (s : State) : State := elapse dt { s with out := [], wire := [], notes := [] }

/-- The next state of a command: its notes reported; the queue, the OTP and the time value as the command found them
(R18: no other block writes the timebase). -/
def finish (s0 s1 s2 : State) : Host.Outcome State Fault Refusal :=
  .next { s2 with pending := s0.pending, otp := s0.otp, tb := s1.tb, clk := s1.clk,
                  rep := applyNotes s2.notes s0.rep, notes := [] }

/-- A command that writes neither PD0, nor the OTP, nor the time value. -/
def act (dt : Nat) (f : State → State) (s : State) : Host.Outcome State Fault Refusal :=
  let s1 := begin dt s
  let s2 := f s1
  finish s s1 { s2 with pd0 := s.pd0 }

/-- A command that may write PD0 and neither the OTP nor the time value. -/
def actPd0 (dt : Nat) (f : State → State) (s : State) : Host.Outcome State Fault Refusal :=
  let s1 := begin dt s
  finish s s1 (f s1)

/-- A command that may write the time value or start or stop it, and PD0, and not the OTP. -/
def actTime (dt : Nat) (f : State → State) (s : State) : Host.Outcome State Fault Refusal :=
  let s2 := f (begin dt s)
  .next { s2 with pending := s.pending, otp := s.otp, rep := applyNotes s2.notes s.rep, notes := [] }

/-- A command that may write the OTP, and neither PD0 nor the time value. -/
def actOtp (dt : Nat) (f : State → State) (s : State) : Host.Outcome State Fault Refusal :=
  let s1 := begin dt s
  let s2 := f s1
  .next { s2 with pending := s.pending, pd0 := s.pd0, tb := s1.tb, clk := s1.clk,
                  rep := applyNotes s2.notes s.rep, notes := [] }

/-- The OTP as its domain leaves a reset or a power-up (R13, R62, R479): the words stay, no command is in progress, and the fields shifted
out are clear. What a `PROGRAM` cut short has set of its data the manual does not say (log entry 29). -/
def otpReset (clk : Nat) (o : Otp) : Otp :=
  { word := match o.programming with
      | some (i, d) => o.word.set i (o.word[i] ||| (d &&& BitVec.ofNat 32 (Config.freeAt 18 clk)))
      | none => o.word }

/-- A command on the power and reset pins: it may write the time value and PD0, and where it resets PD4 the OTP is as `otpReset` leaves
it. -/
def actPower (dt : Nat) (resets : State → Bool) (f : State → State) (s : State) : Host.Outcome State Fault Refusal :=
  let s1 := begin dt s
  let s2 := f s1
  .next { s2 with pending := s.pending, otp := if resets s1 then otpReset s1.clk s.otp else s.otp,
                  rep := applyNotes s2.notes s.rep, notes := [] }

/-- A retention item written (R475): into the older copy, with the next of its 32-bit counts. -/
def keep {α : Type} (x : α) (k : Kept α) : Kept α :=
  let n := (1 + max ((k.copy0.map (·.1)).getD 0) ((k.copy1.map (·.1)).getD 0)) % 2 ^ 32
  if k.next then { k with copy1 := some (n, x), next := false } else { k with copy0 := some (n, x), next := true }

/-- The item a restore would give (R475): the copy with the higher count. -/
def kept {α : Type} (k : Kept α) : Option α :=
  match k.copy0, k.copy1 with
  | some (a, x), some (b, y) => some (if a < b then y else x)
  | some (_, x), none => some x
  | none, some (_, y) => some y
  | none, none => none

/-- The telemetry block changed. -/
def modTele (f : Telemetry → Telemetry) (s : State) : State := { s with tele := f s.tele }

/-- A value in a field of `w` bits; what a field shows of a value too great for it the manual does not say (log entry 11). -/
def fitU (w v : Nat) : Nat := if v < 2 ^ w then v else Config.narrow w v % 2 ^ w

/-- A signed value in a field of `w` bits, as two's complement (R7, log entry 11). -/
def fitS (w : Nat) (v : Int) : Nat :=
  if -(2 ^ (w - 1) : Int) ≤ v ∧ v < 2 ^ (w - 1) then (v % 2 ^ w).toNat else Config.narrow w v % 2 ^ w

/-- The histogram bin of a sample (R428). -/
def tallyBin (shift : Nat) (v : Int) : Nat :=
  let w := v.natAbs / 2 ^ shift
  if w < 4 then w
  else
    let e := Nat.log2 w
    min 63 (4 * (e - 1) + w / 2 ^ (e - 2) % 4)

/-- A sum limited to 64 bits, signed (R429). -/
def satSum (n : Int) : Int := max (-(2 ^ 63)) (min (2 ^ 63 - 1) n)

/-- A sample taken into an accumulation (R427, R428); any saturation is noted (R429). -/
def tallyAdd (shift : Nat) (v : Int) (a : TallyAcc) : TallyAcc :=
  let bin := tallyBin shift v
  let b := cntGet bin a.bins
  let neg := if v < 0 then 1 else 0
  { a with
    count := min (2 ^ 64 - 1) (a.count + 1)
    sum := satSum (a.sum + v)
    min := if a.count = 0 then v else min a.min v
    max := if a.count = 0 then v else max a.max v
    neg := min 0xFFFFFFFF (a.neg + neg)
    bins := cntSet bin (min 0xFFFFFFFF (b + 1)) a.bins
    sat := a.sat || decide (2 ^ 64 - 1 < a.count + 1) || satSum (a.sum + v) != a.sum + v ||
      decide (0xFFFFFFFF < a.neg + neg) || decide (0xFFFFFFFF < b + 1) }

/-- One Tally monitor changed. -/
def modMonitor (n : Fin 24) (f : Monitor → Monitor) : State → State :=
  modTele fun t => { t with monitor := t.monitor.set n (f t.monitor[n]) }

/-- A sample greater than `TALLY_ATTN_MAX` issues event 0x1004, at most once a second per monitor (R430); 0x7FFF_FFFF disables
it. -/
def tallyLimit (n : Fin 24) (v : Int) (s : State) : State :=
  let m := (s.cfg.b10.tally[n]).tallyAttnMax
  if m != 0x7FFFFFFF && decide (m < v) then emitLimited 0x1004 n.val s else s

/-- A source delivers a sample (R427): every monitor that selects it accumulates it. -/
def tallySample (src inst : Nat) (v : Int) (s : State) : State :=
  (List.finRange 24).foldl (fun s n =>
    let r := s.cfg.b10.tally[n]
    if r.tallySrc == src && r.tallyInst == inst then
      tallyLimit n v (modMonitor n (fun m => { m with live := tallyAdd r.tallyShift v m.live }) s)
    else s) s

/-- A sample record joins the queue of R434, or is lost to a full one; the next one carries `SMP_GAP`. -/
def smpQueue (r : SampleRec) (s : State) : State :=
  if 64 ≤ s.tele.smpQueue.length then count 0x100008 (modTele (fun t => { t with smpLost := true }) s)
  else modTele (fun t => { t with
    smpQueue := t.smpQueue ++ [{ r with gap := t.smpGap || t.smpLost, afterLoss := t.smpLost }]
    smpGap := false, smpLost := false }) s

/-- One sampler changed. -/
def modSampler (n : Fin 16) (f : SamplerState → SamplerState) : State → State :=
  modTele fun t => { t with sampler := t.sampler.set n (f t.sampler[n]) }

/-- A sampler counts `k` occurrences down from its preset (R433): each time it reaches zero it owes the record of that occurrence. -/
def samplerCount (preset k : Nat) (rec : Nat → SampleRec) (x : SamplerState) : SamplerState :=
  if k < x.remain then { x with remain := x.remain - k }
  else
    let beyond := k - x.remain
    let p := max 1 preset
    { x with remain := p - beyond % p, due := x.due ++ (List.range (1 + beyond / p)).map fun i => rec (x.remain + i * p) }

/-- The samplers stand still from LOAD entry to the apply tick (R441). -/
def samplersStopped (s : State) : Bool := s.pwr.mode == .load || s.pwr.mode == .retain

/-- A sampler counts this source on this Millstone (R433). -/
def samplerTakes (s : State) (n : Fin 16) (src ms : Nat) : Bool :=
  let r := s.cfg.b10.sampler[n]
  !samplersStopped s && r.smpSrc == src && (decide (4 < src) || r.smpMsSel == 63 || r.smpMsSel == ms)

/-- An occurrence of one of the sources 5 to 11 (R433), with its record. -/
def samplerOccurs (src : Nat) (rec : SampleRec) (s : State) : State :=
  (List.finRange 16).foldl (fun s n =>
    if samplerTakes s n src 63 then
      modSampler n (samplerCount (s.cfg.b10.sampler[n]).smpPreset 1 fun _ => { rec with idx := n.val, src := src }) s
    else s) s

/-- The instant so many units of the device clock ago (R65), at the rate in force. -/
def unitsAgo (s : State) (age : Nat) : Units :=
  nowUnits s - (if s.tb.running then ((age * unitsPerNs * advanceUnits s.tb / (clkPerNs * 2 ^ 48) : Nat) : Int) else 0)

/-- Ledger time of a Millstone added to the ledgers of one of the sources 1 to 4 (R433): each 1,000 ns is an occurrence. Time that has just
passed gives each its own instant; time held in hand is added at once. -/
def samplerTime (src ms d : Nat) (passed : Bool) (rec : SampleRec) (s : State) : State :=
  let us := 1000 * clkPerNs
  (List.finRange 16).foldl (fun s n =>
    if samplerTakes s n src ms then
      let a := (getIndexed ms (s.tele.sampler[n]).acc).getD 0 + d
      let at_ (i : Nat) : Stamp := if passed then stampOf (unitsAgo s (a - i * us)) (degradedNow s) else rec.stamp
      modSampler n (fun x =>
        let x := { x with acc := putIndexed ms (a % us) x.acc }
        if a < us then x
        else samplerCount (s.cfg.b10.sampler[n]).smpPreset (a / us) (fun i => { rec with idx := n.val, src := src, stamp := at_ i }) x) s
    else s) s

/-- A sampler counts time as it passes, `LG_IDLE` or a wait (R433). -/
def timeSampled (s : State) : Bool :=
  !samplersStopped s && s.cfg.b10.sampler.toList.any fun r => r.smpSrc == 3 || r.smpSrc == 4

/-- The instant a marker names (R69): of a second marker the boundary itself, 0 ns, of a step marker the stepped time. -/
def markerUnits (step : Bool) (s : State) : Units := if step then nowUnits s else (s.tb.markerSec * unitsPerSec : Nat)

/-- A marker of R69 in the event ring and in the sample ring (R423, R434): it reports no event. -/
def ringMarkers (step : Bool) (s : State) : State :=
  let st := stampOf (markerUnits step s) false
  let s := note (.entry { stamp := st, compact := s.cfg.b03.timescale.stampFormat, stepEpoch := s.tb.stepCount, marker := true,
                          masked := false, valid := timeValid s, stepMarker := step }) s
  smpQueue { marker := true, valid := timeValid s, stepMarker := step, stepEpoch := s.tb.stepCount, stamp := st,
             compact := s.cfg.b03.timescale.stampFormat } s

end Sys2Proof.Machine
end

