-- ==== Sys2Proof/Machine/References.lean ====
section
/-!
DEFINITION. The reference slots and the Fantail's rules (05_reference_selection.md), the Governor's tick apart.
-/

namespace Sys2Proof.Machine

/-- The kinds of R110, every 1PPS slot counted as one (R136). -/
inductive RefKind
  | pps | freq | gnss | ptp | leat | synce
deriving DecidableEq, Repr

/-- The kind of a slot (R110). -/
def refKind (s : State) (n : Fin 13) : RefKind :=
  if n.val ≤ 3 then (if (s.cfg.b05.slot[n]).refKind == 0 then .pps else .freq)
  else if n.val = 4 then .gnss
  else if n.val ≤ 6 then .ptp
  else if n.val ≤ 10 then .leat
  else .synce

/-- A full-time reference (R111). -/
def fullTime (k : RefKind) : Bool := k == .gnss || k == .ptp || k == .leat

/-- A time or phase reference (R111). -/
def timeOrPhase (k : RefKind) : Bool := fullTime k || k == .pps

/-- `REF5` to `REF10`, which arrive through the serving half or Leat (R24). -/
def servedSlot (n : Fin 13) : Bool := decide (5 ≤ n.val ∧ n.val ≤ 10)

/-- One slot changed. -/
def modRef (n : Fin 13) (f : RefSlot → RefSlot) (s : State) : State := { s with refs := s.refs.set n (f s.refs[n]) }

/-- The Governor's part changed. -/
def modGov (f : Governor → Governor) (s : State) : State := { s with gov := f s.gov }

/-- The bandwidth of a `REF_BW` code in 0.0001 Hz (R133). -/
def bwCode (c : Nat) : Nat :=
  [5, 10, 20, 50, 100, 200, 500, 1000, 2000, 5000, 10000, 20000, 50000, 100000, 200000, 500000, 1000000, 2000000, 5000000,
   10000000, 20000000].getD c 0

/-- The nominal sample rate of a slot in samples per 1,000 s (R113). -/
def sampleRate (s : State) (n : Fin 13) : Rat :=
  match refKind s n with
  | .pps | .gnss => 1000
  | .freq | .leat | .synce => 1000000
  | .ptp =>
    let l := if n.val = 5 then (s.cli[0]).syncLog else (s.cli[1]).syncLog
    if l ≤ 0 then (1000 * 2 ^ (-l).toNat : Nat) else 1000 / (2 ^ l.toNat : Nat)

/-- The tracking bandwidth f_T in 0.0001 Hz (R113): min(f_REF, s / 10). -/
def trackBw (s : State) (n : Fin 13) : Rat := min (bwCode (s.cfg.b05.slot[n]).refBw : Nat) (sampleRate s n)

/-- Mean of a list of rationals, zero for none. -/
def mean (l : List Rat) : Rat := if l.isEmpty then 0 else l.foldl (· + ·) 0 / (l.length : Nat)

/-- The least-squares slope of x over the samples (R111), in ppb; with fewer than two distinct instants the value the
manual does not give. -/
def slopePpb (samples : List (Units × Units)) : Rat :=
  let ts := samples.map fun p => (p.1 : Rat)
  let xs := samples.map fun p => (p.2 : Rat)
  let tm := mean ts
  let xm := mean xs
  let den := (ts.map fun t => (t - tm) * (t - tm)).foldl (· + ·) 0
  if den = 0 then Config.slopeOfFew samples.length
  else 1000000000 * ((samples.map fun p => ((p.1 : Rat) - tm) * ((p.2 : Rat) - xm)).foldl (· + ·) 0) / den

/-- The regression line of a slot at an instant: the track of R119 and R121. -/
def trackAt (r : RefSlot) (t : Units) : Rat :=
  let tm := mean (r.samples.map fun p => (p.1 : Rat))
  let xm := mean (r.samples.map fun p => (p.2 : Rat))
  xm + r.y / 1000000000 * ((t : Rat) - tm)

/-- `PHASE_JUMP_NS` in units. -/
def phaseJump (s : State) : Rat := (s.cfg.b05.fantail.phaseJumpNs * unitsPerNs : Nat)

/-- A phase lies farther than a bound of nanoseconds from another. -/
def apartNs (a b : Rat) (ns : Nat) : Bool := decide (((ns * unitsPerNs : Nat) : Rat) < a - b ∨ ((ns * unitsPerNs : Nat) : Rat) < b - a)

/-- |x| of an interval exceeds a number of nanoseconds. -/
def beyondNs (x : Units) (ns : Nat) : Bool := decide (((ns * unitsPerNs : Nat) : Int) < x ∨ ((ns * unitsPerNs : Nat) : Int) < -x)

/-- The phase of a slot net of its build-out (R127): the selected slot's less B. -/
def netX (s : State) (n : Fin 13) : Units := if s.gov.sel == some n then (s.refs[n]).x - s.gov.b else (s.refs[n]).x

/-- The conditions of R119 hold of a slot now. -/
def qualifies (s : State) (n : Fin 13) : Bool :=
  let r := s.refs[n]
  r.signal && decide (r.ql < 15) &&
  decide (-(s.cfg.b05.fantail.qualFreqPpb : Rat) ≤ r.y ∧ r.y ≤ (s.cfg.b05.fantail.qualFreqPpb : Rat)) &&
  (!timeOrPhase (refKind s n) || r.samples.all fun p =>
    !apartNs (p.2 : Rat) (trackAt r p.1) s.cfg.b05.fantail.phaseJumpNs)

/-- The return window of R154 in ns: E + `RETURN_MARGIN_NS`. -/
def returnWindow (s : State) : Rat := s.ho.e + (s.ho.par.returnMarginNs : Nat)

/-- The mode by which references and rate are governed: during a reload the mode left (R24, R159). -/
def govMode (s : State) : Mode := if s.pwr.mode == .load && s.pwr.loadKind == .reload then s.pwr.modeLeft else s.pwr.mode

/-- A slot fails the return window (R154): in HOLDOVER, a time or phase slot not released whose |x| exceeds A. -/
def outsideWindow (s : State) (n : Fin 13) : Bool :=
  let r := s.refs[n]
  govMode s == .holdover && timeOrPhase (refKind s n) && !r.released &&
  decide (returnWindow s * (unitsPerNs : Nat) < (r.x : Rat) ∨ returnWindow s * (unitsPerNs : Nat) < -(r.x : Rat))

/-- A phase taken in ±0.5 s (R111). -/
def wrapSecond (d : Units) : Units :=
  let u : Int := unitsPerSec
  let r := d % u
  if 2 * r < u then r else r - u

/-- The raw phase sample of a slot (R111, R112, R196): the nearest second boundary plus `REF_DELAY_PS` less an edge's stamp,
the accumulated phase of a frequency, or what the owning block delivered. -/
def rawSample (s : State) (n : Fin 13) (m : PhaseMeas) : Option Units :=
  match m with
  | .edge stamp =>
    if refKind s n == .pps then
      some (wrapSecond ((s.cfg.b05.slot[n]).refDelayPs * unitsPerPs - stamp))
    else none
  | .accumulated x => if refKind s n == .freq || refKind s n == .synce then some x else none
  | .delivered => (s.refs[n]).delivered

/-- A sample taken into a slot: the filter, the last 16 s, and y (R111, R113). -/
def takeSample (s : State) (n : Fin 13) (t x : Units) (r : RefSlot) : RefSlot :=
  let f := if r.samples.isEmpty then x else Config.trackFilter (trackBw s n) (sampleRate s n) r.x x
  let samples := (t, f) :: r.samples.filter fun p => decide (t - p.1 < 16 * (unitsPerSec : Int))
  { r with x := f, samples := samples, y := slopePpb samples, jumpRun := 0, signal := true }

/-- The filtered sample an admitted x would give. -/
def filteredX (s : State) (n : Fin 13) (x : Units) (r : RefSlot) : Units :=
  if r.samples.isEmpty then x else Config.trackFilter (trackBw s n) (sampleRate s n) r.x x

/-- The QL of a clockClass (R114, R115); 15 where no entry in use names it. -/
def ccQl (m : QlMapRec) (c : Nat) : Nat :=
  match m.ccMap.find? fun e => e.1 == c && e.2 != 0xFF with
  | some e => e.2
  | none => 15

/-- The QL of a received SSM code and extended QL TLV (R114). -/
def esmcQl (m : QlMapRec) (ssm : Nat) (tlv : Option EsmcTlv) : Nat :=
  match (tlv.map (·.essm)).getD 0xFF with
  | 0x21 => m.essmMap.getD 0 15
  | 0x20 => m.essmMap.getD 1 15
  | 0x23 => m.essmMap.getD 2 15
  | 0x22 => m.essmMap.getD 3 15
  | _ => m.ssmMap.getD ssm 15

/-- ⌊h / `LEAT_HOPS_PER_QL`⌋ added to a `ROOT_QL` (R114). -/
def hopsQl (perQl ql hops : Nat) : Nat := if perQl = 0 then min 15 ql else min 15 (ql + hops / perQl)

/-- The best master of a client instance. -/
def bestOf (c : Client) : Option Candidate := c.best.bind fun b => c.cands.find? fun x => x.src == b

/-- The QL a slot's advertised quality maps to now (R114, R116). Without a timing state a GNSS slot keeps the one it has. -/
def qlNow (s : State) (n : Fin 13) : Nat :=
  let m := s.cfg.b05.qlMap
  match refKind s n with
  | .pps | .freq => (s.cfg.b05.slot[n]).refQlFixed
  | .gnss => if s.gnss.timingState = 0 then (s.refs[n]).ql else m.gnssMap.getD (s.gnss.timingState - 1) 15
  | .ptp =>
    match bestOf s.cli[(Fin.ofNat 2 (n.val - 5))] with
    | some x => ccQl m x.msg.gmClass
    | none => 15
  | .leat =>
    match (s.leat.link[(Fin.ofNat 4 (n.val - 7))]).rx with
    | some r => hopsQl s.cfg.b05.fantail.leatHopsPerQl r.1.rootQl (r.1.hops + 1)
    | none => 15
  | .synce =>
    match (s.refs[n]).ssm with
    | some r => esmcQl m r.1 r.2
    | none => 15

/-- R412 holds the slot of a link: its neighbour is in LOAD. -/
def linkHeld (s : State) (n : Fin 4) : Bool := (s.leat.link[n]).held && !(s.leat.link[n]).holdOver

/-- A slot is held in its present state (R412). -/
def slotHeld (s : State) (n : Fin 13) : Bool := refKind s n == .leat && linkHeld s (Fin.ofNat 4 (n.val - 7))

/-- What the owning block delivered has been taken: it gives one phase sample. -/
def taken (m : PhaseMeas) (r : RefSlot) : RefSlot := if m = .delivered then { r with delivered := none } else r

/-- REF_PHASE_SAMPLE (R111 to R113, R121, R138): a slot yields a phase sample, which is filtered and checked against the
slot's track. A disqualification by three jumps empties the samples held, so that the next one starts the filter and the slope anew
(DEDUCED, log entry 90). -/
def execRefPhaseSample (dt : Nat) (n : Fin 13) (m : PhaseMeas) (s : State) : Host.Outcome State Fault Refusal :=
  act dt (fun s =>
    let r := s.refs[n]
    match rawSample s n m with
    | none => s
    | some x =>
      let t := nowUnits s
      if r.st == .disabled || r.st == .unavailable then s
      else if r.awaited then
        if s.pwr.mode != .load && decide (qlNow s n < 15) && !apartNs (x : Rat) (trackAt r t) s.cfg.b05.fantail.phaseJumpNs then
          let s := modRef n (fun r => { takeSample s n t x (taken m r) with awaited := false }) s
          modGov (fun g => { g with grace := g.grace && s.refs.toList.any (·.awaited) }) (tallyPhase n s)
        else s
      else
        let f := filteredX s n x r
        let jumped := (r.st == .eligible || r.st == .selected) && timeOrPhase (refKind s n) && !r.samples.isEmpty &&
          apartNs (f : Rat) (trackAt r t) s.cfg.b05.fantail.phaseJumpNs
        if jumped then
          let s := count 0x050006 (modRef n (fun r => { taken m r with jumpRun := r.jumpRun + 1 }) s)
          if r.jumpRun + 1 < 3 then s
          else emit 0x0505 (modRef n (fun r => { r with st := .qualifying, jumpRun := 0, samples := [] }) s) n.val
        else tallyPhase n (modRef n (fun r => takeSample s n t x (taken m r)) s)) s
where
  /-- The sample of Tally source 7 (R427): filtered x in ps. -/
  tallyPhase (n : Fin 13) (s : State) : State := tallySample 7 n.val ((s.refs[n]).x / unitsPerPs) s

/-- A slot loses its signal (R118): counted and reported from a state numbered 2 or above. One awaited after a reload reads its prior
state (R138). -/
def loseSignal (n : Fin 13) (s : State) : State :=
  let r := s.refs[n]
  let s1 := modRef n (fun r => { r with st := .noSignal, signal := false, samples := [], jumpRun := 0, held := false,
                                        delivered := none, partner := none, awaited := false }) s
  match r.st with
  | .disabled | .unavailable => s
  | .noSignal => s
  | _ => if r.awaited then s else count (0x050040 + n.val) (emit 0x0503 s1 n.val)

/-- A slot that is `UNAVAILABLE` and not awaited leaves that state (R117, R118): with a signal it qualifies anew; without one its entry to
`NO_SIGNAL`, from a state numbered 9, is counted and reported. -/
def backFromLoad (n : Fin 13) (s : State) : State :=
  let r := s.refs[n]
  let s := modRef n (fun r => { r with st := if r.signal then .qualifying else .noSignal, samples := [], jumpRun := 0, partner := none,
                                       held := false, awaited := false, delivered := none }) s
  if r.signal then s else count (0x050040 + n.val) (emit 0x0503 s n.val)

/-- REF_SIGNAL_LOSS (R118): the loss condition of a slot's kind holds. -/
def execRefSignalLoss (dt : Nat) (n : Fin 13) (s : State) : Host.Outcome State Fault Refusal :=
  act dt (fun s => if slotHeld s n then s else loseSignal n s) s

/-- REF_QUALIFIED (R119, R120, R154): a slot has met every condition for `QUAL_TIME_S`; it goes to wait-to-restore, or, at
its first eligibility since a load from RETAIN or `RESET_N`, to ELIGIBLE. -/
def execRefQualified (dt : Nat) (n : Fin 13) (s : State) : Host.Outcome State Fault Refusal :=
  act dt (fun s =>
    let r := s.refs[n]
    if r.st == .qualifying && qualifies s n && !outsideWindow s n && !slotHeld s n then
      emit 0x0502 (modRef n (fun r =>
        if r.returning then { r with st := .wtr, wtrSince := s.clk } else { r with st := .eligible, returning := true }) s) n.val
    else s) s

/-- WTR_EXPIRY (R120): `REF_WTR_S` has passed since wait-to-restore began. -/
def execWtrExpiry (dt : Nat) (n : Fin 13) (s : State) : Host.Outcome State Fault Refusal :=
  act dt (fun s =>
    if (s.refs[n]).st == .wtr && !slotHeld s n then modRef n (fun r => { r with st := .eligible, returning := true }) s else s) s

/-- Two slots agree (R128): within `DISAGREE_PPB` in y and, where both carry phase, within `DISAGREE_NS` in x. -/
def slotsAgree (s : State) (i j : Fin 13) : Bool :=
  let d := (s.refs[i]).y - (s.refs[j]).y
  let p : Rat := (s.cfg.b05.fantail.disagreePpb : Nat)
  decide (-p ≤ d ∧ d ≤ p) &&
  (!(timeOrPhase (refKind s i) && timeOrPhase (refKind s j)) ||
    !beyondNs (netX s i - netX s j) s.cfg.b05.fantail.disagreeNs)

/-- A slot is in ELIGIBLE or SELECTED. -/
def inPlay (s : State) (n : Fin 13) : Bool := (s.refs[n]).st == .eligible || (s.refs[n]).st == .selected

/-- The thirteen slots in order. -/
def allSlots : List (Fin 13) := List.finRange 13

/-- The voters of R128: every other slot in ELIGIBLE, SELECTED, WTR or QL_UNUSABLE. -/
def voters (s : State) (i j : Fin 13) : List (Fin 13) :=
  allSlots.filter fun k => k != i && k != j &&
    (inPlay s k || (s.refs[k]).st == .wtr || (s.refs[k]).st == .qlUnusable)

/-- A slot is outvoted (R128): event 0x0507. -/
def outvote (n : Fin 13) (s : State) : State :=
  emit 0x0507 (modRef n (fun r => { r with st := .outvoted }) s) n.val

/-- A slot is disputed with a partner (R128). -/
def dispute (n p : Fin 13) (s : State) : State := modRef n (fun r => { r with st := .disputed, partner := some p }) s

/-- A slot leaves OUTVOTED or DISPUTED for wait-to-restore (R129): event 0x0508. -/
def restoreAgreement (n : Fin 13) (s : State) : State :=
  emit 0x0508 (modRef n (fun r => { r with st := .wtr, wtrSince := s.clk, partner := none }) s) n.val

/-- `SWITCH_DRAINING` (R131, R142): B is not zero and drains. -/
def draining (s : State) : Bool :=
  s.gov.b != 0 && s.cfg.b05.fantail.buildoutDrain != 0 &&
  match s.gov.sel with
  | some n => timeOrPhase (refKind s n)
  | none => false

/-- HOLDOVER ends by entry to SAFE (R157): the changes of that rule with E cleared, and event 0x0603. Where no holdover runs, an E that
is kept stands until a time or phase reference is selected (R156). The timer shows 0 in SAFE (R151). -/
def holdoverEndsInSafe (s : State) : State :=
  if s.ho.st = 0 then { s with ho := { s.ho with remaining := 0 } }
  else
    let secs := ((nowUnits s - s.ho.entry) / (unitsPerSec : Nat)).toNat
    emit 0x0603 (countBy 0x06000D secs
      { s with ho := { s.ho with st := 0, e := 0, kept := false, dco := false, elapsed := secs, remaining := 0 },
               refs := s.refs.map fun r => { r with held := false, released := false } })

/-- Two slots of different kinds agree in x (R136). -/
def agreeOff (s : State) (i j : Fin 13) : Bool :=
  refKind s i != refKind s j && !beyondNs ((s.refs[i]).x - (s.refs[j]).x) s.cfg.b05.fantail.disagreeNs

/-- Cause 1 of R136: slots of two or more different kinds in `OFF_TIME` agree with one another in x. -/
def timescaleOutvoted (s : State) : Bool :=
  let off := allSlots.filter fun n => (s.refs[n]).st == .offTime
  off.any fun i => off.any fun j => agreeOff s i j

/-- The first two slots that make cause 1 of R136. -/
def agreeingOff (s : State) : Option (Nat × Nat) :=
  let off := allSlots.filter fun n => (s.refs[n]).st == .offTime
  off.findSome? fun i => (off.find? fun j => agreeOff s i j).map fun j => (i.val, j.val)

/-- Cause 2 of R136: |e| beyond `INTEGRITY_LIMIT_NS` while `RATE_CLAMPED` is set. -/
def untrackable (s : State) : Bool :=
  s.ts.rateClamped && beyondNs s.gov.e s.cfg.b05.fantail.integrityLimitNs

/-- The device is in LOCKED or HOLDOVER, a reload from either included (R158, R159). -/
def timeHeld (s : State) : Bool := govMode s == .locked || govMode s == .holdover

/-- GRACE_EXPIRY (R138): 2 s after LOAD, a slot that has not returned enters QUALIFYING as a returning slot. -/
def execGraceExpiry (dt : Nat) (s : State) : Host.Outcome State Fault Refusal :=
  act dt (fun s =>
    if s.gov.grace then
      { s with
        refs := s.refs.map fun r => if r.awaited
          then { r with awaited := false, returning := true, st := .qualifying, samples := [], signal := r.signal } else r
        gov := { s.gov with grace := false } }
    else s) s

/-- ESMC_TIMEOUT (R116): 5 s without an ESMC frame; the slot takes QL15 at the next tick. -/
def execEsmcTimeout (dt : Nat) (slot : Fin 2) (s : State) : Host.Outcome State Fault Refusal :=
  act dt (fun s => modRef (Fin.ofNat 13 (11 + slot.val)) (fun r => { r with ssm := none }) s) s

end Sys2Proof.Machine
end

