-- ==== Sys2Proof/Machine/Holdover.lean ====
section
/-!
DEFINITION. The oscillator model, the predicted error and the holdover timer (06_holdover.md).
-/

namespace Sys2Proof.Machine

/-- The holdover block changed. -/
def modHo (f : Holdover → Holdover) (s : State) : State := { s with ho := f s.ho }

/-- A configured frequency of 0.001 ppb in ppb. -/
def milli (n : Nat) : Rat := (n : Rat) / 1000

/-- A rate word in ppb. -/
def ppbOfRate (w : Int) : Rat := (w : Rat) * 1000000000 / (2 ^ 48 : Nat)

/-- The rate word of a rate in ppb (R132): ⌊y × 10⁻⁹ × 2⁴⁸⌋. -/
def rateOfPpb (y : Rat) : Int := (y * (2 ^ 48 : Nat) / 1000000000).floor

/-- W_m at a second of TAI and a part of it, in ppb (R144). -/
def modelRate (s : State) : Rat :=
  let t : Rat := ((s.tb.sec : Int) - (s.ho.tFit : Int) : Int) + ((125 * fracOfSec s.tb : Nat) : Rat) / (unitsPerSec : Nat)
  s.ho.y0 + s.ho.a * t

/-- The training time of R146. -/
def trainingTime (s : State) : Nat :=
  if s.ho.restored then min s.ho.par.relearnS s.ho.par.learnMinS else s.ho.par.learnMinS

/-- The sums moved one second on and weighted down (R144). -/
def ageSums (lam : Rat) (f : FitSums) : FitSums :=
  { w := lam * f.w, t := lam * (f.t - f.w), tt := lam * (f.tt - 2 * f.t + f.w), y := lam * f.y, ty := lam * (f.ty - f.y),
    yy := lam * f.yy }

/-- A sample added at the present marker. -/
def addSample (y : Rat) (f : FitSums) : FitSums := { f with w := f.w + 1, y := f.y + y, yy := f.yy + y * y }

/-- The fitted drift: least squares where the instants differ, otherwise the drift held. -/
def fitDrift (f : FitSums) (held : Rat) : Rat :=
  let den := f.w * f.tt - f.t * f.t
  if den = 0 then held else (f.w * f.ty - f.t * f.y) / den

/-- The weighted mean square residual of the fit. -/
def residual (f : FitSums) (y0 a : Rat) : Rat :=
  if f.w = 0 then 0
  else (f.yy - 2 * y0 * f.y - 2 * a * f.ty + y0 * y0 * f.w + 2 * y0 * a * f.t + a * a * f.tt) / f.w

/-- The model at a second marker (R144 to R147): a sample is taken where the conditions of R145 held on every tick of the
second; the model is fitted, its state follows, and the retained copy is rewritten. Out of HOLDOVER a section applied since takes
effect here (R159), in LOCKED only with a model update. -/
def modelMarker (s : State) : State :=
  let ok := s.gov.learnOk && s.gov.ycTicks != 0
  let s := if s.ho.st = 0 && (ok || govMode s != .locked) then modHo (fun h => { h with par := s.cfg.b06 }) s else s
  let lam := expOf (-1 / (s.ho.par.modelTauS : Nat))
  let aged := ageSums lam s.ho.sums
  let s1 := modGov (fun g => { g with ycSum := 0, ycTicks := 0, learnOk := true }) s
  if !ok then modHo (fun h => { h with sums := aged, learnPaused := true }) s1
  else
    let f := addSample (s.gov.ycSum / (s.gov.ycTicks : Nat)) aged
    let age := s.ho.age + 1
    let trained := decide (trainingTime s ≤ age)
    let a := if trained then fitDrift f s.ho.a else (if s.ho.restored then s.ho.a else 0)
    let y0 := (f.y - a * f.t) / f.w
    let sy := sqrtOf (residual f y0 a)
    let st := if trained then 2 else 1
    let item : ModelItem := { y0 := y0, a := a, sy := sy, tFit := s.tb.sec, age := age, state := st }
    let s2 := { modHo (fun h => { h with sums := f, learnPaused := false, y0 := y0, a := a, sy := sy, tFit := s.tb.sec,
                                          age := age, modelState := st }) s1 with
                pd0 := { s1.pd0 with model := keep item s1.pd0.model } }
    if st == 2 && s.ho.modelState != 2 then emit 0x0605 s2 else s2

/-- σ_y of R150. -/
def sigmaY (h : Holdover) : Rat :=
  max (if h.modelState == 2 then milli h.par.hoFloorPpb else milli h.par.hoUntrainedPpb) (3 * h.sy)

/-- σ_a of R150, ppb per second. -/
def sigmaA (h : Holdover) : Rat := milli h.par.hoAgingUnc / 86400

/-- The temperature term of R150: `HO_TEMPCO_UNC` × |ΔT|. -/
def tempTerm (s : State) : Rat :=
  milli s.ho.par.hoTempcoUnc * (((s.mon.tjCenti - s.ho.entryTj).natAbs : Nat) : Rat) / 100

/-- The timebase is in the DCO regime (R150). -/
def dcoRegime (s : State) : Bool := s.pll.tbState == .dcoHold || s.pll.tbState == .freeRun

/-- The regime of the next second (R150, R159): the normal one resumes only in `NORMAL`. -/
def nextDco (s : State) : Bool := dcoRegime s || (s.ho.dco && s.pll.tbState != .normal)

/-- Seconds of an interval. -/
def secondsOf (u : Units) : Rat := (u : Rat) / (unitsPerSec : Nat)

/-- F at a number of whole seconds since entry (R150). -/
def freqUnc (s : State) (n : Nat) : Rat :=
  if s.ho.dco then milli s.ho.par.dcoHoldUnc else sigmaY s.ho + sigmaA s.ho * (n : Rat) + tempTerm s

/-- The integral of F from one time since entry to another, in ns (R150). -/
def errGrowth (s : State) (t0 t1 : Rat) : Rat :=
  if s.ho.dco then milli s.ho.par.dcoHoldUnc * (t1 - t0)
  else (sigmaY s.ho + tempTerm s) * (t1 - t0) + sigmaA s.ho * (t1 * t1 - t0 * t0) / 2

/-- The holdover timer for an error E, whole seconds n since entry and a temperature term (R151, cases 1 to 4). -/
def timerFor (h : Holdover) (dco : Bool) (e : Rat) (n : Nat) (temp : Rat) : Nat :=
  let d := (h.par.hoBudgetNs : Rat) - e
  if d ≤ 0 then 0
  else if dco then (d / milli h.par.dcoHoldUnc).floor.toNat
  else
    let c := sigmaA h
    let b := sigmaY h + c * (n : Rat) + temp
    if c = 0 then (d / b).floor.toNat
    else (floorRootLess ((b * b + 2 * c * d) / (c * c)) (b / c)).toNat

/-- |e| in ns. -/
def absNs (u : Units) : Rat := (u.natAbs : Nat) / (unitsPerNs : Nat)

/-- E₀ of a holdover entered now (R148, R151). -/
def entryError (s : State) : Rat :=
  if s.ho.kept then s.ho.e + absNs s.gov.lastFed else absNs s.gov.lastFed + (s.ho.par.hoInheritNs : Nat)

/-- The timer as a second marker sets it (R151). -/
def timerNow (s : State) : Nat :=
  if s.ho.modelState == 0 then 0
  else if s.ho.st == 1 then timerFor s.ho s.ho.dco s.ho.e s.ho.elapsed (tempTerm s)
  else if s.ho.st == 0 && s.pwr.mode == .locked then timerFor s.ho (dcoRegime s) (entryError s) 0 0
  else 0

/-- What the timer shows (R151, R159): 0 in every mode but LOCKED and HOLDOVER, whose timer runs on in the LOAD of a reload. -/
def timerShown (s : State) : Nat := if s.pwr.mode == .locked || govMode s == .holdover then s.ho.remaining else 0

/-- The category of F (R152): `HO_STATE` 2, 3 or 4. -/
def category (s : State) : Nat :=
  if s.ho.f ≤ milli s.ho.par.cat1Ppb && !s.ho.dco then 2
  else if s.ho.f ≤ milli s.ho.par.cat2Ppb && !s.ho.dco then 3
  else 4

/-- The holdover block at a second marker (R150 to R152, R159): E grows by the second just ended, the regime and the
parameters of the next second are taken with their F, after expiry the category may worsen, and the timer is set. -/
def holdoverMarker (s : State) : State :=
  if s.ho.st = 0 then modHo (fun h => { h with remaining := timerNow s }) s
  else
    let now := nowUnits s
    let t0 := secondsOf (s.ho.counted - s.ho.entry)
    let t1 := secondsOf (now - s.ho.entry)
    let n := t1.floor.toNat
    let s := modHo (fun h => { h with e := h.e + errGrowth s t0 t1, counted := now, elapsed := n, dco := nextDco s, par := s.cfg.b06 }) s
    let s := modHo (fun h => { h with f := freqUnc s n }) s
    let c := category s
    let s := if decide (2 ≤ s.ho.st) && decide (s.ho.st < c) then emit 0x0604 (modHo (fun h => { h with st := c }) s) else s
    modHo (fun h => { h with remaining := timerNow s }) s

/-- Seconds in the present `DCO_HOLD` or `FREE_RUN` (R108). -/
def dcoHoldSec (s : State) : Nat := if dcoRegime s then (s.clk - s.pll.holdSince) / clkPerSec else 0

/-- RETURN_CORROBORATED (R155): a held slot and another of a different kind have agreed for `QUAL_TIME_S`; both are released
from the return window. -/
def execReturnCorroborated (dt : Nat) (i j : Fin 13) (s : State) : Host.Outcome State Fault Refusal :=
  act dt (fun s =>
    let r := s.refs[i]
    let q := s.refs[j]
    let partner := q.held || q.st == .wtr || q.st == .eligible
    if i != j && govMode s == .holdover && r.held && partner && refKind s i != refKind s j &&
       timeOrPhase (refKind s i) && timeOrPhase (refKind s j) &&
       !beyondNs (r.x - q.x) s.cfg.b05.fantail.disagreeNs then
      emit 0x0608 (modRef j (fun q => { q with held := false, released := true })
        (modRef i (fun r => { r with held := false, released := true }) s)) i.val j.val
    else s) s

end Sys2Proof.Machine
end

