-- ==== Sys2Proof/Machine/Timescale.lean ====
section
/-!
DEFINITION. What the timescale derives from its time: the effective UTC offset and the leap state (03_timescale.md).
-/

namespace Sys2Proof.Machine

/-- A scheduled change stands ahead of the present second (R79). -/
def leapPending (u : UtcSchedule) (sec : Nat) : Bool := u.leapDir != 0 && u.leapTime != 0 && decide (sec < u.leapTime)

/-- The effective offset, a function of TAI alone (R79). -/
def effectiveOffset (u : UtcSchedule) (sec : Nat) : Int :=
  if u.leapDir != 0 && u.leapTime != 0 && decide (u.leapTime ≤ sec) then u.offset + u.leapDir else u.offset

/-- `LEAP_STATE` (R82): 0 none, 1 +1 s pending, 2 −1 s pending. -/
def leapState (s : State) : Nat :=
  if leapPending s.ts.utc s.tb.sec then (if 0 < s.ts.utc.leapDir then 1 else 2) else 0

/-- `LEAP_TIME` as the Window shows it (R82): 0 if none is pending. -/
def leapTimeShown (s : State) : Nat := if leapPending s.ts.utc s.tb.sec then s.ts.utc.leapTime else 0

/-- The timescale's part changed. -/
def modTs (f : Timescale → Timescale) (s : State) : State := { s with ts := f s.ts }

/-- `UTC_OFFSET_NOW` follows the effective offset, with event 0x0308 at every change (R79). -/
def refreshOffset (s : State) : State :=
  let o := effectiveOffset s.ts.utc s.tb.sec
  if o = s.ts.utcOffsetNow then s else emit 0x0308 (modTs (fun t => { t with utcOffsetNow := o }) s)

/-- From 60 s before a scheduled change until 60 s after it the offset and the schedule are frozen (R78), unless its time had
passed when it took effect (R79). -/
def freezeNow (s : State) : Bool :=
  let u := s.ts.utc
  u.leapDir != 0 && u.leapTime != 0 && !s.ts.schedulePast && decide (u.leapTime ≤ s.tb.sec + 60 ∧ s.tb.sec < u.leapTime + 60)

/-- `LEAP_FROZEN` follows (R78). -/
def refreshFreeze (s : State) : State := modTs (fun t => { t with leapFrozen := freezeNow s }) s

/-- A schedule holds a change. -/
def hasLeap (u : UtcSchedule) : Bool := u.leapDir != 0 && u.leapTime != 0

/-- A schedule is taken into use (R79): event 0x0307 where it brings a scheduled change that was not there, be its time past. -/
def acceptSchedule (u : UtcSchedule) (s : State) : State :=
  let new := hasLeap u && !(hasLeap s.ts.utc && s.ts.utc.leapDir == u.leapDir && s.ts.utc.leapTime == u.leapTime)
  let past := u.leapTime != 0 && decide (u.leapTime ≤ s.tb.sec)
  let s := refreshFreeze (modTs (fun t => { t with utc := u, schedulePast := past }) s)
  refreshOffset (if new then emit 0x0307 s else s)

/-- A step of the time across `LEAP_TIME` (R79): back across it the change is pending again, forward across it the change is
complete at the step tick. -/
def leapStep (s : State) : State :=
  let past := s.ts.schedulePast && decide (s.ts.utc.leapTime ≤ s.tb.sec)
  refreshOffset (refreshFreeze (modTs (fun t => { t with schedulePast := past }) s))

/-- The image's offset and schedule (R76). -/
def imageSchedule (s : State) : UtcSchedule :=
  let r := s.cfg.b03.utcLeap
  { offset := r.utcOffset, leapDir := if r.leapTime = 0 then 0 else r.leapDir, leapTime := r.leapTime }

end Sys2Proof.Machine
end

