-- ==== Sys2Proof/Machine/Wire.lean ====
section
/-!
DEFINITION. What is put out, as bytes on the line, in network byte order (R8): Ethernet, ARP, IP, ICMP, UDP, PTP, ESMC and Leat frames.
The layouts the manual leaves to a standard are taken from it (PRESUMED, log entry 6).
-/

namespace Sys2Proof.Machine

/-- A number as bytes, most significant first. -/
def beBytes : Nat → Nat → Bytes
  | 0, _ => []
  | w + 1, n => beBytes w (n / 256) ++ [BitVec.ofNat 8 n]

/-- A number of zero bytes. -/
def zeros (n : Nat) : Bytes := List.replicate n 0

/-- A signed number as bytes, two's complement. -/
def beBytesS (w : Nat) (n : Int) : Bytes := beBytes w (n % (256 ^ w : Nat)).toNat

/-- Bytes padded with zeros to a length. -/
def padBytes (n : Nat) (b : Bytes) : Bytes := b ++ zeros (n - b.length)

/-- One bit of the Ethernet CRC, reflected. -/
def fcsBit (c : BitVec 32) : BitVec 32 := if c.getLsbD 0 then (c >>> 1) ^^^ 0xEDB88320 else c >>> 1

/-- The frame check sequence of IEEE 802.3, in the order it is sent. -/
def fcsBytes (b : Bytes) : Bytes :=
  let c := b.foldl (fun c x => (List.range 8).foldl (fun c _ => fcsBit c) (c ^^^ x.setWidth 32)) (BitVec.allOnes 32)
  (beBytes 4 (~~~ c).toNat).reverse

/-- The sum of the 16-bit words of a byte string. -/
def wordSum : Bytes → Nat
  | [] => 0
  | [a] => 256 * a.toNat
  | a :: b :: r => 256 * a.toNat + b.toNat + wordSum r

/-- The Internet checksum. -/
def inetSum (b : Bytes) : Nat :=
  let fold (n : Nat) := n % 65536 + n / 65536
  65535 - fold (fold (fold (wordSum b)))

/-- Bytes of a TLV of a Signaling message, header included. -/
def tlvLen (t : Tlv) : Nat :=
  match t.tlvType with
  | 4 => 10
  | 5 => 12
  | _ => 6

/-- messageLength of a message (R334). -/
def ptpLen (m : PtpMsg) : Nat :=
  match m.messageType with
  | 9 => 54
  | 0xB => 64
  | 0xC => 44 + (m.tlvs.map tlvLen).foldl (· + ·) 0
  | _ => 44

/-- controlField of a message type (R334). -/
def controlField (type : Nat) : Nat :=
  match type with
  | 0 => 0
  | 1 => 1
  | 8 => 2
  | 9 => 3
  | _ => 5

/-- A TLV of a Signaling message (R349). -/
def tlvBytes (t : Tlv) : Bytes :=
  let head := beBytes 2 t.tlvType ++ beBytes 2 (tlvLen t - 4) ++ beBytes 1 (16 * (t.messageType % 16))
  match t.tlvType with
  | 4 => head ++ beBytesS 1 t.logInterval ++ beBytes 4 t.duration
  | 5 => head ++ beBytesS 1 t.logInterval ++ beBytes 4 t.duration ++ [0] ++ beBytes 1 t.renewalInvited.toNat
  | _ => head ++ [0]

/-- The Announce flags of byte 7 (R336). -/
def announceFlags (m : PtpMsg) : Nat :=
  m.leap61.toNat + 2 * m.leap59.toNat + 4 * m.utcOffsetValid.toNat + 8 * m.ptpTimescale.toNat + 16 * m.timeTraceable.toNat +
  32 * m.freqTraceable.toNat + 64 * m.uncertain.toNat

/-- The common header of a PTP message (R334). -/
def ptpHeader (m : PtpMsg) : Bytes :=
  beBytes 1 (16 * (m.majorSdoId % 16) + m.messageType % 16) ++ beBytes 1 (16 + m.version % 16) ++ beBytes 2 (ptpLen m) ++
  beBytes 1 m.domain ++ [0] ++ beBytes 1 (2 * m.twoStep.toNat + 4 * m.unicast.toNat) ++
  beBytes 1 (if m.messageType == 0xB then announceFlags m else 0) ++ beBytesS 8 m.correction ++ zeros 4 ++
  beBytes 8 m.clockId ++ beBytes 2 m.portNumber ++ beBytes 2 m.seqId ++ beBytes 1 (controlField m.messageType) ++
  beBytesS 1 m.logInterval

/-- A timestamp of a PTP message: seconds and nanoseconds. -/
def ptpTime (m : PtpMsg) : Bytes := beBytes 6 m.tsSec ++ beBytes 4 m.tsNs

/-- A PTP message (R334, R336, R337, R349). -/
def ptpBytes (m : PtpMsg) : Bytes :=
  let port := beBytes 8 m.reqClockId ++ beBytes 2 m.reqPort
  ptpHeader m ++
  match m.messageType with
  | 9 => ptpTime m ++ port
  | 0xB =>
    ptpTime m ++ beBytesS 2 m.utcOffset ++ [0] ++ beBytes 1 m.gmPriority1 ++ beBytes 1 m.gmClass ++ beBytes 1 m.gmAccuracy ++
    beBytes 2 m.gmVariance ++ beBytes 1 m.gmPriority2 ++ beBytes 8 m.gmIdentity ++ beBytes 2 m.stepsRemoved ++ beBytes 1 m.timeSource
  | 0xC => port ++ m.tlvs.flatMap tlvBytes
  | _ => ptpTime m

/-- The payload of a frame: its PTP message, or its bytes. -/
def framePayload (f : Frame) : Bytes :=
  match f.ptp with
  | some m => ptpBytes m
  | none => f.payload

/-- An address in an IP header: the low 32 bits of an IPv4-mapped one. -/
def addrBytes (v6 : Bool) (a : Nat) : Bytes := beBytes (if v6 then 16 else 4) a

/-- The pseudo-header that a checksum above IP covers. -/
def pseudoHeader (h : IpHdr) (proto n : Nat) : Bytes :=
  addrBytes h.v6 h.src ++ addrBytes h.v6 h.dst ++ if h.v6 then beBytes 4 n ++ beBytes 4 proto else beBytes 2 proto ++ beBytes 2 n

/-- A UDP datagram with its checksum (R291). -/
def udpBytes (h : IpHdr) (u : UdpHdr) (p : Bytes) : Bytes :=
  let n := 8 + p.length
  let head := beBytes 2 u.srcPort ++ beBytes 2 u.dstPort ++ beBytes 2 n
  let c := inetSum (pseudoHeader h 17 n ++ head ++ zeros 2 ++ p)
  head ++ beBytes 2 (if c = 0 then 65535 else c) ++ p

/-- The body of an ICMP message: a Neighbour Advertisement is laid out from its flags and the link-layer address of its option (R249), an
echo reply from what it copies. -/
def icmpBody (f : Frame) (type : Nat) : Bytes :=
  if type = 136 then f.payload.take 1 ++ zeros 3 ++ beBytes 16 f.target ++ [2, 1] ++ f.payload.drop 1 else f.payload

/-- An ICMP or ICMPv6 message with its checksum. -/
def icmpBytes (h : IpHdr) (f : Frame) (type : Nat) : Bytes :=
  let b := icmpBody f type
  let over_ := if h.v6 then pseudoHeader h 58 (4 + b.length) else []
  beBytes 1 type ++ [0] ++ beBytes 2 (inetSum (over_ ++ beBytes 1 type ++ zeros 3 ++ b)) ++ b

/-- What an IP header carries. -/
def ipPayload (f : Frame) (h : IpHdr) : Bytes :=
  match f.udp, f.icmpType with
  | some u, _ => udpBytes h u (framePayload f)
  | none, some t => icmpBytes h f t
  | none, none => f.payload

/-- An IP packet (R247): TTL or hop limit 64, ECN 0, and of IPv4 DF set and identification 0. -/
def ipBytes (f : Frame) (h : IpHdr) : Bytes :=
  let p := ipPayload f h
  let proto := if f.udp.isSome then 17 else h.proto
  if h.v6 then
    beBytes 4 (6 * 2 ^ 28 + h.dscp % 64 * 2 ^ 22 + h.flowLabel % 2 ^ 20) ++ beBytes 2 p.length ++ beBytes 1 proto ++ [64] ++
    addrBytes true h.src ++ addrBytes true h.dst ++ p
  else
    let a := [0x45] ++ beBytes 1 (4 * (h.dscp % 64)) ++ beBytes 2 (20 + p.length) ++ zeros 2 ++ beBytes 2 0x4000 ++ [64] ++ beBytes 1 proto
    let b := addrBytes false h.src ++ addrBytes false h.dst
    a ++ beBytes 2 (inetSum (a ++ zeros 2 ++ b)) ++ b ++ p

/-- An ARP packet (R248). The target hardware address of a gratuitous one the manual leaves open (log entry 16). -/
def arpBytes (f : Frame) : Bytes :=
  let h := f.ip.getD {}
  beBytes 2 1 ++ beBytes 2 0x0800 ++ [6, 4] ++ beBytes 2 f.arpOp ++ beBytes 6 f.src ++ beBytes 4 h.src ++
  beBytes 6 (if f.dst = 0xFFFFFFFFFFFF then Config.freeNat 24 else f.dst) ++ beBytes 4 h.dst

/-- A tag of a frame, with DEI 0 (R247): TPID, then PCP and VID. -/
def tagBytes (t : Nat × Nat × Nat) : Bytes := beBytes 2 t.1 ++ beBytes 2 (t.2.1 % 8 * 2 ^ 13 + t.2.2 % 4096)

/-- An Ethernet frame from its destination address to its FCS, padded to its length. -/
def etherBytes (dst src : Nat) (tags : List (Nat × Nat × Nat)) (etherType len : Nat) (p : Bytes) : Bytes :=
  let b := padBytes (len - 4) (beBytes 6 dst ++ beBytes 6 src ++ tags.flatMap tagBytes ++ beBytes 2 etherType ++ p)
  b ++ fcsBytes b

/-- A frame the device sends (R8, R247). -/
def frameBytes (f : Frame) : Bytes :=
  etherBytes f.dst f.src f.tags f.etherType f.len
    (match f.etherType, f.ip with
    | 0x0806, _ => arpBytes f
    | _, some h => ipBytes f h
    | _, none => framePayload f)

/-- An ESMC PDU (R260, R261): untagged, from `PORT_MAC` to 01-80-C2-00-00-02, padded to 64 bytes. -/
def esmcBytes (mac ssm : Nat) (tlv : Option EsmcTlv) (event : Bool) : Bytes :=
  let ext := match tlv with
    | some t => [2] ++ beBytes 2 20 ++ beBytes 1 t.essm ++ beBytes 8 t.clockId ++ beBytes 1 t.flags ++ beBytes 1 t.eeecCount ++
        beBytes 1 t.eecCount ++ zeros 5
    | none => []
  etherBytes 0x0180C2000002 mac [] 0x8809 64
    ([0x0A, 0x00, 0x19, 0xA7] ++ beBytes 2 1 ++ beBytes 1 (16 + 8 * event.toNat) ++ zeros 3 ++ [1] ++ beBytes 2 4 ++ beBytes 1 (ssm % 16) ++ ext)

/-- The identity of the device (R396, R422): neither zero nor all ones. -/
def ownSerial : Nat := 1 + Config.serial % (2 ^ 64 - 2)

/-- A full stamp (R67) in a frame. -/
def stampBytes (t : Units) : Bytes :=
  let st := stampOf t false
  beBytes 6 st.sec ++ beBytes 4 st.ns ++ beBytes 2 st.frac

/-- A Leat frame (R396): its header, its body, and the CRC-32C over both (R398). -/
def leatBytes (type sender seq : Nat) (body : Bytes) : Bytes :=
  let b := beBytes 1 (16 * type + 1) ++ [0] ++ beBytes 2 (20 + body.length) ++ beBytes 8 sender ++ beBytes 2 seq ++ zeros 2 ++ body
  b ++ beBytes 4 (crc32c b)

/-- A `HELLO` frame (R398). -/
def helloBytes (seq : Nat) (f : HelloFrame) : Bytes :=
  leatBytes 1 f.sender seq
    (beBytes 2 f.group ++ beBytes 1 (f.port % 4 + 4 * f.pairS.toNat + 8 * f.spillAccept.toNat) ++ zeros 5)

/-- A `TIME` frame (R400). -/
def timeBytes (f : TimeFrame) : Bytes :=
  leatBytes 2 f.sender f.seq
    (beBytes 2 f.wave ++
     beBytes 1 (f.waveValid.toNat + 2 * f.held.toNat + 4 * f.tValid.toNat + 8 * f.tDegraded.toNat + 16 * (f.tMode % 8)) ++
     beBytes 1 f.stepEpoch ++ beBytes 8 f.rootId ++ beBytes 8 f.parentId ++ beBytes 1 (f.rootQl % 16) ++ [0] ++ beBytes 2 f.hops ++
     beBytes 2 f.rootBudgetUs ++ zeros 2 ++ beBytes 4 f.accLatPs ++ beBytes 4 f.upDispNs ++ stampBytes f.txTime ++
     beBytes 2 f.echoSeq ++ zeros 2 ++ stampBytes f.echoRx)

/-- A `SPILL` frame (R398). -/
def spillBytes (seq : Nat) (f : SpillFrame) : Bytes :=
  leatBytes 3 ownSerial seq
    (beBytes 2 f.handle ++ beBytes 1 (f.cls % 4 + 4 * f.port.val + 32 * f.degraded.toNat) ++ beBytes 1 f.stepEpoch ++ stampBytes f.t2 ++
     beBytes 2 (f.req.len - 4) ++ zeros 2 ++ padBytes (f.len - 40) f.req.raw)

/-- The context of a `RESP` frame (R408). -/
def respContext (f : RespFrame) : Bytes :=
  if f.refused then []
  else match f.ptp with
    | some m => ptpBytes m
    | none => f.payload ++ f.uniqueId ++ f.s2cKey ++ f.plaintext

/-- A `RESP` frame (R398). -/
def respBytes (seq : Nat) (f : RespFrame) : Bytes :=
  let c := respContext f
  leatBytes 4 ownSerial seq
    (beBytes 2 f.handle ++ beBytes 1 f.refused.toNat ++ beBytes 1 f.kind ++ beBytes 2 c.length ++ zeros 2 ++ padBytes (f.len - 28) c)

/-- A `TELEM` frame (R398). -/
def telemBytes (seq : Nat) (f : TelemFrame) : Bytes :=
  leatBytes 6 f.sender seq
    (beBytes 1 f.mode ++ beBytes 1 f.selSlot ++ beBytes 1 (f.selQl % 16 + 16 * (f.hoState % 16)) ++ [0] ++ beBytes 2 f.headroom ++
     zeros 2 ++ beBytes 4 f.hoRemaining)

/-- The bytes of something put out (R8); none of what is no byte string. -/
def wireOf (s : State) (o : Output) : Bytes :=
  match o with
  | .window b | .todTx b => b
  | .frame _ f _ => frameBytes f
  | .esmc p ssm tlv event => esmcBytes (s.cfg.b0A.port[p]).portMac ssm tlv event
  | .leatTime _ f => timeBytes f
  | .leatHello _ q f => helloBytes q f
  | .leatCredit _ q a b r => leatBytes 5 ownSerial q (beBytes 4 a ++ beBytes 4 b ++ beBytes 2 r ++ zeros 2)
  | .leatTelem _ q f => telemBytes q f
  | .leatSpill _ q f => spillBytes q f
  | .leatResp _ q f => respBytes q f
  | .gfeWords _ | .pulse _ _ | .leatSwap _ | .pmbus _ | .nvm _ _ _ _ | .remoteFault _ | .frameCut _ => []

/-- One thing put out, and its bytes. -/
def put (o : Output) (s : State) : State := { s with out := s.out ++ [o], wire := s.wire ++ [wireOf s o] }

end Sys2Proof.Machine
end

