-- ==== Sys2Proof/Machine/Outputs.lean ====
section
/-!
DEFINITION. The pulse outputs, the clock outputs and the ToD sentence (09_pulse_and_tod_outputs.md).
-/

namespace Sys2Proof.Machine

/-- The outputs changed. -/
def modOuts (f : Outputs → Outputs) (s : State) : State := { s with outs := f s.outs }

/-- One pulse output changed. -/
def modPps (n : Fin 4) (f : PpsOut → PpsOut) : State → State := modOuts fun o => { o with pps := o.pps.set n (f o.pps[n]) }

/-- One clock output changed. -/
def modClk (n : Fin 2) (f : ClkOut → ClkOut) : State → State := modOuts fun o => { o with clk := o.clk.set n (f o.clk[n]) }

/-- The mode by which the outputs behave (R26): a reload leaves them as before. -/
def outMode (s : State) : Mode := govMode s

/-- A pulse output is to be muted now (R26, R153, R221). -/
def ppsMuteWanted (s : State) (n : Fin 4) : Bool :=
  match outMode s with
  | .locked => false
  | .holdover => s.ho.par.expiryPpsMute && decide (2 ≤ s.ho.st)
  | .acquire => !(s.cfg.b09.pps[n]).ppsAcqRun
  | .retain | .load | .safe => true

/-- A clock output is muted now by mode, by a retune of the `CK` role, or because the role is unfilled (R26, R87, R105). -/
def clkMuteWanted (s : State) (n : Fin 2) : Bool :=
  s.pll.ckRetune || s.pll.unfilled.contains .ck ||
  match outMode s with
  | .locked | .holdover => false
  | .acquire => !(s.cfg.b09.clk[n]).clkAcqRun
  | .retain | .load | .safe => true

/-- `GCLKO_RUNNING` (R225). -/
def gclkoRunning (s : State) : Bool :=
  s.cfg.b07.gnss.gnssEnable && !s.cfg.b07.gnss.gfeClocking && !clkMuteWanted s 0

/-- What `GCLKO` drives (R225): the `CK` DCO divided by 300, or low. It has one ball. -/
def gclkoDrive (s : State) : Option ClkDrive :=
  if gclkoRunning s then some { period := 300, high := 150, complement := false } else none

/-- `GCLKO` is 16.368 MHz within ±200 ppm (R166, R225): so is its three-hundredfold, the `CK` DCO, of 4,910,400 kHz. -/
def gclkoInTol (s : State) : Bool :=
  gclkoRunning s && decide (5000 * ((s.cfg.b04.adpll[1].dcoFreqKhz : Int) - 4910400).natAbs ≤ 4910400)

/-- The present time in whole TAI nanoseconds. -/
def nowNs (s : State) : Nat := (nowUnits s).toNat / unitsPerNs

/-- An instant of whole nanoseconds lies strictly after now. -/
def afterNow (s : State) (ns : Nat) : Bool := decide (nowUnits s < ((ns * unitsPerNs : Nat) : Int))

/-- The scheduled time T of a record, TAI nanoseconds. -/
def ppsT (r : PpsoutRec) : Nat := r.ppsTSec * 1000000000 + r.ppsTNs

/-- The smallest T + kP strictly after now (R218). -/
def periodicNext (s : State) (r : PpsoutRec) : Nat :=
  let t := ppsT r
  if afterNow s t then t else t + ((nowNs s - t) / r.ppsPeriod + 1) * r.ppsPeriod

/-- The instant at which the edge scheduled for a time rises at the ball (R216): `PPS_DELAY_PS` earlier. -/
def riseAt (s : State) (n : Fin 4) (ns : Nat) : Units := ((ns * unitsPerNs : Nat) : Int) - (s.cfg.b09.pps[n]).ppsDelayPs * unitsPerPs

/-- The width of a pulse output. -/
def ppsWide (s : State) (n : Fin 4) : Units := (((s.cfg.b09.pps[n]).ppsWidth * unitsPerNs : Nat) : Int)

/-- A pulse rises at an instant (R216): it is counted, and falls its width later. -/
def ppsRise (n : Fin 4) (t : Units) (s : State) : State :=
  count (0x090010 + n.val) (put (.pulse n t) (modPps n (fun p => { p with
    high := true, deferred := false, fallAt := t + ppsWide s n }) s))

/-- An edge of the schedule falls due (R216, R219, R221): it makes a pulse, or none while muted; while an old pulse is high
it is delayed to the fall, or skipped where the delay would exceed its own width. -/
def ppsDue (n : Fin 4) (t : Units) (s : State) : State :=
  let p := s.outs.pps[n]
  if p.muted then s
  else if p.high then
    if p.fallAt - t ≤ ppsWide s n then modPps n (fun p => { p with deferred := true }) s
    else count (0x090014 + n.val) s
  else ppsRise n t s

/-- PPS_EDGE (R216 to R218): a scheduled edge time arrives, `PPS_DELAY_PS` early. Before that instant it has no effect. -/
def execPpsEdge (dt : Nat) (n : Fin 4) (s : State) : Host.Outcome State Fault Refusal :=
  act dt (fun s =>
    let p := s.outs.pps[n]
    match p.next with
    | none => s
    | some t =>
      if !instantCome s (riseAt s n t) then s else
      let s := ppsDue n (riseAt s n t) s
      match p.st with
      | .periodic => modPps n (fun p => { p with next := some (t + (s.cfg.b09.pps[n]).ppsPeriod) }) s
      | .armed => modPps n (fun p => { p with st := .done, next := none }) s
      | _ => s) s

/-- An output's mute takes effect, with event 0x0906 (R221). -/
def ppsMute (n : Fin 4) (s : State) : State :=
  emit 0x0906 (modPps n (fun p => { p with muted := true, deferred := false }) s) n.val

/-- The next edge of a schedule strictly after now (R220, R221). -/
def ppsResume (s : State) (n : Fin 4) (p : PpsOut) : PpsOut :=
  match p.st with
  | .periodic => { p with next := some (periodicNext s (s.cfg.b09.pps[n])) }
  | .armed =>
    match p.next with
    | some t => if afterNow s t then p else { p with st := .done, next := none }
    | none => p
  | _ => p

/-- An output's mute ends, with event 0x0907 (R221): it resumes at the next scheduled edge strictly after. -/
def ppsUnmute (n : Fin 4) (s : State) : State :=
  emit 0x0907 (modPps n (fun p => ppsResume s n { p with muted := false }) s) n.val

/-- PPS_FALL (R216, R219, R221): the pulse that is high has completed its width. A mute that began meanwhile takes effect; an
edge that waited for the fall is made. -/
def execPpsFall (dt : Nat) (n : Fin 4) (s : State) : Host.Outcome State Fault Refusal :=
  act dt (fun s =>
    let p := s.outs.pps[n]
    if p.high && instantCome s p.fallAt then
      let s := modPps n (fun p => { p with high := false }) s
      if ppsMuteWanted s n && !p.muted then ppsMute n s
      else if p.deferred then ppsRise n p.fallAt s
      else s
    else s) s

/-- The mutes follow the mode and the holdover state (R221): one that begins while a pulse is high waits for its fall. -/
def ppsMode (n : Fin 4) (s : State) : State :=
  let p := s.outs.pps[n]
  match ppsMuteWanted s n, p.muted with
  | true, false => if p.high then s else ppsMute n s
  | false, true => ppsUnmute n s
  | _, _ => s

/-- What a clock output drives (R222): an even divider gives equal halves, an odd one is high for the longer; `CLK_TYPE` says what `_N`
carries. Held low, it drives nothing. -/
def driveClk (n : Fin 2) (s : State) : State :=
  let wave (d : Nat) : ClkDrive := { period := d, high := (d + 1) / 2, complement := !(s.cfg.b09.clk[n]).clkType }
  modClk n (fun c => { c with drive := if c.running then some (wave c.divAct) else none }) s

/-- A clock output follows its enable and its mute (R221, R224): a restart of the divider is due once it starts. -/
def clkMode (n : Fin 2) (s : State) : State :=
  let m := clkMuteWanted s n
  let r := s.cfg.b09.clk[n]
  let run := r.clkEn && !m
  driveClk n (modClk n (fun c => { c with
    muted := m
    running := run
    alignDue := run && r.clkAlign && (c.alignDue || !c.running)
    aligned := run && r.clkAlign && c.running && c.aligned }) s)

/-- The outputs after a change of mode, of holdover state or of the `CK` role (R26, R153, R221). -/
def outputsMode (s : State) : State :=
  let s := (List.finRange 4).foldl (fun s n => ppsMode n s) s
  clkMode 1 (clkMode 0 s)

/-- After a takeover of the `CK` role, a retune or a step the dividers restart (R224). -/
def clkRealignDue (s : State) : State :=
  modOuts (fun o => { o with clk := Vector.ofFn fun n =>
    let c := o.clk[n]
    if c.running && (s.cfg.b09.clk[n]).clkAlign then { c with alignDue := true, aligned := false } else c }) s

/-- CLK_DIV_CHANGE (R223): at the first falling edge after the tick a changed divider takes effect. -/
def execClkDivChange (dt : Nat) (n : Fin 2) (s : State) : Host.Outcome State Fault Refusal :=
  act dt (fun s => driveClk n (modClk n (fun c => { c with divAct := (s.cfg.b09.clk[n]).clkDiv }) s)) s

/-- One advance of the timebase in units of `sub`, in DIRECT rounded up. -/
def oneAdvance (s : State) : Nat :=
  match s.pll.tbState with
  | .direct => clkPerAdvance s * advanceUnits s.tb / 972 + 1
  | _ => advanceUnits s.tb

/-- Now is a TAI second boundary: the timebase has just reached it, or its next advance will. -/
def atSecond (s : State) : Bool := decide (s.tb.sub < oneAdvance s ∨ subPerSec ≤ s.tb.sub + oneAdvance s)

/-- CLK_REALIGNED (R224): at a TAI second boundary the divider restarts once, with event 0x0904. At another instant it has no effect. -/
def execClkRealigned (dt : Nat) (n : Fin 2) (s : State) : Host.Outcome State Fault Refusal :=
  act dt (fun s =>
    let c := s.outs.clk[n]
    if c.running && c.alignDue && atSecond s then
      emit 0x0904 (count 0x09001A (modClk n (fun c => { c with alignDue := false, aligned := true }) s)) n.val
    else s) s

/-- A once edge at an apply tick, or at a step treated as one (R217): armed, fired at once, or not fired. -/
def ppsOnce (n : Fin 4) (s : State) : State :=
  let t := ppsT (s.cfg.b09.pps[n])
  if afterNow s t then modPps n (fun p => { p with st := .armed, next := some t, pulseLate := false, lateFired := false }) s
  else if nowUnits s - ((t * unitsPerNs : Nat) : Int) ≤ ((1000000 * unitsPerNs : Nat) : Int) then
    ppsDue n (nowUnits s) (emit 0x0902 (modPps n (fun p => { p with st := .done, next := none, pulseLate := false, lateFired := true }) s)
      n.val)
  else emit 0x0901 (modPps n (fun p => { p with st := .lateNotFired, next := none, pulseLate := true, lateFired := false }) s)
    n.val

/-- A new record acts at its apply tick (R217 to R219); `PPS_MODE` 0 is off. -/
def ppsApply (n : Fin 4) (s : State) : State :=
  let r := s.cfg.b09.pps[n]
  let s := modPps n (fun p => { p with deferred := false }) s
  match r.ppsMode with
  | 1 => ppsOnce n s
  | 2 => modPps n (fun p => { p with st := .periodic, next := some (periodicNext s r), pulseLate := false, lateFired := false }) s
  | _ => modPps n (fun p => { p with st := .off, next := none, pulseLate := false, lateFired := false }) s

/-- A schedule at a step of the time (R220): a pulse that is high keeps its width; periodic edges a forward step passed are counted
with event 0x0903; a once edge it passed is treated as at an apply tick. -/
def ppsStep (d : Units) (n : Fin 4) (s : State) : State :=
  let s := modPps n (fun p => { p with fallAt := p.fallAt + d }) s
  let p := s.outs.pps[n]
  let r := s.cfg.b09.pps[n]
  match p.st, p.next with
  | .periodic, some t =>
    let nx := periodicNext s r
    let skipped := if t < nx then (nx - t) / r.ppsPeriod else 0
    let s := modPps n (fun p => { p with next := some nx }) s
    if 0 < d && 0 < skipped then emit 0x0903 (countBy (0x090014 + n.val) skipped s) n.val else s
  | .armed, some t => if afterNow s t then s else ppsOnce n s
  | _, _ => s

/-- Every output at a step (R220, R224); a sentence already due keeps its moment, and is flagged (R226, R227). -/
def outputsStep (d : Units) (s : State) : State :=
  let s := (List.finRange 4).foldl (fun s n => ppsStep d n s) s
  modOuts (fun o => { o with todDue := o.todDue.map fun c => { c with stepped := true, start := c.start + d } }) (clkRealignDue s)

/-- `SEL_QL`: the QL of the selected slot, 15 with none. -/
def selQl (s : State) : Nat :=
  match s.gov.sel with
  | some n => (s.refs[n]).ql
  | none => 15

/-- The QL advertised after expiry in the present category (R153). -/
def expiredQl (s : State) : Nat :=
  match s.ho.st with
  | 2 => s.ho.par.expQlCat1
  | 3 => s.ho.par.expQlCat2
  | _ => s.ho.par.expQlCat3

/-- The mode code of R20. -/
def modeCode (m : Mode) : Nat :=
  match m with
  | .retain => 0
  | .load => 1
  | .acquire => 2
  | .locked => 3
  | .holdover => 4
  | .safe => 5

/-- Advertised QL of R228. -/
def todQl (s : State) : Nat :=
  match s.pwr.mode with
  | .locked => selQl s
  | .holdover => if s.ho.st ≤ 1 then s.ho.ql else expiredQl s
  | _ => 15

/-- The holdover field of R228. -/
def todHoSec (s : State) : Nat :=
  match s.pwr.mode with
  | .locked => timerShown s
  | .holdover => if s.ho.st ≤ 1 then timerShown s else 0
  | _ => 0

/-- `TODTX` is held low (R26). -/
def todLow (s : State) : Bool :=
  match outMode s with
  | .acquire | .locked | .holdover => false
  | .retain | .load | .safe => true

/-- The sentence of a second is latched at its marker, beside any that is still due (R226). -/
def todLatch (s : State) : State :=
  let c : TodContent :=
    { sec := s.tb.sec, utcOffset := s.ts.utcOffsetNow, leapState := leapState s, mode := modeCode s.pwr.mode,
      ql := todQl s, hoSec := todHoSec s, timeValid := timeValid s, oscFault := s.pll.oscFault,
      leapFrozen := s.ts.leapFrozen
      start := ((s.tb.sec * unitsPerSec + s.cfg.b09.tod.todOffsetMs * 1000000 * unitsPerNs : Nat) : Int) }
  modOuts (fun o => { o with todDue := o.todDue.filter (fun c => !decide (c.start ≤ nowUnits s)) ++
    (if s.cfg.b09.tod.todEn && !todLow s then [c] else []) }) s

/-- A decimal number of fixed width, as ASCII. -/
def decimal : Nat → Nat → Bytes
  | 0, _ => []
  | w + 1, n => decimal w (n / 10) ++ [BitVec.ofNat 8 (48 + n % 10)]

/-- An uppercase hexadecimal digit. -/
def hexDigit (n : Nat) : Byte := BitVec.ofNat 8 (if n % 16 < 10 then 48 + n % 16 else 55 + n % 16)

/-- Two uppercase hexadecimal digits. -/
def hex2 (n : Nat) : Bytes := [hexDigit (n / 16), hexDigit n]

/-- One step of the CRC-8 of R229. -/
def crc8Bit (c : BitVec 8) : BitVec 8 := if c.getMsbD 0 then (c <<< 1) ^^^ 0x07#8 else c <<< 1

/-- The CRC-8 of R229. -/
def crc8 (b : Bytes) : BitVec 8 :=
  b.foldl (fun c x => (List.range 8).foldl (fun c _ => crc8Bit c) (c ^^^ x)) 0#8

/-- Bit weights of up to three flags. -/
def flagBits (l : List Bool) : Nat := l.foldr (fun b n => 2 * n + b.toNat) 0

/-- Bytes 1 to 47 of the sentence (R227). -/
def todBody (c : TodContent) : Bytes :=
  [0x47#8, 0x48#8, 0x54#8, 0x4F#8, 0x44#8, 0x2C#8] ++ decimal 15 c.sec ++ [0x2C#8] ++
  [if c.utcOffset < 0 then 0x2D#8 else 0x2B#8] ++ decimal 3 c.utcOffset.natAbs ++ [0x2C#8] ++
  decimal 1 c.leapState ++ [0x2C#8] ++ decimal 1 c.mode ++ [0x2C#8] ++ decimal 2 c.ql ++ [0x2C#8] ++
  decimal 10 c.hoSec ++ [0x2C#8] ++ hex2 (flagBits [c.timeValid, c.oscFault, c.leapFrozen, c.stepped])

/-- The 53 bytes of the sentence (R227). -/
def todSentence (c : TodContent) : Bytes :=
  let b := todBody c
  [0x24#8] ++ b ++ [0x2A#8] ++ hex2 (crc8 b).toNat ++ [0x0D#8, 0x0A#8]

/-- TOD_SENTENCE (R226 to R229): `TOD_OFFSET_MS` after its marker the sentence is sent. -/
def execTodSentence (dt : Nat) (s : State) : Host.Outcome State Fault Refusal :=
  act dt (fun s =>
    match s.outs.todDue.find? fun c => instantCome s c.start with
    | some c =>
      let s := modOuts (fun o => { o with todDue := o.todDue.erase c }) s
      if todLow s || !s.cfg.b09.tod.todEn then s
      else
        let b := todSentence c
        count 0x09001C (modOuts (fun o => { o with todSent := some b }) (put (.todTx b) s))
    | none => s) s

/-- TOD_ECHO_CHECK (R230): 10 ms after its last stop bit the sentence is compared with the bytes `TODRX` received. -/
def execTodEchoCheck (dt : Nat) (rx : Bytes) (s : State) : Host.Outcome State Fault Refusal :=
  act dt (fun s =>
    match s.outs.todSent with
    | some b =>
      let s := modOuts (fun o => { o with todSent := none }) s
      if s.cfg.b09.tod.todEchoEn && rx != b then emit 0x0905 (count 0x09001D s) else s
    | none => s) s

end Sys2Proof.Machine
end

