-- ==== Sys2Proof/Machine/Siv.lean ====
section
/-!
DEFINITION. AES-SIV-CMAC-256 (12_ntp_and_nts.md, R313, R315; RFC 5297 for S2V and the counter, RFC 4493 for CMAC) over the AES-128
block, which the model leaves opaque.
-/

namespace Sys2Proof.Machine

/-- One AES-128 block as a number, first byte highest. -/
def aesBlock (key : Bytes) (x : Nat) : Nat := beNat (Config.aes128 key (beBytes 16 x)) % 2 ^ 128

/-- Doubling in GF(2¹²⁸). -/
def dbl128 (x : Nat) : Nat := if 2 ^ 127 ≤ x then (2 * x % 2 ^ 128) ^^^ 0x87 else 2 * x

/-- A short block padded with one 1 bit and zeros. -/
def pad128 (b : Bytes) : Nat := beNat (b ++ 0x80#8 :: zeroBytes (15 - b.length))

/-- The chain of CMAC over the whole blocks before the last. -/
def cmacChain (key : Bytes) : Nat → Nat → Bytes → Nat
  | 0, x, _ => x
  | n + 1, x, m => cmacChain key n (aesBlock key (x ^^^ beNat (m.take 16))) (m.drop 16)

/-- AES-CMAC of a message. -/
def cmac (key m : Bytes) : Nat :=
  let before := (m.length - 1) / 16
  let last := m.drop (16 * before)
  let k1 := dbl128 (aesBlock key 0)
  let end_ := if last.length = 16 then beNat last ^^^ k1 else pad128 last ^^^ dbl128 k1
  aesBlock key (cmacChain key before 0 m ^^^ end_)

/-- S2V of the associated data, the nonce last among them, and the plaintext (R315). -/
def s2v (key : Bytes) (ads : List Bytes) (p : Bytes) : Nat :=
  let d := ads.foldl (fun d a => dbl128 d ^^^ cmac key a) (cmac key (zeroBytes 16))
  if 16 ≤ p.length then
    cmac key (p.take (p.length - 16) ++ beBytes 16 (beNat (p.drop (p.length - 16)) ^^^ d))
  else cmac key (beBytes 16 (dbl128 d ^^^ pad128 p))

/-- The first counter block: V with the highest bit of each of its last two words 0. -/
def sivCounter (v : Nat) : Nat := v - (bitsOf v 63 1) * 2 ^ 63 - (bitsOf v 31 1) * 2 ^ 31

/-- One byte of the counter mode's key stream. -/
def ctrByte (key : Bytes) (v i : Nat) : Byte :=
  (beBytes 16 (aesBlock key ((sivCounter v + i / 16) % 2 ^ 128))).getD (i % 16) 0

/-- Counter mode: the same operation seals and opens. -/
def ctrMode (key : Bytes) (v : Nat) (p : Bytes) : Bytes := p.zipIdx.map fun e => e.1 ^^^ ctrByte key v e.2

/-- K1, the CMAC key: the first half of a 32-byte key. -/
def sivMacKey (key : Bytes) : Bytes := key.take 16

/-- K2, the counter key: the second half. -/
def sivCtrKey (key : Bytes) : Bytes := key.drop 16

/-- AES-SIV-CMAC-256 sealing: key, associated data, nonce, plaintext, to V and C (R315). -/
def sivSeal (key : Bytes) (ads : List Bytes) (nonce p : Bytes) : Bytes × Bytes :=
  let v := s2v (sivMacKey key) (ads ++ [nonce]) p
  (beBytes 16 v, ctrMode (sivCtrKey key) v p)

/-- AES-SIV-CMAC-256 opening: key, associated data, nonce, V, C (R315). -/
def sivOpen (key : Bytes) (ads : List Bytes) (nonce v c : Bytes) : Option Bytes :=
  let p := ctrMode (sivCtrKey key) (beNat v) c
  if v == beBytes 16 (s2v (sivMacKey key) (ads ++ [nonce]) p) then some p else none

end Sys2Proof.Machine
end

