-- ==== Sys2Proof/Machine/Ntp.lean ====
section
/-!
DEFINITION. What an NTP answer says (12_ntp_and_nts.md): the header values by mode, the timestamps, the extension fields, the
access rules, and the NTS keys.
-/

namespace Sys2Proof.Machine

/-- The NTP block changed. -/
def modNtp (f : NtpState → NtpState) (s : State) : State := { s with ntp := f s.ntp }

/-- An instant as a 64-bit NTP timestamp (R303). The UTC offset is the one at the instant's own second. -/
def ntpTime (u : UtcSchedule) (t : Units) : Nat :=
  let n := t.toNat
  let sec := n / unitsPerSec
  let q := n % unitsPerSec / 125
  let d := 1000000000 * 2 ^ 16
  let f := (2 * q * 2 ^ 32 + d) / (2 * d)
  let v : Int := (sec : Int) - effectiveOffset u sec + 2208988800
  if f = 2 ^ 32 then ((v + 1) % 2 ^ 32).toNat * 2 ^ 32 else (v % 2 ^ 32).toNat * 2 ^ 32 + f

/-- Nanoseconds in the NTP short format, rounded up and saturating (R308). -/
def ntpShort (ns : Rat) : Nat := min 0xFFFFFFFF (ns * 65536 / 1000000000).ceil.toNat

/-- The time QL of R306. -/
def timeQl (s : State) : Nat :=
  match s.gov.sel with
  | some n => if timeOrPhase (refKind s n) then (s.refs[n]).ql else max (s.refs[n]).ql s.gov.timeQl
  | none => 15

/-- The stratum an answer built now carries (R306); 16 where no answer is sent (log entry 23). -/
def stratumNow (s : State) : Nat :=
  match govMode s with
  | .locked => s.cfg.b0C.strata.getD (timeQl s) 16
  | .holdover => s.cfg.b0C.strata.getD (if s.ho.st ≤ 1 then s.ho.ql else expiredQl s) 16
  | _ => 16

/-- A scheduled change lies within a number of seconds. -/
def leapWithin (s : State) (warn : Nat) : Bool := decide (s.ts.utc.leapTime ≤ s.tb.sec + warn)

/-- LI of an answer built now (R305); 3 where no answer is sent (log entry 23). -/
def liNow (s : State) : Nat :=
  match govMode s with
  | .locked | .holdover =>
    let w := leapWithin s s.cfg.b0C.ntp.leapWarnS
    if leapState s == 1 && w then 1 else if leapState s == 2 && w then 2 else 0
  | _ => 3

/-- The slot that R307 names. -/
def refidSlot (s : State) : Option (Fin 13) :=
  match govMode s with
  | .locked => s.gov.sel
  | .holdover => s.ho.lastSlot
  | _ => none

/-- Four ASCII characters, first byte first, as one number. -/
def ascii4 (a b c d : Nat) : Nat := ((a * 256 + b) * 256 + c) * 256 + d

/-- ASCII `INIT`. -/
def refidInit : Nat := ascii4 0x49 0x4E 0x49 0x54

/-- The default `REFID_CODE` of a slot by its kind (R326): PPS, FREQ, GPS, PTP, LEAT, SYNC. -/
def refidDefault (k : RefKind) : Nat :=
  match k with
  | .pps => ascii4 0x50 0x50 0x53 0
  | .freq => ascii4 0x46 0x52 0x45 0x51
  | .gnss => ascii4 0x47 0x50 0x53 0
  | .ptp => ascii4 0x50 0x54 0x50 0
  | .leat => ascii4 0x4C 0x45 0x41 0x54
  | .synce => ascii4 0x53 0x59 0x4E 0x43

/-- The Reference ID of an answer built now (R307); 0 in HOLDOVER with no last slot (log entry 23). -/
def refidNow (s : State) : Nat :=
  match govMode s with
  | .locked | .holdover =>
    match refidSlot s with
    | some n =>
      match s.cfg.b0C.refid[n] with
      | some r => beNat r.refidCode
      | none => refidDefault (refKind s n)
    | none => 0
  | _ => refidInit

/-- The `REFID` record of a slot, its defaults where there is none (R326). -/
def refidRec (s : State) (n : Fin 13) : RefidRec := (s.cfg.b0C.refid[n]).getD {}

/-- The path term of R308 in ns: the client's mean path delay, or a Leat slot's accumulated delay. -/
def pathTerm (s : State) (n : Fin 13) : Rat :=
  match refKind s n with
  | .ptp => ((if n.val = 5 then (s.cli[0]).mpd else (s.cli[1]).mpd : Int) : Rat) / (unitsPerNs : Nat)
  | .leat => ((s.leat.link[Fin.ofNat 4 (n.val - 7)]).accRx : Rat) / 1000
  | _ => 0

/-- D_R in ns (R308). -/
def rootDelay (s : State) : Rat :=
  match refidSlot s with
  | some n => ((refidRec s n).refRootDelayNs : Nat) + (if govMode s == .holdover then s.ntp.frozenPath else pathTerm s n)
  | none => 0

/-- The upstream dispersion of a Leat slot in ns, as its last header carried it (R309, R405). -/
def upstreamDisp (s : State) (n : Fin 13) : Nat :=
  match refKind s n with
  | .leat => (s.leat.link[Fin.ofNat 4 (n.val - 7)]).upDispRx
  | _ => 0

/-- D_D in ns without the `DEGRADED` term, none in ACQUIRE (R309). -/
def rootDisp (s : State) : Option Rat :=
  match govMode s with
  | .locked | .holdover =>
    let slot : Rat := match refidSlot s with
      | some n => ((refidRec s n).refDispNs + upstreamDisp s n : Nat)
      | none => 0
    let phase : Rat := match govMode s, s.gov.sel with
      | .locked, some n => if timeOrPhase (refKind s n) then absNs s.gov.e + absNs s.gov.b else 0
      | _, _ => 0
    let ho : Rat := if govMode s == .holdover || s.ho.kept then s.ho.e else 0
    some (slot + phase + ho)
  | _ => none

/-- The Root Dispersion field for a D_D and whether the 100 ns term applies (R309); 16 s in ACQUIRE. -/
def dispField (d : Option Rat) (degraded : Bool) : Nat :=
  match d with
  | some d => ntpShort (d + if degraded then 100 else 0)
  | none => 0x00100000

/-- The Reference Timestamp (R310). -/
def refTsNow (s : State) : Nat :=
  match govMode s with
  | .locked | .holdover => ntpTime s.ts.utc s.ntp.refTs
  | _ => 0

/-- `NTP_SERVE_STATE` (R323). -/
def serveState (s : State) : Nat :=
  if !s.cfg.b0C.ntp.ntpEn then 0
  else match govMode s with
    | .locked | .holdover => 3
    | .acquire => if s.cfg.b0C.ntp.acqAnswer then 2 else 1
    | _ => 1

/-- The advertised values are re-evaluated, each change with its event (R323); a LOAD by reload keeps them. -/
def refreshNtp (s : State) : State :=
  if s.pwr.mode == .load && s.pwr.loadKind == .reload then s
  else
    let st := stratumNow s
    let li := liNow s
    let sv := serveState s
    let old := s.ntp
    let s := modNtp (fun n => { n with
      advStratum := st, advLi := li, serveState := sv, advRefid := refidNow s, advRootDelay := ntpShort (rootDelay s)
      advRootDisp := dispField (rootDisp s) false, advRefTs := refTsNow s }) s
    let s := if old.advStratum = st then s else emit 0x0C05 s
    let s := if old.advLi = li then s else emit 0x0C06 s
    if old.serveState = sv then s else emit 0x0C09 s

/-- NTP_LI_CHANGED (R322, R323): `LEAP_TIME` − t reaches `LEAP_WARN_S`; answers built from now on carry the new LI. -/
def execNtpLiChanged (dt : Nat) (s : State) : Host.Outcome State Fault Refusal :=
  act dt (fun s =>
    let li := liNow s
    if s.pwr.mode == .load || s.ntp.advLi = li then s else emit 0x0C06 (modNtp (fun n => { n with advLi := li }) s)) s

/-- VN of an NTP payload. -/
def ntpVersion (p : Bytes) : Nat := (p.getD 0 0).toNat / 8 % 8

/-- Mode of an NTP payload. -/
def ntpModeOf (p : Bytes) : Nat := (p.getD 0 0).toNat % 8

/-- An extension field: its type and its body. -/
abbrev ExtField := Nat × Bytes

/-- The extension fields after the header (R301), none where they are not well formed. -/
def parseExt : Nat → Bytes → Option (List ExtField)
  | _, [] => some []
  | 0, _ => none
  | fuel + 1, p =>
    let len := beNat (bytesAt p 2 2)
    if p.length < 4 || len % 4 != 0 || decide (len < 16) || decide (p.length < len) then none
    else (parseExt fuel (p.drop len)).map fun r => (beNat (p.take 2), bytesAt p 4 (len - 4)) :: r

/-- The extension fields of a request. -/
def requestExt (p : Bytes) : Option (List ExtField) := parseExt p.length (p.drop 48)

/-- A request is an NTS request (R301). -/
def isNts (p : Bytes) : Bool :=
  match requestExt p with
  | some l => l.any fun e => e.1 == 0x0204 || e.1 == 0x0404
  | none => false

/-- The first of steps 1 to 7 of R300 that refuses a request: the counter that advances. -/
def sluiceRefuses (s : State) (p : Bytes) : Option Nat :=
  let n := s.cfg.b0C.ntp
  if !n.ntpEn || (s.pwr.mode == .acquire && !n.acqAnswer) then some 0x0C0016
  else if p.length < 48 then some 0x0C0017
  else if ntpVersion p != 4 && !(ntpVersion p == 3 && n.v3En) then some 0x0C0018
  else if ntpModeOf p != 3 then some 0x0C0019
  else if p.length == 68 || p.length == 72 then some 0x0C001A
  else if (requestExt p).isNone || (ntpVersion p == 3 && decide (48 < p.length)) then some 0x0C0017
  else if isNts p && !n.ntsEn then some 0x0C001B
  else none

/-- An address lies within a prefix of `len` bits. Addresses are 128-bit numbers, IPv4 in the IPv4-mapped form. -/
def inPrefix (v6 : Bool) (len : Nat) (ip : Bytes) (a : Nat) : Bool :=
  let w := if v6 then 128 else 32
  (a ^^^ addrNat v6 ip) / 2 ^ (w - len) == 0

/-- The better of two matches by prefix length and then instance. -/
def longest {α : Type} (len : α → Nat) : List (Nat × α) → Option (Nat × α)
  | [] => none
  | x :: r =>
    match longest len r with
    | none => some x
    | some y => if len x.2 < len y.2 then some y else some x

/-- The action of R312 for a source address and a port. -/
def accessAction (s : State) (v6 : Bool) (src : Nat) (port : Fin 8) : Nat :=
  let rules := s.cfg.b0C.access.filter fun e =>
    e.2.accV6 == v6 && bitAt e.2.accPorts port.val && inPrefix v6 e.2.accPrefixLen e.2.accAddr src
  match longest (fun r : AccessRuleRec => r.accPrefixLen) rules with
  | some e => e.2.accAction
  | none => s.cfg.b0C.ntp.defaultAction

/-- The state of a key slot at a time of the timebase (R316). -/
def keyStateAt (r : Option NtsKeyRec) (sec : Nat) : KeyState :=
  match r with
  | none => .empty
  | some k => if sec < k.keyActivate then .pending else if sec < k.keyRetire then .active else .retired

/-- The record of a key slot. -/
def keyRec (s : State) (n : Fin 64) : Option NtsKeyRec := getIndexed n.val s.cfg.b0C.key

/-- A key slot takes a state, with event 0x0C01 or 0x0C02 at each entry to `ACTIVE` or `RETIRED` (R316). -/
def setKey (n : Fin 64) (k : KeyState) (s : State) : State :=
  if s.ntp.key[n] == k then s
  else
    let s := modNtp (fun t => { t with key := t.key.set n k }) s
    match k with
    | .active => emit 0x0C01 s n.val
    | .retired => emit 0x0C02 s n.val
    | _ => s

/-- The better of two slots for minting (R317): the later activation, then the lower number. -/
def betterMint (s : State) (best : Option (Fin 64)) (n : Fin 64) : Option (Fin 64) :=
  if s.ntp.key[n] != .active then best
  else match best with
    | none => some n
    | some b =>
      if ((keyRec s b).map (·.keyActivate)).getD 0 < ((keyRec s n).map (·.keyActivate)).getD 0 then some n else some b

/-- The minting slot (R317). -/
def mintNow (s : State) : Option (Fin 64) := (List.finRange 64).foldl (betterMint s) none

/-- The minting slot follows the states (R317): event 0x0C03 each time none becomes active, 0x0C04, which names the slot, at a change. `fresh` is an
evaluation at the apply tick of a load from RETAIN, `RESET_N` or SAFE. -/
def refreshMint (fresh : Bool) (s : State) : State :=
  match mintNow s with
  | none =>
    let s1 := modNtp (fun t => { t with mintNone := true }) s
    if !s.ntp.mintNone || fresh then emit 0x0C03 s1 else s1
  | some n =>
    let s1 := modNtp (fun t => { t with mintNone := false, mintSlot := n.val }) s
    if s.ntp.mintNone || s.ntp.mintSlot != n.val then emit 0x0C04 s1 n.val else s1

/-- Every key slot is evaluated against the timebase seconds (R316). -/
def evalKeys (fresh : Bool) (s : State) : State :=
  refreshMint fresh ((List.finRange 64).foldl (fun s n => setKey n (keyStateAt (keyRec s n) s.tb.sec) s) s)

/-- NTS_KEY_ACTIVATED (R316, R317): a slot has reached its `KEY_ACTIVATE`. -/
def execNtsKeyActivated (dt : Nat) (n : Fin 64) (s : State) : Host.Outcome State Fault Refusal :=
  act dt (fun s =>
    if s.pwr.mode != .load && keyStateAt (keyRec s n) s.tb.sec == .active && s.ntp.key[n] != .active then refreshMint false (setKey n .active s)
    else s) s

/-- NTS_KEY_RETIRED (R316, R317): a slot has reached its `KEY_RETIRE`. -/
def execNtsKeyRetired (dt : Nat) (n : Fin 64) (s : State) : Host.Outcome State Fault Refusal :=
  act dt (fun s =>
    if s.pwr.mode != .load && keyStateAt (keyRec s n) s.tb.sec == .retired && s.ntp.key[n] != .retired then
      refreshMint false (setKey n .retired s) else s) s

/-- A draw from the random source (R313). -/
def draw (len : Nat) (s : State) : Bytes × State :=
  (Config.random s.ntp.draws len, modNtp (fun n => { n with draws := n.draws + 1 }) s)

/-- Opens a cookie (R315): the slot that sealed it, the C2S key and the S2C key. -/
def openCookie (s : State) (c : Bytes) : Option (Fin 64 × Bytes × Bytes) :=
  match (List.finRange 64).find? fun n =>
      s.ntp.key[n] == .active && (keyRec s n).any fun k => k.keyId == beNat (c.take 2) with
  | none => none
  | some n =>
    match keyRec s n with
    | none => none
    | some k =>
      match sivOpen k.keyMaterial [c.take 2] (bytesAt c 2 16) (bytesAt c 84 16) (bytesAt c 18 66) with
      | some p => if beNat (p.take 2) == 0x000F then some (n, bytesAt p 2 32, bytesAt p 34 32) else none
      | none => none

/-- Seals one cookie under the minting slot (R315), as the NTS Cookie field of R320. -/
def sealCookie (c2s s2c : Bytes) (s : State) : Bytes × State :=
  let k := (keyRec s (Fin.ofNat 64 s.ntp.mintSlot)).getD {}
  let d := draw 16 s
  let id := beBytes 2 k.keyId
  let vc := sivSeal k.keyMaterial [id] d.1 ([0#8, 0x0F#8] ++ c2s ++ s2c)
  (beBytes 2 0x0204 ++ beBytes 2 104 ++ id ++ d.1 ++ vc.2 ++ vc.1, d.2)

/-- Seals `n` cookies, each with a new nonce. -/
def sealCookies : Nat → Bytes → Bytes → State → Bytes × State
  | 0, _, _, s => ([], s)
  | n + 1, c2s, s2c, s =>
    let a := sealCookie c2s s2c s
    let r := sealCookies n c2s s2c a.2
    (a.1 ++ r.1, r.2)

/-- What the checks of R319 find. -/
inductive NtsCheck
  | malformed
  | badCookie (unique : Bytes)
  /-- The slot that opened the cookie. -/
  | badAuth (slot : Fin 64)
  /-- The cookie's slot, the Unique Identifier field, C2S, S2C, the counted and the ignored placeholders. -/
  | pass (slot : Fin 64) (unique c2s s2c : Bytes) (counted ignored : Nat)

/-- An extension field as it stands on the wire. -/
def extBytes (e : ExtField) : Bytes := beBytes 2 e.1 ++ beBytes 2 (e.2.length + 4) ++ e.2

/-- The nonce and the ciphertext of an Authenticator body (R319), none where its lengths are not those required. -/
def authParts (b : Bytes) : Option (Bytes × Bytes) :=
  let nl := beNat (b.take 2)
  let cl := beNat (bytesAt b 2 2)
  if nl == 16 && decide (16 ≤ cl) && decide (20 + cl ≤ b.length) then some (bytesAt b 4 16, bytesAt b 20 cl) else none

/-- The checks of R319 on a request, in order. -/
def ntsCheck (s : State) (p : Bytes) : NtsCheck :=
  match requestExt p with
  | none => .malformed
  | some l =>
    let uids := l.filter fun e => e.1 == 0x0104
    let cookies := l.filter fun e => e.1 == 0x0204
    let auths := l.filter fun e => e.1 == 0x0404
    match uids, cookies, auths, l.getLast? with
    | [u], [c], [a], some z =>
      match authParts a.2 with
      | none => .malformed
      | some (nonce, ct) =>
        if u.2.length < 32 || decide (256 < u.2.length) || c.2.length != 100 || z.1 != 0x0404 then .malformed
        else match openCookie s c.2 with
          | none => .badCookie (extBytes u)
          | some (n, c2s, s2c) =>
            let aad := p.take (p.length - (extBytes a).length)
            match sivOpen c2s [aad] nonce (ct.take 16) (ct.drop 16) with
            | none => .badAuth n
            | some _ =>
              let ph := l.filter fun e => e.1 == 0x0304
              let ok := (ph.filter fun e => e.2.length == 100).length
              .pass n (extBytes u) c2s s2c (min 7 ok) (ph.length - min 7 ok)
    | _, _, _, _ => .malformed

/-- The 48-byte header of a time answer built now, Transmit and Root Dispersion still zero (R302). -/
def answerHeader (s : State) (req : Bytes) (t2 : Units) : Bytes :=
  [BitVec.ofNat 8 (liNow s * 64 + ntpVersion req * 8 + 4), BitVec.ofNat 8 (stratumNow s), req.getD 2 0, 0xE1#8] ++
  beBytes 4 (ntpShort (rootDelay s)) ++ zeroBytes 4 ++ beBytes 4 (refidNow s) ++ beBytes 8 (refTsNow s) ++
  bytesAt req 40 8 ++ beBytes 8 (ntpTime s.ts.utc t2) ++ zeroBytes 8

/-- The Reference ID of a KoD (R311): ASCII RATE, DENY, NTSN. -/
def kodRefid (k : KodKind) : Nat :=
  match k with
  | .rate => ascii4 0x52 0x41 0x54 0x45
  | .deny => ascii4 0x44 0x45 0x4E 0x59
  | .ntsn => ascii4 0x4E 0x54 0x53 0x4E

/-- The 48-byte header of a Kiss-o'-Death (R311). -/
def kodHeader (s : State) (k : KodKind) (req : Bytes) : Bytes :=
  let poll := (req.getD 2 0).toNat
  let o := bytesAt req 40 8
  [BitVec.ofNat 8 (3 * 64 + ntpVersion req * 8 + 4), 0#8,
   BitVec.ofNat 8 (if k == .rate then max poll s.cfg.b0C.ntp.kodPoll else poll), 0xE1#8] ++
  zeroBytes 8 ++ beBytes 4 (kodRefid k) ++ zeroBytes 8 ++ o ++ o ++ o

/-- Bytes 8 to 11 and 40 to 47 of a header written (R302). -/
def writeTimes (hdr : Bytes) (disp tx : Nat) : Bytes := bytesAt hdr 0 8 ++ beBytes 4 disp ++ bytesAt hdr 12 28 ++ beBytes 8 tx

end Sys2Proof.Machine
end

