-- ==== Sys2Proof/Machine/Credit.lean ====
section
/-!
DEFINITION. Meters, and what the serving half needs of a Leat link: credit, and the sending of its frames
(15_leat_links_and_chains.md).
-/

namespace Sys2Proof.Machine

/-- A meter brought up to an instant: it refills by `rate` for each unit of the device clock and holds at most `depth`. -/
def meterUpTo (clk rate depth : Nat) (m : Meter) : Meter := { level := min depth (m.level + rate * (clk - m.asOf)), asOf := clk }

/-- A charge taken from a meter brought up to an instant; none where it does not hold it. -/
def meterTake (clk rate depth cost : Nat) (m : Meter) : Option Meter :=
  let u := meterUpTo clk rate depth m
  if cost ≤ u.level then some { u with level := u.level - cost } else none

/-- A number rounded up to a multiple of `k`. -/
def roundUpTo (k n : Nat) : Nat := (n + k - 1) / k * k

/-- The Leat block changed. -/
def modLeat (f : Leat → Leat) (s : State) : State := { s with leat := f s.leat }

/-- One Leat link changed. -/
def modLink (n : Fin 4) (f : LeatLink → LeatLink) : State → State := modLeat fun l => { l with link := l.link.set n (f l.link[n]) }

/-- A link carries every type of frame (R392): `UP` or `REMEASURE`. -/
def linkCarries (s : State) (n : Fin 4) : Bool := (s.leat.link[n]).st == .up || (s.leat.link[n]).st == .remeasure

/-- A link carries time (R399): states 4 to 6. -/
def linkMeasures (s : State) (n : Fin 4) : Bool := linkCarries s n || (s.leat.link[n]).st == .measuring

/-- Both ends of a link set `H_SPILL_ACCEPT` (R406). -/
def spillAgreed (s : State) (n : Fin 4) : Bool :=
  linkCarries s n && (s.cfg.b0F.link[n]).lpSpillEn && (s.leat.link[n]).nbrSpillAccept

/-- The next `LF_SEQ` of a frame type on a link (R396). -/
def leatSeq (s : State) (n : Fin 4) (type : Fin 7) : Nat := (s.leat.link[n]).seq[type]

/-- A frame of a type has been sent: its `LF_SEQ` moves on, modulo 65,536. -/
def leatSent (n : Fin 4) (type : Fin 7) : State → State :=
  modLink n fun l => { l with seq := l.seq.set type ((l.seq[type] + 1) % 65536) }

/-- Frames may be sent beside the launches (R26, R261): ACQUIRE, LOCKED and HOLDOVER. -/
def maySend (s : State) : Bool := s.pwr.mode == .acquire || s.pwr.mode == .locked || s.pwr.mode == .holdover

/-- An `LF_SEQ` put into a frame. -/
def withSeq (q : Nat) (o : Output) : Output :=
  match o with
  | .leatHello n _ f => .leatHello n q f
  | .leatCredit n _ a b r => .leatCredit n q a b r
  | .leatTelem n _ f => .leatTelem n q f
  | .leatSpill n _ f => .leatSpill n q f
  | .leatResp n _ f => .leatResp n q f
  | o => o

/-- Device time that a Leat frame takes of the line (R397): 84 bytes take 12 blocks of 2.56 ns, so a frame takes one block beside those
that hold its bytes (DEDUCED, log entry 58). -/
def leatLineTime (bytes : Nat) : Nat := (((bytes + 7) / 8 + 1) * 256 * clkPerNs + 99) / 100

/-- A frame sent on a link from an instant of the device clock (R396, R416): `SPILL` frames are counted. -/
def leatEmit (n : Fin 4) (x : LeatTx) (start : Nat) (s : State) : State :=
  let s := put (withSeq (leatSeq s n x.type) x.what) (leatSent n x.type s)
  let s := modLink n (fun l => { l with lineEnd := start + leatLineTime x.bytes }) s
  if x.type = 3 then count (0x0F0048 + n.val) s else s

/-- The waiting frames that the line of a link has come to by now, sent in their order (R397). -/
def drainLine : Nat → Fin 4 → State → State
  | 0, _, s => s
  | k + 1, n, s =>
    let l := s.leat.link[n]
    match l.txQ with
    | [] => s
    | x :: r =>
      if l.lineEnd ≤ s.clk && maySend s then drainLine k n (leatEmit n x l.lineEnd (modLink n (fun l => { l with txQ := r }) s)) else s

/-- The line of a link brought up to now. -/
def lineNow (n : Fin 4) (s : State) : State := drainLine (s.leat.link[n]).txQ.length n s

/-- A frame put into its place among those that wait: by link priority, then in the order of arrival (R397). -/
def insertTx (x : LeatTx) : List LeatTx → List LeatTx
  | [] => [x]
  | y :: r => if y.prio ≤ x.prio then y :: insertTx x r else x :: y :: r

/-- A frame other than `TIME` for a link (R397): sent at once on a free line, else it waits its turn. -/
def leatPut (n : Fin 4) (x : LeatTx) (s : State) : State :=
  let s := lineNow n s
  let l := s.leat.link[n]
  if l.txQ.isEmpty && decide (l.lineEnd ≤ s.clk) then leatEmit n x s.clk s
  else modLink n (fun l => { l with txQ := insertTx x l.txQ }) s

/-- The SU bucket of a link now (R406), in quarter SU times units of the device clock; 20 µs are 24,300,000 of them. -/
def bucketNow (s : State) (n : Fin 4) : Meter :=
  let l := s.leat.link[n]
  meterUpTo s.clk (l.suRate * 400000) (l.suRate * 400000 * 24300000) l.bucket

/-- A `RESP` frame put on the link, its credit charged (R406, R408). -/
def respSend (n : Fin 4) (f : RespFrame) (s : State) : State :=
  leatPut n { prio := 3, type := 4, bytes := f.len, what := .leatResp n 0 f }
    (modLink n (fun l => { l with respCredit := l.respCredit - roundUpTo 8 f.len }) s)

/-- A `RESP` frame for a link: sent where the credit covers it and none waits before it, else it waits (R410). On a link that
does not carry it, it is discarded. -/
def respQueue (n : Fin 4) (f : RespFrame) (s : State) : State :=
  if linkCarries s n then
    if (s.leat.respWait.all fun w => w.link != n) && decide (roundUpTo 8 f.len ≤ (s.leat.link[n]).respCredit) then respSend n f s
    else modLeat (fun l => { l with respWait := l.respWait ++ [{ link := n, frame := f }] }) s
  else s

/-- Waiting `RESP` frames of a link sent while the credit covers the oldest. -/
def respDrain : Nat → Fin 4 → State → State
  | 0, _, s => s
  | k + 1, n, s =>
    match s.leat.respWait.find? fun w => w.link == n with
    | some w =>
      if roundUpTo 8 w.frame.len ≤ (s.leat.link[n]).respCredit then
        respDrain k n (respSend n w.frame (modLeat (fun l => { l with respWait := l.respWait.erase w }) s))
      else s
    | none => s

/-- A spilled request of a neighbour is refused (R380, R408). -/
def respRefuse (n : Fin 4) (handle : Nat) (s : State) : State :=
  respQueue n { handle := handle, refused := true, len := 28 } s

/-- `LF_LEN` of a `SPILL` frame for a received frame (R398): its bytes before the FCS, padded to a multiple of 4, and 40. -/
def spillLen (f : Frame) : Nat := 40 + roundUpTo 4 (f.len - 4)

/-- The link R407 chooses for a request of a cost in quarter SU: among those with credit the fullest bucket, then the lowest. -/
def spillLink (s : State) (cost : Nat) (f : Frame) : Option (Fin 4) :=
  (List.finRange 4).foldl (fun best n =>
    let b := (bucketNow s n).level
    if spillAgreed s n && !(s.leat.link[n]).held && decide (cost * clkPerSec ≤ b) &&
        decide (roundUpTo 8 (spillLen f) ≤ (s.leat.link[n]).spillCredit) then
      match best with
      | none => some n
      | some m => if (bucketNow s m).level < b then some n else best
    else best) none

/-- The lowest free handle of the pending table (R406). -/
def freeHandle (s : State) : Option Nat :=
  let used := s.core.pendingSpills.map (·.handle)
  if used.length < 4096 then (List.range 4096).find? fun h => !used.contains h else none

end Sys2Proof.Machine
end

