-- ==== Sys2Proof/Machine/Serving.lean ====
section
/-!
DEFINITION. What the commands of the serving half share: costs and the queue, the ledgers, the Weir, the arbiters, the Hopper's
cells, and the ways in which an answer ends (11_millstone_core_and_arbitration.md, 14_classes_admission_overload.md,
16_telemetry_and_monitors.md).
-/

namespace Sys2Proof.Machine

/-- The core changed. -/
def modCore (f : Core → Core) (s : State) : State := { s with core := f s.core }

/-- One Millstone changed. -/
def modMs (m : Fin 40) (f : Millstone → Millstone) : State → State := modCore fun c => { c with ms := c.ms.set m (f c.ms[m]) }

/-- The Weir changed. -/
def modWeir (f : Weir → Weir) (s : State) : State := { s with weir := f s.weir }

/-- The Garner changed. -/
def modGarner (f : Garner → Garner) (s : State) : State := { s with garner := f s.garner }

/-- One logical bank changed. -/
def modBank (b : Fin 48) (f : Bank → Bank) : State → State := modGarner fun g => { g with bank := g.bank.set b (f g.bank[b]) }

/-- One port changed. -/
def modPort (p : Fin 8) (f : Port → Port) (s : State) : State := { s with ports := s.ports.set p (f s.ports[p]) }

/-- Every Millstone. -/
def allMs : List (Fin 40) := List.finRange 40

/-- The class code of R386. -/
def clsCode (c : Cls) : Nat :=
  match c with
  | .general => 0
  | .assured => 1
  | .prec => 2

/-- The class of a code of R386. -/
def clsOf (n : Nat) : Cls := if n == 2 then .prec else if n == 1 then .assured else .general

/-- The active record of a port. -/
def portCfg (s : State) (p : Fin 8) : PortRec := s.cfg.b0A.port[p]

/-- The active PTP record of a port. -/
def ptpPort (s : State) (p : Fin 8) : PtpPortRec := s.cfg.b0D.port[p]

/-- An answer that carries an AES-SIV authenticator (R320). -/
def isSealed (j : Job) : Bool := ((j.ntp.bind (·.nts)).map (·.sealed_)).getD false

/-- The cost of a descriptor in quarter SU (R274, R311, R320, R347, R351). -/
def jobCost (s : State) (j : Job) : Nat :=
  if j.recommit then (if isSealed j then 5 else 1)
  else if j.relayed then (if isSealed j then 6 else 1)
  else match j.kind with
    | .ntp => 4
    | .nts => if j.kod == some .ntsn then 4 else 9
    | .delayReq => 3
    | .signaling => 6
    | .sync => if (ptpPort s j.port).twoStep then 4 else 2
    | .followUp => 0
    | .announce => 2
    | .sweep => 4
    | .clientReq | .clientRx => 2

/-- The cost of descriptors in quarter SU. -/
def workOf (s : State) (l : List Job) : Nat := l.foldl (fun n j => n + jobCost s j) 0

/-- The queue of a class. -/
def queueOf (s : State) (c : Cls) : List Job :=
  match c with
  | .prec => s.core.precQ
  | .assured => s.core.assuredQ
  | .general => s.core.generalQ

/-- The queue of a class set. -/
def setQueue (c : Cls) (q : List Job) (s : State) : State :=
  match c with
  | .prec => modCore (fun k => { k with precQ := q }) s
  | .assured => modCore (fun k => { k with assuredQ := q }) s
  | .general => modCore (fun k => { k with generalQ := q }) s

/-- The highest class with a descriptor (R283). -/
def topClass (s : State) : Option Cls :=
  if !s.core.precQ.isEmpty then some .prec
  else if !s.core.assuredQ.isEmpty then some .assured
  else if !s.core.generalQ.isEmpty then some .general
  else none

/-- The work over which Q_PA is taken (R375). -/
def workPA (s : State) : Nat := workOf s s.core.precQ + workOf s s.core.assuredQ

/-- The work over which Q is taken (R375). -/
def workAll (s : State) : Nat := workPA s + workOf s s.core.generalQ

/-- The queue wait of an amount of work, in ns (R375). With no capacity the manual gives no value (log entry 16). -/
def waitNs (s : State) (q : Nat) : Nat := if s.weir.capacity = 0 then Config.freeAt 2 s.clk else q * 2500 / s.weir.capacity

/-- The queue wait of an amount of work is at least `ns`. -/
def waitAtLeast (s : State) (q ns : Nat) : Bool :=
  if s.weir.capacity = 0 then decide (ns ≤ Config.freeAt 2 s.clk) else decide (ns * s.weir.capacity ≤ q * 2500)

/-- `SMP_KIND` of a job (R434). -/
def kindCode (j : Job) : Nat :=
  if j.relayed then 6
  else match j.kind with
    | .ntp => 0
    | .nts => 1
    | .sync | .followUp => 2
    | .delayReq => 3
    | .announce => 4
    | .signaling => 5
    | .sweep | .clientReq | .clientRx => 7

/-- A sample record of now that describes no answer (R434). -/
def sampleNow (s : State) : SampleRec :=
  { valid := timeValid s, stepEpoch := s.tb.stepCount, stamp := stampNow s, compact := s.cfg.b03.timescale.stampFormat,
    queueNs := waitNs s (workAll s) }

/-- A sample record of now that describes an answer, on a Millstone or on none (63). -/
def sampleJob (s : State) (ms : Nat) (j : Job) : SampleRec :=
  { sampleNow s with
    ms := ms, port := j.port.val, cls := clsCode j.cls, kind := kindCode j, degraded := j.t2Degraded, tag := j.tag }

/-- The Millstone has work in the ledgers' sense: in service or draining (R431). -/
def msCounts (m : Millstone) : Bool := m.st == .inService || m.st == .draining

/-- The Millstone's grant is suspended on some bank or port (R286). -/
def msSuspended (s : State) (m : Fin 40) : Bool :=
  (s.garner.bank.toList.any fun b => b.susp.contains m.val) || s.ports.toList.any fun q => q.susp.contains m.val

/-- The answer in `COMMIT` waits for a grant or for a retry instant, or in `DEPOSIT` for its grant (R431). -/
def waitsLaunch (m : Millstone) : Bool :=
  match m.back with
  | some (_, .wantPort) | some (_, .holdOff _) | some (_, .finished _ _) => true
  | _ => false

/-- The first ledger of R431 whose condition holds, none where the Millstone works on an answer. -/
def ledgerNow (s : State) (m : Fin 40) : Option (Fin 8) :=
  let x := s.core.ms[m]
  if s.clk < x.katUntil then some 7
  else if msSuspended s m then some 6
  else match x.front with
    | some (_, .state _) => some 3
    | some (_, .cells (_ + 1)) => some 4
    | _ =>
      if waitsLaunch x then some 5
      else if x.front.isSome || x.back.isSome then none
      else some 2

/-- The answer a Millstone holds, the older of two (R272, R431). -/
def heldJob (x : Millstone) : Option Job :=
  match x.back with
  | some (j, _) => some j
  | none => x.front.map (·.1)

/-- Time in hand for an answer: `d` on Millstone `m` (R431). -/
def addWork (m d : Nat) (j : Job) : Job := { j with work := putIndexed m ((getIndexed m j.work).getD 0 + d) j.work }

/-- Time of the device clock added to a ledger of a Millstone, with the occurrences of R433: `LG_SERVED` and `LG_DISCARDED` receive time
that was held in hand, the others time as it passes. -/
def addLedger (m : Fin 40) (k : Fin 8) (d : Nat) (j : Option Job) (s : State) : State :=
  let s := modMs m (fun x => { x with ledger := x.ledger.set k (x.ledger[k] + d) }) s
  let rec_ := match j with
    | some j => sampleJob s m.val j
    | none => { sampleNow s with ms := m.val }
  match k.val with
  | 0 => samplerTime 1 m.val d false rec_ s
  | 1 => samplerTime 2 m.val d false rec_ s
  | 2 => samplerTime 3 m.val d true rec_ s
  | 3 | 4 | 5 | 6 => samplerTime 4 m.val d true rec_ s
  | _ => s

/-- A Millstone's time is brought up to now (R431), the time of a known-answer run first. It is done before anything of the Millstone
changes. -/
def chargeMs (m : Fin 40) (s : State) : State :=
  let x := s.core.ms[m]
  let k := min (s.clk - x.since) (x.katUntil - x.since)
  let d := s.clk - x.since - k
  let s1 := modMs m (fun x => { x with since := s.clk }) s
  let s1 := if k = 0 || !msCounts x then s1 else addLedger m 7 k none s1
  if d = 0 || !msCounts x then s1
  else match ledgerNow s m with
    | some k => addLedger m k d (heldJob x) s1
    | none =>
      match x.back with
      | some (j, p) => modMs m (fun x => { x with back := some (addWork m.val d j, p) }) s1
      | none => modMs m (fun x => { x with front := x.front.map fun f => (addWork m.val d f.1, f.2) }) s1

/-- Every Millstone's time is brought up to now. -/
def chargeAll (s : State) : State := allMs.foldl (fun s m => chargeMs m s) s

/-- Where a sampler counts time as it passes, the Millstones' time is brought up to now, before the queue wait or the rate changes that its
records show (R433, R434). -/
def countIdle (s : State) : State := if timeSampled s then chargeAll s else s

/-- The time held in hand for an answer is added to a ledger: 0 `LG_SERVED`, 1 `LG_DISCARDED` (R431). -/
def creditWork (k : Fin 8) (j : Job) (s : State) : State :=
  j.work.foldl (fun s e => addLedger (Fin.ofNat 40 e.1) k e.2 (some j) s) s

/-- Bits set in the low `w` bits of a map. -/
def popCount (w n : Nat) : Nat := if n = 0 then 0 else ((List.range w).filter (bitAt n)).length

/-- The in-service pool of the Hopper (R256): 16,384 cells while spares replace what is retired. -/
def hopperPool (s : State) : Nat := min 16384 (18432 - popCount 18432 s.dress.retired[2])

/-- Free in-service cells (R257). -/
def hopperFree (s : State) : Nat := hopperPool s - s.core.cellsUsed

/-- Cells of a stored frame (R256): from destination address to its last byte before the FCS. -/
def cellsFor (f : Frame) : Nat := (f.len - 4 + 255) / 256

/-- The contents of freed cells that a room of so many free cells still holds (R57): those freed first are overwritten first (DESIGN
CHOICE, log entry 98). -/
def keepFreed : Nat → List (Nat × Frame) → List (Nat × Frame)
  | _, [] => []
  | room, e :: r => if e.1 ≤ room then e :: keepFreed (room - e.1) r else []

/-- The cells of a job go back to the pool; their contents stay (R57). -/
def freeCells (j : Job) (s : State) : State := modCore (fun c => { c with
  cellsUsed := c.cellsUsed - j.cells, freed := if j.cells = 0 then c.freed else (j.cells, j.req) :: c.freed }) s

/-- An answer or a request is discarded (R431): its cells are freed, its time goes to `LG_DISCARDED`, and a neighbour that spilled
it is refused (R380, R408). -/
def discard (j : Job) (s : State) : State :=
  let s := creditWork 1 j (freeCells j s)
  match j.spill with
  | some (n, h, _) => respRefuse n h s
  | none => s

/-- Work of a descriptor completed, in quarter SU (R298 `LOAD_MSUS`). -/
def workDone (c : Cls) (q : Nat) : State → State := modWeir fun w => { w with
  done := w.done + q
  donePrec := if c == .prec then w.donePrec + q else w.donePrec }

/-- Quarter SU per second of a tick's count: 64 ticks make a second. -/
def perSec (q : Nat) : Nat := 64 * q

/-- A_c of R376 in quarter SU per second. -/
def meterRate (s : State) (c : Cls) : Nat :=
  let w := s.weir
  let hi := if c == .assured then w.lastAdmPrec else w.lastAdmPrec + w.lastAdmAssured
  w.capacity * 4000 * s.cfg.b0E.weir.admitPct - perSec hi - perSec w.lastKod

/-- A class enters `SHEDDING` (R376): its meter starts empty, and A_c is recomputed. -/
def enterShed (c : Cls) (s : State) : State :=
  match c with
  | .assured =>
    if s.weir.shedAssured then s
    else emit 0x0E01 (modWeir (fun w => { w with
      shedAssured := true, rateAssured := meterRate s .assured, meterAssured := { level := 0, asOf := s.clk } }) s) 1
  | .general =>
    if s.weir.shedGeneral then s
    else emit 0x0E01 (modWeir (fun w => { w with
      shedGeneral := true, rateGeneral := meterRate s .general, meterGeneral := { level := 0, asOf := s.clk } }) s) 0
  | .prec => s

/-- The watermarks of R376 tested on the queues as they stand. -/
def weirCheck (s : State) : State :=
  let hi := s.cfg.b0E.weir.wmHighNs
  let s := if waitAtLeast s (workPA s) hi then enterShed .general (enterShed .assured s) else s
  if waitAtLeast s (workAll s) hi then enterShed .general s else s

/-- A descriptor takes the next number and joins the tail of its class queue. -/
def enqueue (j : Job) (s : State) : State :=
  let s := countIdle s
  let j := { j with id := s.core.nextId }
  weirCheck (setQueue j.cls (queueOf s j.cls ++ [j]) (modCore (fun c => { c with nextId := c.nextId + 1 }) s))

/-- The KoD budget's rate in quarter SU per second (R377). -/
def kodRate (s : State) : Nat := s.weir.capacity * 40 * s.cfg.b0E.weir.kodBudget

/-- The KoD budget's depth: 100 µs of its rate. -/
def kodDepth (s : State) : Nat := kodRate s * 121500000

/-- The KoD budget holds less than a plain KoD (R389 `KOD_BUDGET_EMPTY`). -/
def kodEmpty (s : State) : Bool := decide ((meterUpTo s.clk (kodRate s) (kodDepth s) s.weir.kod).level < 4 * clkPerSec)

/-- The budget is found or left empty: event 0x0E03 after 1 s in which it was not (R377). -/
def noteKodEmpty (s : State) : State :=
  if kodEmpty s then
    let s1 := modWeir (fun w => { w with kodEmptyAt := some s.clk }) s
    match s.weir.kodEmptyAt with
    | some t => if t + clkPerSec ≤ s.clk then emit 0x0E03 s1 else s1
    | none => emit 0x0E03 s1
  else s

/-- A KoD of a cost in quarter SU drawn on the budget (R377): whether the budget held it, and the state after. -/
def chargeKod (cost : Nat) (s : State) : Bool × State :=
  match meterTake s.clk (kodRate s) (kodDepth s) (cost * clkPerSec) s.weir.kod with
  | some m => (true, noteKodEmpty (modWeir (fun w => { w with kod := m }) s))
  | none => (false, noteKodEmpty s)

/-- The draw of a KoD for a request on the budget (R371, R377): a PRECEDENCE request is never charged to it (log entry 67). -/
def drawKod (c : Cls) (cost : Nat) (s : State) : Bool × State := if c = .prec then (true, s) else chargeKod cost s

/-- The requester after the one granted last, round-robin by number (R283). -/
def roundRobin (last : Option Nat) (cands : List Nat) : Option Nat :=
  match last with
  | some l =>
    match cands.find? fun c => decide (l < c) with
    | some c => some c
    | none => cands.head?
  | none => cands.head?

/-- The requester an arbiter last granted in a class. -/
def lastOf (a : Arbiter) (c : Cls) : Option Nat :=
  match c with
  | .prec => a.prec
  | .assured => a.assured
  | .general => a.general

/-- The arbiter has granted a requester in a class. -/
def granted (a : Arbiter) (c : Cls) (n : Nat) : Arbiter :=
  match c with
  | .prec => { a with prec := some n }
  | .assured => { a with assured := some n }
  | .general => { a with general := some n }

/-- The grant of R283 and R286: by class, then the suspended holder at the head of the class, then round-robin. Requests are given by
rising requester number; the suspended holders, which are among them, last suspended first. -/
def arbitrateAfter (a : Arbiter) (susp : List Nat) (reqs : List (Nat × Cls)) : Option (Nat × Cls) :=
  let of (c : Cls) :=
    match susp.find? fun n => reqs.contains (n, c) with
    | some n => some (n, c)
    | none => (roundRobin (lastOf a c) ((reqs.filter fun r => r.2 == c).map (·.1))).map fun n => (n, c)
  match of .prec with
  | some r => some r
  | none =>
    match of .assured with
    | some r => some r
    | none => of .general

/-- The grant of R283 where no holder is suspended. -/
def arbitrate (a : Arbiter) (reqs : List (Nat × Cls)) : Option (Nat × Cls) := arbitrateAfter a [] reqs

/-- The order in which an arbiter will grant those that wait (R283). -/
def turnOrder : Nat → Arbiter → List Nat → List (Nat × Cls) → List Nat
  | 0, _, _, _ => []
  | k + 1, a, susp, reqs =>
    match arbitrateAfter a susp reqs with
    | none => []
    | some (n, c) => n :: turnOrder k (granted a c n) (susp.erase n) (reqs.filter fun r => r.1 != n)

/-- The turn hint of a requester (R284): how many will be granted before it, saturated at 63; none where it does not wait. -/
def turnHint (order : List Nat) (n : Nat) : Option Nat :=
  if order.contains n then some (min 63 (order.idxOf n)) else none

/-- A withdrawal after a grant is counted (R285). -/
def withdraw (s : State) : State := count 0x0B0006 s

/-- The answer in `COMMIT` to `DEPOSIT` is gone: the next one, if built, asks for its slot (R272). -/
def promote (m : Fin 40) : State → State := modMs m fun x =>
  match x.back, x.front with
  | none, some (j, .ready) => { x with front := none, back := some (j, .wantPort) }
  | _, _ => x

/-- The age limit of R378 has passed since T2. -/
def overAge (s : State) (j : Job) : Bool :=
  decide (((s.cfg.b0E.weir.ageLimitUs * 1000 * unitsPerNs : Nat) : Int) < nowUnits s - j.t2)

/-- A drop under R293 or R292 `LINK` of an answer for a port. -/
def countRecommitDrop (p : Fin 8) (s : State) : State := count (0x0B0090 + p.val) s

/-- A recommitment descriptor is placed at the head of its class queue, and counted (R292). -/
def offerRecommit (j : Job) (s : State) : State :=
  let s := countIdle s
  let s := samplerOccurs 7 (sampleJob s 63 j) (count (0x0B0088 + j.port.val) s)
  weirCheck (setQueue j.cls (j :: queueOf s j.cls) s)

/-- Answers in the park (R298 `PARKED`): those held there, and those offered and not yet taken. -/
def parked (s : State) : Nat :=
  s.core.park.length + ((s.core.precQ ++ s.core.assuredQ ++ s.core.generalQ).filter (·.recommit)).length

/-- A missed answer goes to the park (R292), or is dropped where the park is full. `hold` keeps it there: a pause has more than
400 ns to run. -/
def parkAnswer (hold : Bool) (j : Job) (s : State) : State :=
  if 4096 ≤ parked s then emit 0x0B08 (discard j s)
  else
    let j := { j with recommit := true }
    if hold then modCore (fun c => { c with park := c.park ++ [j] }) s else offerRecommit j s

end Sys2Proof.Machine
end

