-- ==== Sys2Proof/Machine/Tailrace.lean ====
section
/-!
DEFINITION. The ports' timing and the Tailraces: timestamp sums, the launch grid, slots, pauses and missed slots
(10_ports_and_timestamp_points.md, 11_millstone_core_and_arbitration.md).
-/

namespace Sys2Proof.Machine

/-- The group mode that governs a port. -/
def portMode (s : State) (p : Fin 8) : Nat := (s.cfg.b0A.group[Fin.ofNat 2 (p.val / 4)]).groupMode

/-- The port exists in the active group mode (R236, R237). -/
def portPresent (s : State) (p : Fin 8) : Bool :=
  match portMode s p with
  | 1 | 4 | 5 => true
  | 2 => p.val % 2 == 0
  | 3 => p.val % 4 == 0
  | _ => false

/-- MAC rate of a port in Gb/s (R236); 0 for a group that is off. -/
def portRate (s : State) (p : Fin 8) : Nat :=
  match portMode s p with
  | 1 => 100
  | 2 => 200
  | 3 => 400
  | 4 => 50
  | 5 => 25
  | _ => 0

/-- L_RX and L_TX in ps (R242). -/
def portLatency (s : State) (p : Fin 8) : Nat × Nat :=
  match portMode s p with
  | 1 => (146560, 41600)
  | 2 => (112640, 36480)
  | 3 => (96000, 32000)
  | 4 => (212480, 58880)
  | 5 => if (portCfg s p).fecMode = 0 then (38400, 25600) else (252160, 64000)
  | _ => (0, 0)

/-- L_RX + `RX_EXT_PS`, ps (R241). -/
def latRx (s : State) (p : Fin 8) : Int := ((portLatency s p).1 : Int) + (s.cfg.b0A.cal[p]).rxExtPs

/-- L_TX + `TX_EXT_PS`, ps (R241). -/
def latTx (s : State) (p : Fin 8) : Int := ((portLatency s p).2 : Int) + (s.cfg.b0A.cal[p]).txExtPs

/-- The line time of one byte: 8,000 ps at 1 Gb/s. -/
def byteTime (s : State) (p : Fin 8) : Units := ((8000 * unitsPerPs / portRate s p : Nat) : Int)

/-- The period of the launch grid (R242): 66 bits of a PCS lane group, 64 ns at 1 Gb/s. -/
def gridPeriod (s : State) (p : Fin 8) : Units := ((64 * unitsPerNs / portRate s p : Nat) : Int)

/-- The step of a port's stamps (R243): 15.625 ps. -/
def stampStep : Units := 128000

/-- T2 of a frame whose start-of-frame boundary crosses now, at the stamp of R243 (R241). -/
def t2Of (s : State) (p : Fin 8) (r : RxPoint) : Units := nowUnits s + r.steps * stampStep - latRx s p * (unitsPerPs : Int)

/-- What the timestamp unit records of a frame (R243). -/
def recordRx (p : Fin 8) (r : RxPoint) : State → State := modPort p fun q =>
  { q with rx := r, rxSkewPs := q.phy.skewPs.getD r.lane.val 0 }

/-- The point at which a frame lies whose command does not tell it, or one that the device launches: it is open (log entry 16). -/
def openPoint (s : State) : RxPoint :=
  { codeword := Config.freeAt 19 s.clk, block := Config.freeAt 20 s.clk, byteLane := Config.freeAt 21 s.clk
    lane := Fin.ofNat 4 (Config.freeAt 22 s.clk) }

/-- What the timestamp unit records of a frame launched (R243). -/
def recordTx (p : Fin 8) (r : RxPoint) : State → State := modPort p fun q =>
  { q with tx := r, txSkewPs := q.phy.skewPs.getD r.lane.val 0 }

/-- t_rx of a job (R241). A scheduled message, and one of the client's own, is measured from its t_k (R427). -/
def tRxOf (s : State) (j : Job) : Units :=
  match j.kind with
  | .sync | .followUp | .announce | .sweep | .clientReq | .clientRx => j.t2
  | _ => j.t2 + latRx s j.port * (unitsPerPs : Int)

/-- The first grid point at or after an instant, given any grid point. -/
def gridAfter (g per t : Units) : Units := if per ≤ 0 then t else g - (g - t) / per * per

/-- The priority of a frame (R254): its PCP, or `UNTAGGED_PRIO`. -/
def framePrio (s : State) (p : Fin 8) (f : Frame) : Fin 8 :=
  match f.tags with
  | (_, pcp, _) :: _ => Fin.ofNat 8 pcp
  | [] => Fin.ofNat 8 (portCfg s p).untaggedPrio

/-- The end of the pause that holds a priority of a port, none where none is in force (R253, R254). -/
def pauseEnd (s : State) (p : Fin 8) (prio : Fin 8) : Option Units :=
  let t := nowUnits s
  let live (o : Option Units) := o.filter fun u => decide (t < u)
  match live (s.ports[p]).pause, live (s.ports[p]).pfc[prio] with
  | some a, some b => some (max a b)
  | some a, none => some a
  | none, b => b

/-- A pause with more than 400 ns to run (R292). -/
def longPause (s : State) (p : Fin 8) (prio : Fin 8) : Bool :=
  match pauseEnd s p prio with
  | some t => decide (((400 * unitsPerNs : Nat) : Int) < t - nowUnits s)
  | none => false

/-- The start and the end of the interval a frame of `len` bytes occupies (R289, condition 2). -/
def slotStart (s : State) (p : Fin 8) (ttx : Units) : Units := ttx - 8 * byteTime s p

/-- See `slotStart`. -/
def slotStop (s : State) (p : Fin 8) (len : Nat) (ttx : Units) : Units := ttx + ((len + 12 : Nat) : Int) * byteTime s p

/-- The instant from which the line of a port is free: what crosses it now, and the gap after, have ended. -/
def lineFree (s : State) (p : Fin 8) : Units :=
  let q := s.ports[p]
  max (nowUnits s) (max ((q.crossing.map (· + 12 * byteTime s p)).getD (nowUnits s)) (q.lineBusy.getD (nowUnits s)))

/-- The earliest grid point at or after `lo` at which a frame fits between those booked and after the one on the line (R289,
conditions 1 to 3). -/
def earliestSlot (s : State) (p : Fin 8) (grid : Units) (len : Nat) (lo : Units) : Units :=
  let per := gridPeriod s p
  let lo := max lo (lineFree s p + 8 * byteTime s p)
  (s.ports[p]).book.foldl (fun t b =>
    if slotStart s p t < b.stop && b.start < slotStop s p len t then gridAfter grid per (b.stop + 8 * byteTime s p) else t)
    (gridAfter grid per lo)

/-- A booking put into its place by start. -/
def bookSorted (b : Booking) : List Booking → List Booking
  | [] => [b]
  | c :: r => if b.start < c.start then b :: c :: r else c :: bookSorted b r

/-- The line time of PRECEDENCE frames in the 1 µs that begins at an instant. -/
def precIn (l : List (Units × Units)) (t : Units) : Units :=
  (l.filter fun e => decide (t ≤ e.1 ∧ e.1 < t + ((1000 * unitsPerNs : Nat) : Int))).foldl (fun n e => n + e.2) 0

/-- A PRECEDENCE commitment would exceed the share of R290 in some 1 µs interval that holds it. -/
def overShare (l : List (Units × Units)) (ttx line : Units) : Bool :=
  let all := (ttx, line) :: l
  let near := all.filter fun e => decide (e.1 ≤ ttx ∧ ttx < e.1 + ((1000 * unitsPerNs : Nat) : Int))
  near.any fun e => decide (((100 * unitsPerNs : Nat) : Int) < precIn all e.1)

/-- Bookings of a port changed. -/
def modBook (p : Fin 8) (f : List Booking → List Booking) : State → State := modPort p fun q => { q with book := f q.book }

/-- The answer of a booked slot, where it is: deposited, or still with its Millstone. -/
def bookedJob (s : State) (b : Booking) : Option Job :=
  match b.job with
  | some j => some j
  | none =>
    match (s.core.ms[b.ms]).back with
    | some (j, _) => if j.id == b.jobId then some j else none
    | none => none

/-- A Millstone that holds a port's grant between the frames of a pair, or is suspended there, gives it up: a withdrawal (R285, R286). -/
def leavePort (m : Fin 40) (p : Fin 8) (s : State) : State :=
  let held := (s.ports[p]).hold == some m.val
  if held || (s.ports[p]).susp.contains m.val then
    withdraw (modPort p (fun q => { q with hold := if held then none else q.hold, susp := q.susp.erase m.val }) s)
  else s

/-- An answer taken from a Millstone that has not deposited all of it. -/
def takeBack (m : Fin 40) (p : Fin 8) (id : Nat) (s : State) : State :=
  match (s.core.ms[m]).back with
  | some (j, _) => if j.id == id then promote m (modMs m (fun x => { x with back := none }) (leavePort m p (chargeMs m s))) else s
  | none => s

/-- The Follow_Up of a two-step Sync, once the Sync is deposited: an answer of its own (R286, R291). -/
def followJob (j : Job) : Job := { j with kind := .followUp, out := j.follow, follow := none, work := [] }

/-- What becomes of a missed answer (R292). -/
inductive Miss
  | park
  | link

/-- The slots of an answer given up and the answer parked, or dropped on `LINK` (R292). A Follow_Up whose Sync has gone is an
answer of its own; one whose Sync is missed goes with it. -/
def missSlot (why : Miss) (p : Fin 8) (b : Booking) (s : State) : State :=
  if b.void then modBook p (fun l => l.erase b) s
  else
    match bookedJob s b with
    | none => modBook p (fun l => l.erase b) s
    | some _ =>
      let s := chargeMs b.ms s
      let j := (bookedJob s b).getD {}
      let goes (c : Booking) := c.jobId == b.jobId && (c == b || j.kind != .followUp)
      let gone := ((s.ports[p]).book.filter goes).map (·.ttx)
      let s := modPort p (fun q => { q with
        book := q.book.filter fun c => !goes c
        precDone := q.precDone.filter fun e => !gone.contains e.1 }) s
      let s := takeBack b.ms p b.jobId s
      match why with
      | .park => parkAnswer (longPause s p (framePrio s p (j.out.getD {}))) j s
      | .link => countRecommitDrop p (discard j s)

/-- Every slot of a port that meets a test is missed, in the order of the slots. The test is made on the slots as they stand
before the first is missed. -/
def missSlots (why : Miss) (p : Fin 8) (f : Booking → Bool) (s : State) : State :=
  ((s.ports[p]).book.filter f).foldl (fun s b => if (s.ports[p]).book.contains b then missSlot why p b s else s) s

/-- The slots that were cancelled are counted (R253, R255), with event 0x0A05 at the first after 1 s without one. -/
def slotsCancelled (p : Fin 8) (n : Nat) (s : State) : State :=
  if n = 0 then s
  else
    let s1 := modPort p (fun q => { q with cancelAt := some s.clk }) (countBy (0x0A0058 + p.val) n s)
    match (s.ports[p]).cancelAt with
    | some t => if t + clkPerSec ≤ s.clk then emit 0x0A05 s1 p.val else s1
    | none => emit 0x0A05 s1 p.val

/-- Slots that passed unused are forgotten (R281). -/
def dropPassed (p : Fin 8) (s : State) : State :=
  modBook p (fun l => l.filter fun b => !(b.void && decide (b.ttx ≤ nowUnits s))) s

/-- The bytes of a frame sent beside the launches, from destination address to FCS. -/
def besideLen (o : Output) : Nat :=
  match o with
  | .frame _ f _ => f.len
  | _ => 64

/-- A frame of the responder, of ESMC or of the telemetry fits on the line before the next committed launch, its preamble and the gap
after it included (R251). -/
def fitsBeside (s : State) (p : Fin 8) (len : Nat) : Bool :=
  let stop := lineFree s p + ((len + 20 : Nat) : Int) * byteTime s p
  (s.ports[p]).book.all fun b => b.void || decide (stop ≤ b.start)

/-- A frame of the responder, of ESMC or of the telemetry (R251, R254): it takes the line as soon as that is free, or waits for a
pause that holds its priority or for the next gap between launches. -/
def sendBeside (p : Fin 8) (prio : Fin 8) (counter : Option Nat) (o : Output) (s : State) : State :=
  if (pauseEnd s p prio).isSome || !fitsBeside s p (besideLen o) then
    modPort p (fun q => { q with waiting := q.waiting ++ [{ prio := prio, counter := counter, what := o }] }) s
  else
    let stop := lineFree s p + ((besideLen o + 20 : Nat) : Int) * byteTime s p
    put o (modPort p (fun q => { q with lineBusy := some stop }) (match counter with
      | some a => count a s
      | none => s))

/-- The waiting frames of a port that nothing holds any more are sent, oldest first (R251, R254). -/
def sendWaiting (p : Fin 8) (s : State) : State :=
  let w := (s.ports[p]).waiting
  w.foldl (fun s x => sendBeside p x.prio x.counter x.what s) (modPort p (fun q => { q with waiting := [] }) s)

end Sys2Proof.Machine
end

