-- ==== Sys2Proof/Machine/Grants.lean ====
section
/-!
DEFINITION. The Garner's records: client identity, rate records and their buckets, grant records, their search, expiry and
negotiation, and the grant calendar (11_millstone_core_and_arbitration.md, 13_ptp_service.md, 14_classes_admission_overload.md).
-/

namespace Sys2Proof.Machine

/-- VID of a frame, 0 when untagged. -/
def frameVid (f : Frame) : Nat :=
  match f.tags with
  | (_, _, vid) :: _ => vid
  | [] => 0

/-- Source address of a frame, IPv4 in the IPv4-mapped form. -/
def frameSrc (f : Frame) : Nat := (f.ip.getD {}).src

/-- A frame is IPv6. -/
def frameV6 (f : Frame) : Bool := (f.ip.getD {}).v6

/-- The 19 bytes of R278. -/
def clientBytes (j : Job) : Bytes :=
  beBytes 16 (frameSrc j.req) ++ beBytes 2 (frameVid j.req) ++ [BitVec.ofNat 8 j.port.val]

/-- H of R278. -/
def clientHash (s : State) (j : Job) : Nat := (sipHash24 s.garner.hashKey (clientBytes j)).toNat

/-- The rate index i = H[21:0]. -/
def rateIndex (s : State) (j : Job) : Nat := bitsOf (clientHash s j) 0 22

/-- The tag H[33:22]. -/
def clientTag (s : State) (j : Job) : Nat := bitsOf (clientHash s j) 22 12

/-- The logical bank of a rate record. -/
def rateBank (i : Nat) : Fin 48 := Fin.ofNat 48 (i / 2 ^ 17)

/-- The logical bank of a grant record. -/
def grantBank (g : Nat) : Fin 48 := Fin.ofNat 48 (32 + g / 2 ^ 16)

/-- A rate record; one that is not listed is not valid. -/
def rateRec (s : State) (i : Nat) : RateRec := (getIndexed i s.garner.rate).getD {}

/-- A grant record; one that is not listed is not valid. -/
def grantRec (s : State) (g : Nat) : GrantRec := (getIndexed g s.garner.grant).getD {}

/-- An entry of a list kept by rising index set; a default is not listed. -/
def setIndexed {α : Type} [DecidableEq α] (dflt : α) (i : Nat) (x : α) (l : List (Nat × α)) : List (Nat × α) :=
  if x = dflt then l.filter fun e => e.1 != i else putIndexed i x l

/-- Every entry of such a list changed, by its index; what becomes the default is no longer listed. -/
def voidAll {α : Type} [DecidableEq α] (dflt : α) (f : Nat → α → α) (l : List (Nat × α)) : List (Nat × α) :=
  (l.map fun e => (e.1, f e.1 e.2)).filter fun e => e.2 != dflt

/-- A rate record stored. -/
def setRate (i : Nat) (r : RateRec) : State → State := modGarner fun g => { g with rate := setIndexed {} i r g.rate }

/-- A grant record stored, by a write that is not a write beat. -/
def setGrantRec (i : Nat) (r : GrantRec) : State → State := modGarner fun g => { g with grant := setIndexed {} i r g.grant }

/-- `now` of R373, from a T2. -/
def bucketTime (t : Units) : Nat :=
  let n := t.toNat
  (n / unitsPerSec * 2 ^ 16 + n % unitsPerSec / unitsPerNs * 2 ^ 16 / 1000000000) % 2 ^ 40

/-- What a bucket decides (R373). -/
structure Judged where
  rec_ : RateRec
  /-- The record was initialised (R278). -/
  fresh : Bool
  /-- The request conforms. -/
  accept : Bool

/-- A rate record judged for a request under its bucket profile (R278, R373). A profile with `BKT_EN` 0 judges nothing. -/
def judgeRate (s : State) (j : Job) (r : RateRec) : Judged :=
  let p := s.cfg.b0E.bucket[Fin.ofNat 16 j.bkt]
  let now := bucketTime j.t2
  let ep := s.tb.stepCount % 4
  let fresh := !r.valid || r.tag != clientTag s j
  let full : RateRec := { r with
    valid := true, tag := clientTag s j, prof := j.bkt, tat := now, kodSent := false, epoch := ep }
  if !p.bktEn then { rec_ := if fresh then full else r, fresh := fresh, accept := true }
  else
    let r := if fresh || r.prof != j.bkt || r.epoch != ep then full else r
    let d0 := (r.tat + 2 ^ 40 - now) % 2 ^ 40
    let d := if 2 ^ 28 < d0 then 0 else d0
    if (p.bktBurst - 1) * p.bktInterval < d then { rec_ := r, fresh := fresh, accept := false }
    else
      { rec_ := { r with tat := (now + d + p.bktInterval) % 2 ^ 40, kodSent := false, epoch := ep },
        fresh := fresh, accept := true }

/-- H′ of R344. -/
def homeIndex (s : State) (j : Job) : Nat :=
  bitsOf (sipHash24 s.garner.hashKey (clientBytes j ++ [0x0D#8])).toNat 0 20

/-- The 64 records of a search window in the order in which they are read (R344). -/
def searchOrder (h : Nat) : List Nat :=
  let base := h / 64 * 64
  (List.range 8).flatMap fun i => (List.range 8).map fun k => base + (h % 64 / 8 + i) % 8 * 8 + k

/-- A record is the client's grant (R344). -/
def isClients (j : Job) (r : GrantRec) : Bool :=
  r.valid && !r.second && r.port == j.port.val && r.vid == frameVid j.req && r.v6 == frameV6 j.req && r.addr == frameSrc j.req

/-- The client's grant, if it has one. -/
def findGrant (s : State) (j : Job) : Option Nat := (searchOrder (homeIndex s j)).find? fun g => isClients j (grantRec s g)

/-- The record a new client takes: the first free one, or for IPv6 the first free aligned pair. -/
def freeGrant (s : State) (j : Job) : Option Nat :=
  (searchOrder (homeIndex s j)).find? fun g =>
    !(grantRec s g).valid && (!frameV6 j.req || (g % 2 == 0 && !(grantRec s (g + 1)).valid))

/-- The present 10-bit time of R347. -/
def expNow (s : State) : Nat := s.tb.sec / 2 % 1024

/-- The stored expiry of a grant made now for `d` seconds (R347). -/
def expiryOf (s : State) (d : Nat) : Nat := (s.tb.sec / 2 + (d + 1) / 2 + 1) % 1024

/-- An expiry has passed (R347). -/
def expired (s : State) (e : Nat) : Bool := decide ((expNow s + 1024 - e % 1024) % 1024 < 512)

/-- A grant is of this step epoch. -/
def epochOk (s : State) (r : GrantRec) : Bool := r.epoch == s.tb.stepCount % 4

/-- A code that may still be used. -/
def codeLive (s : State) (r : GrantRec) (code e : Nat) : Bool := code != 0 && epochOk s r && !expired s e

/-- A record with the expired or old codes of the given message types cleared, `VALID` 0 when none remains, and how many were cleared
(R347). -/
def clearTypes (s : State) (types : List Nat) (r : GrantRec) : GrantRec × Nat :=
  let a := types.contains 0 && r.syncCode != 0 && !codeLive s r r.syncCode r.syncExp
  let b := types.contains 9 && r.drespCode != 0 && !codeLive s r r.drespCode r.drespExp
  let c := types.contains 0xB && r.annCode != 0 && !codeLive s r r.annCode r.annExp
  let r1 := { r with
    syncCode := if a then 0 else r.syncCode
    drespCode := if b then 0 else r.drespCode
    annCode := if c then 0 else r.annCode }
  let live := r1.syncCode != 0 || r1.drespCode != 0 || r1.annCode != 0
  ({ r1 with valid := r.valid && live }, a.toNat + b.toNat + c.toNat)

/-- A record with every expired or old code cleared: the sweep, and a Signaling message, which reads them all (R347). -/
def clearStale (s : State) (r : GrantRec) : GrantRec × Nat := clearTypes s [0, 9, 0xB] r

/-- The message types whose codes the work on a descriptor finds stale (R347). -/
def typesFound (k : JobKind) : List Nat :=
  match k with
  | .delayReq => [9]
  | .sync | .followUp => [0]
  | .announce => [0xB]
  | _ => [0, 9, 0xB]

/-- Messages a second of a Sync or Delay_Resp code (R345). -/
def syncRate (c : Nat) : Nat := if c = 0 then 0 else 2 ^ (8 - c)

/-- Messages a second of an Announce code (R345). -/
def annRate (c : Nat) : Nat := if c = 0 then 0 else 2 ^ (4 - c)

/-- The load of a grant record: quarter SU a second, and bits a second on the line (R350). -/
def grantLoad (s : State) (r : GrantRec) : Nat × Nat :=
  let two := (ptpPort s (Fin.ofNat 8 r.port)).twoStep
  let beyond := (if r.v6 then 66 else 46) + (if r.vid = 0 then 0 else 4) + 20
  let a := syncRate r.syncCode
  let b := syncRate r.drespCode
  let c := annRate r.annCode
  (a * (if two then 4 else 2) + b * 3 + c * 2,
   8 * (a * ((if two then 88 else 44) + beyond) + b * (54 + beyond) + c * (64 + beyond)))

/-- The records the calendar mirrors (R341). -/
def calendarRecs (s : State) : List GrantRec := s.garner.calendar.map fun e => grantRec s e.1

/-- The granted load of all grants, quarter SU a second (R350). -/
def totalSu (s : State) : Nat := (calendarRecs s).foldl (fun n r => n + (grantLoad s r).1) 0

/-- The granted load of PRECEDENCE grants, quarter SU a second. -/
def precSu (s : State) : Nat := ((calendarRecs s).filter (·.prec)).foldl (fun n r => n + (grantLoad s r).1) 0

/-- The line bits a second of a port's PRECEDENCE grants. -/
def precLine (s : State) (p : Nat) : Nat :=
  ((calendarRecs s).filter fun r => r.prec && r.port == p).foldl (fun n r => n + (grantLoad s r).2) 0

/-- Millstones in service (R458). -/
def msActive (s : State) : Nat := (allMs.filter fun m => (s.core.ms[m]).st == .inService).length

/-- Probations that will add to the Millstones in service: for a faulted unit, or for an addition (R458, R295). -/
def probationsAdding (s : State) : Nat :=
  (s.dress.probations.toList.filter fun p => p.any fun q => q.worn.all fun w => (s.core.ms[w]).st != .inService).length

/-- What a tick finds for the limits (R458): no cap while spares or probations make good every unit missing, else the Millstones in
service. -/
def msCapNow (s : State) : Nat :=
  if (allMs.any fun m => (s.core.ms[m]).st == .spare) ||
      decide (s.cfg.b0B.core.msInService ≤ msActive s + probationsAdding s) then 40
  else msActive s

/-- The number of Millstones the limits use (R458): `MS_IN_SERVICE`, or what the last tick found left of it where no spare remains. -/
def msForLimits (s : State) : Nat := min s.cfg.b0B.core.msInService s.weir.msCap

/-- A change from one record to another stays within R350. -/
def withinLimits (s : State) (old new : GrantRec) : Bool :=
  let p := s.cfg.b0D.ptp
  let n := msForLimits s
  let a := grantLoad s old
  let b := grantLoad s new
  let all := totalSu s - a.1 + b.1
  let prec := precSu s - (if old.prec then a.1 else 0) + (if new.prec then b.1 else 0)
  let line := precLine s new.port - (if old.prec then a.2 else 0) + (if new.prec then b.2 else 0)
  decide (all ≤ p.grantSuPct * n * 500000) && decide (prec ≤ p.precGrantPct * n * 40000) &&
    decide (line ≤ p.precLinePct * portRate s (Fin.ofNat 8 new.port) * 10000000)

/-- The code of a message type: Announce 0xB, Sync 0x0, Delay_Resp 0x9. -/
def codeOf (r : GrantRec) (type : Nat) : Nat := if type == 0xB then r.annCode else if type == 0 then r.syncCode else r.drespCode

/-- A code and its expiry set; another message type has none. -/
def setCode (type code e : Nat) (r : GrantRec) : GrantRec :=
  if type == 0xB then { r with annCode := code, annExp := e }
  else if type == 0 then { r with syncCode := code, syncExp := e }
  else if type == 9 then { r with drespCode := code, drespExp := e }
  else r

/-- What a Signaling message has come to while its TLVs are decided in order (R349). -/
structure Negotiation where
  /-- The client's record, none where it has none and can take none. -/
  rec_ : Option GrantRec
  /-- The record as the totals hold it: empty where a step has emptied the calendar of it (R350). -/
  old : GrantRec
  reply : List Tlv := []
  /-- Types already decided in this message. -/
  seen : List Nat := []
  grants : Nat := 0
  denies : Nat := 0
  cause : Nat := 0
  limit : Bool := false

/-- The log interval a code grants (R345). -/
def codeFor (type : Nat) (log : Int) : Nat := if type == 0xB then (log + 4).toNat else (log + 8).toNat

/-- The first row of R349 that denies a REQUEST TLV. -/
def denyCause (s : State) (j : Job) (n : Negotiation) (t : Tlv) : Option Nat :=
  let p := ptpPort s j.port
  let known := t.messageType == 0xB || t.messageType == 0 || t.messageType == 9
  let fastest := if t.messageType == 0xB then p.annLogMin else p.syncLogMin
  if !known || n.seen.contains t.messageType then some 1
  else if t.logInterval < fastest || 0 < t.logInterval then some 2
  else if t.duration < s.cfg.b0D.ptp.grantMinS then some 3
  else match n.rec_, j.macIdx with
    | some r, some _ =>
      if withinLimits s n.old (setCode t.messageType (codeFor t.messageType t.logInterval) 0 r) then none else some 5
    | _, _ => some 4

/-- One TLV of a Signaling message (R349). -/
def negotiate (s : State) (j : Job) (n : Negotiation) (t : Tlv) : Negotiation :=
  match t.tlvType with
  | 0x0004 =>
    match denyCause s j n t with
    | some c =>
      { n with
        reply := n.reply ++ [{ t with tlvType := 5, duration := 0, renewalInvited := true }], denies := n.denies + 1, cause := c
        seen := t.messageType :: n.seen, limit := n.limit || c == 5 }
    | none =>
      let d := min t.duration s.cfg.b0D.ptp.grantMaxS
      { n with
        rec_ := n.rec_.map (setCode t.messageType (codeFor t.messageType t.logInterval) (expiryOf s d))
        reply := n.reply ++ [{ t with tlvType := 5, duration := d, renewalInvited := true }], grants := n.grants + 1
        seen := t.messageType :: n.seen }
  | 0x0006 =>
    { n with rec_ := n.rec_.map (setCode t.messageType 0 0), reply := n.reply ++ [{ t with tlvType := 7 }] }
  | _ => n

/-- The record a new grant starts from (R345). -/
def newGrant (s : State) (j : Job) (srv : Nat) : GrantRec :=
  { valid := true, v6 := frameV6 j.req, prec := j.cls == .prec || (ptpPort s j.port).grantPrecAll, port := j.port.val,
    vid := frameVid j.req, macIdx := j.macIdx.getD 0, addr := frameSrc j.req, srvAddr := srv, epoch := s.tb.stepCount % 4 }

/-- The serving address a frame was sent to (R246): its instance. -/
def servingOf (s : State) (p : Fin 8) (f : Frame) : Option Nat :=
  (s.cfg.b0A.addr.find? fun e =>
    e.2.addrV6 == frameV6 f && bitAt e.2.addrPorts p.val && e.2.addrVid == frameVid f &&
      addrNat e.2.addrV6 e.2.addrIp == (f.ip.getD {}).dst).map (·.1)

/-- A Signaling message decided on the record it found, or on none (R349). -/
def decideSignaling (s : State) (j : Job) (r : Option GrantRec) : Negotiation × Nat :=
  let srv := (servingOf s j.port j.req).getD 0
  let base := match r with
    | some r =>
      if isClients j r then
        let c := clearStale s r
        (some { c.1 with
          valid := true, epoch := s.tb.stepCount % 4, macIdx := j.macIdx.getD c.1.macIdx, srvAddr := srv }, c.2)
      else (some (newGrant s j srv), 0)
    | none => (none, 0)
  let tlvs := (j.req.ptp.getD {}).tlvs
  let held := (findGrant s j).any fun g => (getIndexed g s.garner.calendar).isSome
  let n0 : Negotiation := { rec_ := base.1, old := if held then (r.filter (isClients j)).getD {} else {} }
  let n := tlvs.foldl (negotiate s j) n0
  ({ n with rec_ := n.rec_.map fun r => { r with valid := r.syncCode != 0 || r.drespCode != 0 || r.annCode != 0 } }, base.2)

/-- The counts and events of a Signaling message decided on a port (R349, R350, R366). -/
def reportSignaling (p : Fin 8) (n : Negotiation) (s : State) : State :=
  let s := countBy 0x0D0006 n.denies (countBy 0x0D0005 n.grants s)
  let s := if n.denies = 0 then s else modGarner (fun g => { g with denyCause := n.cause }) s
  let s := if n.denies = 0 then s else emitOncePer 0x0D01 0xFF p.val s
  if n.limit then emitOncePer 0x0D0A 0xFF p.val s else s

/-- The calendar entry of a written grant record (R341). -/
def calendarOf (r : GrantRec) : CalEntry :=
  { prec := r.prec, port := r.port, syncCode := r.syncCode, annCode := r.annCode, epoch := r.epoch }

/-- Valid grant records (R365 `GRANTS_ACTIVE`). -/
def grantsActive (s : State) : Nat := (s.garner.grant.filter fun e => e.2.valid).length

/-- A write beat on a grant record (R341, R346): the record, the second of an IPv6 pair, and the calendar. Event 0x0D02 is issued
as `GRANTS_ACTIVE` comes to exceed 90 % of the table. -/
def writeGrant (g : Nat) (r : GrantRec) (s : State) : State :=
  let before := grantsActive s
  let s := setGrantRec g { r with seq := false } s
  let s := if r.v6 then
      setGrantRec (g + 1) (if r.valid then { valid := true, second := true, v6 := true, addr := r.addr % 2 ^ 96 }
        else { grantRec s (g + 1) with valid := false }) s
    else s
  let s := modGarner (fun k => { k with
    calendar := if r.valid then putIndexed g (calendarOf r) k.calendar else k.calendar.filter fun e => e.1 != g }) s
  if before ≤ 943718 && decide (943718 < grantsActive s) then emit 0x0D02 s else s

end Sys2Proof.Machine
end

