-- ==== Sys2Proof/Machine/PtpMessages.lean ====
section
/-!
DEFINITION. What a PTP message of the device says (13_ptp_service.md, Message contents), and the frames that carry the device's
messages (10_ports_and_timestamp_points.md, R247).
-/

namespace Sys2Proof.Machine

/-- clockClass of an Announce built now (R335). -/
def clockClassNow (s : State) : Nat :=
  let c := s.cfg.b0D.classes
  match govMode s with
  | .locked => c.ccLocked.getD (timeQl s) 0
  | .holdover =>
    match s.ho.st with
    | 2 => c.ccCat1
    | 3 => c.ccCat2
    | 4 => c.ccCat3
    | _ => c.ccHoldover
  | _ => c.ccAcquire

/-- The bounds of clockAccuracy from 0x20 on, in ns (R336). -/
def accuracyBounds : List Nat :=
  [25, 100, 250, 1000, 2500, 10000, 25000, 100000, 250000, 1000000, 2500000, 10000000, 25000000, 100000000, 250000000,
   1000000000, 10000000000]

/-- clockAccuracy of an Announce built now (R336). -/
def clockAccuracyNow (s : State) : Nat :=
  match rootDisp s with
  | some d =>
    match accuracyBounds.findIdx? fun (b : Nat) => decide (d ≤ (b : Rat)) with
    | some i => 0x20 + i
    | none => 0x31
  | none => 0xFE

/-- timeSource of an Announce built now (R336). With no slot to name the manual gives no value (log entry 16). -/
def timeSourceNow (s : State) : Nat :=
  match govMode s with
  | .locked | .holdover =>
    if govMode s == .holdover && decide (2 ≤ s.ho.st) then 0xA0
    else match refidSlot s with
      | some n => if n.val = 4 then 0x20 else if n.val = 5 || n.val = 6 then 0x40 else 0x90
      | none => Config.freeAt 8 s.clk % 256
  | _ => 0xA0

/-- timeTraceable, and frequencyTraceable with `SEL_QL` in LOCKED (R336). -/
def traceable (s : State) (lockedQl : Nat) : Bool :=
  let q := s.cfg.b0D.ptp.traceableQl
  match govMode s with
  | .locked => decide (lockedQl ≤ q)
  | .holdover => decide (s.ho.st ≤ 1 ∧ s.ho.ql ≤ q)
  | _ => false

/-- The common header of a message of a master port (R334). -/
def portHeader (s : State) (p : Fin 8) (type : Nat) : PtpMsg :=
  { messageType := type, domain := (ptpPort s p).domain, clockId := s.cfg.b0D.ptp.clockId, portNumber := p.val + 1,
    unicast := (ptpPort s p).profile == 2 }

/-- The log interval of a stream: granted, or the port's (R337). -/
def streamLog (s : State) (j : Job) : Int :=
  if j.mcast then (if j.kind == .announce then (ptpPort s j.port).logAnnounce else (ptpPort s j.port).logSync)
  else if j.kind == .announce then ((grantRec s j.grant).annCode : Int) - 4
  else ((grantRec s j.grant).syncCode : Int) - 8

/-- An Announce built now (R336). -/
def announceMsg (s : State) (j : Job) : PtpMsg :=
  let c := s.cfg.b0D.ptp
  let m := govMode s
  let warn := leapWithin s c.ptpLeapWarnS
  { portHeader s j.port 0xB with
    seqId := j.k % 65536
    logInterval := streamLog s j
    utcOffset := s.ts.utcOffsetNow
    utcOffsetValid := m == .locked || m == .holdover
    leap61 := leapState s == 1 && warn
    leap59 := leapState s == 2 && warn
    gmPriority1 := if (ptpPort s j.port).profile == 0 then c.priority1 else 128
    gmClass := clockClassNow s
    gmAccuracy := clockAccuracyNow s
    gmVariance := if m == .locked then c.oslvLocked else 0xFFFF
    gmPriority2 := c.priority2
    gmIdentity := c.clockId
    timeSource := timeSourceNow s
    ptpTimescale := true
    timeTraceable := traceable s (timeQl s)
    freqTraceable := traceable s (selQl s)
    uncertain := m == .acquire }

/-- A Sync as `BUILD` leaves it (R337). -/
def syncMsg (s : State) (j : Job) : PtpMsg :=
  { portHeader s j.port 0 with
    seqId := j.k % 65536, logInterval := streamLog s j, twoStep := (ptpPort s j.port).twoStep }

/-- The Follow_Up of a Sync as `BUILD` leaves it (R337). -/
def followMsg (s : State) (j : Job) : PtpMsg :=
  { portHeader s j.port 8 with seqId := j.k % 65536, logInterval := streamLog s j }

/-- An instant in units of 2⁻¹⁶ ns (R64). -/
def fracUnits (t : Units) : Int := t / 125

/-- A Delay_Resp (R337), or one for a neighbour's spilled request (R338). -/
def delayRespMsg (s : State) (j : Job) : PtpMsg :=
  let q := j.req.ptp.getD {}
  let st := match j.spill with
    | some (_, _, t2l) => stampOf t2l false
    | none => stampOf j.t2 false
  let corr : Int := match j.spill with
    | some (_, _, t2l) => q.correction + (fracUnits (t2l / (unitsPerNs : Int) * (unitsPerNs : Int)) - fracUnits j.t2)
    | none => q.correction - st.frac
  { portHeader s j.port 9 with
    unicast := q.unicast, seqId := q.seqId, tsSec := st.sec, tsNs := st.ns, correction := corr, reqClockId := q.clockId
    reqPort := q.portNumber
    logInterval := if (ptpPort s j.port).profile == 2 then (j.k : Int) - 8 else (ptpPort s j.port).logMinDreq }

/-- The answer to a Signaling message (R349). -/
def signalingMsg (s : State) (j : Job) : PtpMsg :=
  let q := j.req.ptp.getD {}
  { portHeader s j.port 0xC with
    seqId := q.seqId, logInterval := 0x7F, reqClockId := q.clockId, reqPort := q.portNumber, tlvs := j.reply }

/-- UDP port of a message: 319 for an event message, 320 for a general one. -/
def ptpUdpPort (m : PtpMsg) : Nat := if m.messageType == 0 || m.messageType == 1 then 319 else 320

/-- The length of a frame with a payload of `n` bytes (R302, R350): UDP over IP, or Ethernet. -/
def frameLen (ip tagged v6 : Bool) (n : Nat) : Nat :=
  max 64 (14 + (if tagged then 4 else 0) + (if ip then (if v6 then 40 else 20) + 8 else 0) + n + 4)

/-- The frame of an answer (R247): addresses and ports from its request, and `n` bytes of payload. -/
def replyFrame (s : State) (j : Job) (n : Nat) : Frame :=
  let q := j.req
  { len := frameLen q.ip.isSome (!q.tags.isEmpty) (frameV6 q) n
    dst := q.src
    src := (portCfg s j.port).portMac
    tags := q.tags.take 1
    etherType := q.etherType
    ip := q.ip.map fun h => { v6 := h.v6, src := h.dst, dst := h.src, dscp := h.dscp, flowLabel := if h.v6 then h.flowLabel else 0 }
    udp := q.udp.map fun u => { srcPort := u.dstPort, dstPort := u.srcPort } }

/-- A serving address by instance. -/
def servingAddr (s : State) (i : Nat) : Nat :=
  match getIndexed i s.cfg.b0A.addr with
  | some a => addrNat a.addrV6 a.addrIp
  | none => 0

/-- 224.0.1.129 in the IPv4-mapped form, and FF0E::181. -/
def ptpGroup (v6 : Bool) : Nat := if v6 then 0xFF0E * 2 ^ 112 + 0x181 else 0xFFFF * 2 ^ 32 + 0xE0000181

/-- The multicast frame of a port of profile 0 or 1 (R331). -/
def groupFrame (s : State) (p : Fin 8) (tags : List (Nat × Nat × Nat)) (m : PtpMsg) : Frame :=
  let r := ptpPort s p
  let ip := r.transport == 1 || r.transport == 2
  let v6 := r.transport == 2
  { len := frameLen ip (!tags.isEmpty) v6 (ptpLen m)
    dst := if r.transport == 1 then 0x01005E000181 else if r.transport == 2 then 0x333300000181
      else if r.profile == 1 && !r.mcastMac then 0x0180C200000E else 0x011B19000000
    src := (portCfg s p).portMac
    tags := tags
    etherType := if r.transport == 1 then 0x0800 else if r.transport == 2 then 0x86DD else 0x88F7
    ip := if ip then some { v6 := v6, src := servingAddr s (if v6 then r.srcAddrIdx6 else r.srcAddrIdx4), dst := ptpGroup v6 }
      else none
    udp := if ip then some { srcPort := ptpUdpPort m, dstPort := ptpUdpPort m } else none
    ptp := some m }

/-- The unicast frame of a grant's message (R348). PCP, DSCP and flow label are not given (log entry 16). -/
def grantFrame (s : State) (j : Job) (m : PtpMsg) : Frame :=
  let g := grantRec s j.grant
  let mac := ((s.garner.nhMac.find? fun e => e.1 == g.macIdx).map (·.2.1)).getD 0
  { len := frameLen true (g.vid != 0) g.v6 (ptpLen m)
    dst := mac
    src := (portCfg s j.port).portMac
    tags := if g.vid = 0 then [] else [(0x8100, Config.freeNat 3 % 8, g.vid)]
    etherType := if g.v6 then 0x86DD else 0x0800
    ip := some { v6 := g.v6, src := servingAddr s g.srvAddr, dst := g.addr, dscp := Config.freeNat 4 % 64,
                 flowLabel := if g.v6 then Config.freeNat 5 % 2 ^ 20 else 0 }
    udp := some { srcPort := ptpUdpPort m, dstPort := ptpUdpPort m }
    ptp := some m }

/-- The frame of a scheduled message. -/
def scheduledFrame (s : State) (j : Job) (m : PtpMsg) : Frame := if j.mcast then groupFrame s j.port [] m else grantFrame s j m

/-- The frame of a Delay_Resp: to the requester on profile 2, to the port's group otherwise (R331). -/
def delayRespFrame (s : State) (j : Job) : Frame :=
  let m := delayRespMsg s j
  if (ptpPort s j.port).profile == 2 then
    { replyFrame s j (ptpLen m) with ptp := some m, udp := some { srcPort := ptpUdpPort m, dstPort := ptpUdpPort m } }
  else groupFrame s j.port (j.req.tags.take 1) m

/-- A message with a committed instant written into it (R337): seconds, nanoseconds, and the fraction where it carries it. -/
def stampMsg (t3 : Units) (withFrac : Bool) (m : PtpMsg) : PtpMsg :=
  let st := stampOf t3 false
  { m with tsSec := st.sec, tsNs := st.ns, correction := if withFrac then (st.frac : Int) else 0 }

/-- A client message's frame (R351): the instance's own address, to a master or to the group. -/
def clientFrame (s : State) (i : Fin 2) (toward : Nat) (m : PtpMsg) : Frame :=
  let c := s.cfg.b0D.client[i]
  let p : Fin 8 := Fin.ofNat 8 c.cPort
  let ip := c.cTransport != 0
  let v6 := c.cTransport == 2
  let a := servingAddr s c.cAddrIdx
  let vid := ((getIndexed c.cAddrIdx s.cfg.b0A.addr).map (·.addrVid)).getD 0
  let tags := if ip && vid != 0 then [(0x8100, Config.freeNat 3 % 8, vid)] else []
  { len := frameLen ip (!tags.isEmpty) v6 (ptpLen m)
    dst := if c.cProfile == 2 then Config.freeAt 9 s.clk % 2 ^ 48
      else if c.cTransport == 1 then 0x01005E000181 else if c.cTransport == 2 then 0x333300000181
      else if c.cProfile == 1 then 0x0180C200000E else 0x011B19000000
    src := (portCfg s p).portMac
    tags := tags
    etherType := if c.cTransport == 1 then 0x0800 else if c.cTransport == 2 then 0x86DD else 0x88F7
    ip := if ip then some { v6 := v6, src := a, dst := if c.cProfile == 2 then toward else ptpGroup v6, dscp := Config.freeNat 4 % 64,
                            flowLabel := if v6 then Config.freeNat 5 % 2 ^ 20 else 0 }
      else none
    udp := if ip then some { srcPort := ptpUdpPort m, dstPort := ptpUdpPort m } else none
    ptp := some m }

end Sys2Proof.Machine
end

