-- ==== Sys2Proof/Machine/Build.lean ====
section
/-!
DEFINITION. `BUILD` and `FINISH`: the answer to each kind of descriptor (12_ntp_and_nts.md, 13_ptp_service.md,
15_leat_links_and_chains.md).
-/

namespace Sys2Proof.Machine

/-- What `BUILD` ends in: an answer, or none. -/
abbrev BuildResult := Option Job × State

/-- The header of an NTP answer and what is left for `FINISH`. -/
def ntpHeader (s : State) (j : Job) (nts : Option NtsCtx) : NtpBuild :=
  match j.kod with
  | some k => { hdr := kodHeader s k j.req.payload, timed := false, nts := nts }
  | none => { hdr := answerHeader s j.req.payload j.t2, timed := true, disp := rootDisp s, nts := nts }

/-- Bytes of an NTP answer's UDP payload (R302, R320). -/
def ntpLen (b : NtpBuild) : Nat :=
  48 + match b.nts with
    | some c => c.unique.length + (if c.sealed_ then 40 + c.plain.length else 0)
    | none => 0

/-- An NTP answer with its frame (R247, R302). -/
def ntpAnswer (s : State) (j : Job) (nts : Option NtsCtx) : Job :=
  let b := ntpHeader s j nts
  { j with ntp := some b, out := some (replyFrame s j (ntpLen b)) }

/-- The checks of R319 and the answer of R320. -/
def buildNts (j : Job) (s : State) : BuildResult :=
  match ntsCheck s j.req.payload with
  | .malformed => (none, count 0x0C0017 s)
  | .badCookie u =>
    let s := emitLimited 0x0C08 0xFF (count 0x0C001D s)
    if s.cfg.b0C.ntp.ntsnEn && j.kod != some .deny then
      (some (ntpAnswer s { j with kod := some .ntsn, bucketKod := false } (some { unique := u, sealed_ := false })), s)
    else (none, s)
  | .badAuth n => (none, emitLimited 0x0C07 0xFF (count 0x0C001E (count (0x0C0140 + n.val) s)))
  | .pass n u c2s s2c k ignored =>
    let s := countBy 0x0C001F ignored (count (0x0C0140 + n.val) s)
    if j.kod.isSome then (some (ntpAnswer s j (some { unique := u, s2c := s2c })), s)
    else
      let r := sealCookies (k + 1) c2s s2c s
      (some (ntpAnswer r.2 j (some { unique := u, s2c := s2c, plain := r.1, cookies := k + 1 })), r.2)

/-- The answer to a descriptor (R272, R302, R320, R334 to R337, R349). -/
def buildAnswer (j : Job) (s : State) : BuildResult :=
  match j.kind with
  | .ntp => (some (ntpAnswer s j none), s)
  | .nts => buildNts j s
  | .delayReq => (some { j with out := some (delayRespFrame s j) }, s)
  | .signaling =>
    let m := signalingMsg s j
    let f := { replyFrame s j (ptpLen m) with
      ptp := some m, udp := some { srcPort := ptpUdpPort m, dstPort := ptpUdpPort m } }
    (some { j with out := some f }, s)
  | .sync =>
    let f := if (ptpPort s j.port).twoStep then some (scheduledFrame s j (followMsg s j)) else none
    (some { j with out := some (scheduledFrame s j (syncMsg s j)), follow := f }, s)
  | .announce => (some { j with out := some (scheduledFrame s j (announceMsg s j)) }, s)
  | .clientReq | .clientRx => (some j, s)
  | .followUp | .sweep => (none, s)

/-- A frame longer than 1,536 bytes (R291). -/
def oversize (j : Job) : Bool := decide (1536 < (j.out.getD {}).len)

/-- `P_KIND` of an answer for a neighbour, none where it is refused (R408). -/
def respKind (j : Job) : Option Nat :=
  match j.kind, j.kod with
  | .delayReq, _ => some 2
  | _, some .ntsn => some 0
  | _, some _ => none
  | .nts, none => some 1
  | _, none => some 0

/-- The `RESP` frame of an answer built for a neighbour (R398, R408). -/
def respFrame (j : Job) (handle : Nat) : RespFrame :=
  let b := j.ntp.getD {}
  let c := b.nts.getD {}
  let hdr := if b.timed then writeTimes b.hdr (dispField b.disp j.t2Degraded) 0 else b.hdr
  match respKind j with
  | some 1 =>
    { handle := handle
      kind := 1
      len := 28 + roundUpTo 4 (48 + c.unique.length + 32 + c.plain.length)
      payload := hdr
      uniqueId := c.unique
      s2cKey := c.s2c
      plaintext := c.plain }
  | some 2 => { handle := handle, kind := 2, len := 28 + 56, ptp := (j.out.getD {}).ptp }
  | some k =>
    let p := hdr ++ c.unique
    { handle := handle, kind := k, len := 28 + roundUpTo 4 p.length, payload := p }
  | none => { handle := handle, refused := true, len := 28 }

/-- The answer of a relay descriptor, rebuilt from the `RESP` frame and the request held (R408). -/
def relayJob (s : State) (j : Job) (f : RespFrame) : Job :=
  match f.kind with
  | 2 =>
    { j with relayed := true, out := some (groupFrame s j.port (j.req.tags.take 1) (f.ptp.getD {})) }
  | 1 =>
    let c : NtsCtx := { unique := f.uniqueId, s2c := f.s2cKey, plain := f.plaintext, cookies := f.plaintext.length / 104 }
    let b : NtpBuild := { hdr := f.payload, timed := true, disp := none, nts := some c }
    { j with relayed := true, ntp := some b, out := some (replyFrame s j (ntpLen b)) }
  | _ =>
    let ntsn := decide (48 < f.payload.length)
    let c : NtsCtx := { unique := f.payload.drop 48, sealed_ := false }
    let b : NtpBuild := { hdr := f.payload.take 48, timed := !ntsn, disp := none, nts := if ntsn then some c else none }
    { j with relayed := true, kod := if ntsn then some .ntsn else none, ntp := some b, out := some (replyFrame s j (ntpLen b)) }

/-- A Root Dispersion field with the 100 ns of R94 added, rounded up as R308 rounds; the 16 s of ACQUIRE take no term (R309). The field
is all this end holds of the answering device's D_D (DEDUCED, log entry 24). -/
def addDirect (f : Nat) : Nat := if f = 0x00100000 then f else min 0xFFFFFFFF (f + 1)

/-- The Root Dispersion written at `FINISH` (R94, R309). A relayed answer carries the answering device's. -/
def finishDisp (j : Job) (b : NtpBuild) (direct : Bool) : Nat :=
  if j.relayed then
    let f := beNat (bytesAt b.hdr 8 4)
    if direct && !j.t2Degraded then addDirect f else f
  else dispField b.disp (j.t2Degraded || direct)

/-- The UDP payload of an NTP answer at `FINISH` (R302, R304, R320). -/
def finishNtp (j : Job) (b : NtpBuild) (t3 : Units) (direct : Bool) (s : State) : Bytes × State :=
  let hdr := if b.timed then writeTimes b.hdr (finishDisp j b direct) (ntpTime s.ts.utc t3) else b.hdr
  match b.nts with
  | none => (hdr, s)
  | some c =>
    if !c.sealed_ then (hdr ++ c.unique, s)
    else
      let d := draw 16 s
      let vc := sivSeal c.s2c [hdr ++ c.unique] d.1 c.plain
      let ct := vc.1 ++ vc.2
      let body := beBytes 2 16 ++ beBytes 2 ct.length ++ d.1 ++ ct
      (hdr ++ c.unique ++ beBytes 2 0x0404 ++ beBytes 2 (body.length + 4) ++ body, d.2)

/-- `FINISH` of an answer for a committed T3 (R302, R304, R320, R337). -/
def finishJob (j : Job) (t3 : Units) (direct : Bool) (s : State) : Job × State :=
  match j.ntp with
  | some b =>
    let r := finishNtp j b t3 direct s
    ({ j with out := j.out.map fun f => { f with payload := r.1 } }, r.2)
  | none =>
    let one := match j.follow with
      | some _ => false
      | none => true
    match j.kind with
    | .sync =>
      ({ j with
        out := j.out.map fun f => { f with ptp := f.ptp.map (stampMsg t3 one) }
        follow := j.follow.map fun f => { f with ptp := f.ptp.map (stampMsg t3 true) } }, s)
    | _ => (j, s)

/-- The counter that a launched answer advances (R329, R365, R374). -/
def countLaunched (j : Job) (s : State) : State :=
  match j.kind, j.kod with
  | .ntp, some k | .nts, some k =>
    let a := match k with
      | .rate => 0x0C0013
      | .deny => 0x0C0014
      | .ntsn => 0x0C0015
    let s := count a s
    if j.bucketKod then count 0x0E0018 s else s
  | .ntp, none => count 0x0C0010 s
  | .nts, none =>
    countBy 0x0C0012 (((j.ntp.bind (·.nts)).map (·.cookies)).getD 0) (count 0x0C0011 s)
  | .sync, _ => count (0x0D0028 + j.port.val) s
  | .delayReq, _ => count (0x0D0030 + j.port.val) s
  | .announce, _ => count (0x0D0038 + j.port.val) s
  | _, _ => s

end Sys2Proof.Machine
end

