-- ==== Sys2Proof/Machine/Interval.lean ====
section
/-!
DEFINITION. The interval counter and its capture ring (08_interval_counter.md).
-/

namespace Sys2Proof.Machine

/-- The interval counter changed. -/
def modIc (f : IntervalCounter → IntervalCounter) (s : State) : State := { s with ic := f s.ic }

/-- One stop channel changed. -/
def modStop (n : Fin 8) (f : IcStop → IcStop) : State → State := modIc fun c => { c with stop := c.stop.set n (f c.stop[n]) }

/-- The configuration of a stop channel. -/
def icCfg (s : State) (n : Fin 8) : IcStopRec := s.cfg.b08.stop[n]

/-- The counter converts (R202): `ARM_MODE` is not 0. -/
def icOn (s : State) : Bool := s.cfg.b08.ic.armMode != 0

/-- A stop channel works: enabled, with a cell, not stopped (R197, R210). -/
def stopWorks (s : State) (n : Fin 8) : Bool :=
  icOn s && (icCfg s n).stopEn && (s.ic.stop[n]).cell.isSome && !(s.ic.stop[n]).fault

/-- A record stands before another in the ring (R70, R205): by the steps of the time before it, then by the instant it describes; a marker
before what is taken at it. -/
def recBefore (a b : IcRec) : Bool :=
  decide (a.seg < b.seg) || a.seg == b.seg &&
    (decide (a.instant < b.instant) || a.instant == b.instant && a.kind == .marker && b.kind != .marker)

/-- A record put into its place among those queued. -/
def insertRec (r : IcRec) : List IcRec → List IcRec
  | [] => [r]
  | x :: l => if recBefore r x then r :: x :: l else x :: insertRec r l

/-- A record joins the queue of R205 in its place, or is lost to a full one; the next one written then carries `GAP`. -/
def icQueue (r : IcRec) (s : State) : State :=
  if 256 ≤ s.ic.queue.length then count 0x08000B (modIc (fun c => { c with lossDue := true }) s)
  else modIc (fun c => { c with
    queue := insertRec { r with gap := r.gap || c.gapDue || c.lossDue, afterLoss := c.lossDue } c.queue
    gapDue := false, lossDue := false }) s

/-- A record of now: `STEP_EPOCH`, `VALID` and the stamp format (R206). -/
def icRecord (s : State) (k : IcRecKind) (t : Units) (degraded : Bool) : IcRec :=
  { kind := k, stepEpoch := s.tb.stepCount, valid := timeValid s, stamp := stampOf t degraded, degraded := degraded,
    compact := s.cfg.b03.timescale.stampFormat, instant := t, seg := s.ic.steps }

/-- A marker record (R69, R207). -/
def icMarker (step : Bool) (s : State) : State :=
  icQueue { icRecord s .marker (markerUnits step s) false with step := step } s

/-- The timebase value of an edge whose next tick is now (R197 to R199): the coarse count, that of the tick, less the fine offset, which is
the count of fast cycles times the cell's calibrated step, scaled by the rate word. -/
def edgeTime (s : State) (cell : Option (Fin 12)) (fine : Fin 800) : Units :=
  let fs := (cell.map fun c => s.ic.calFs[c]).getD 1000
  nowUnits s - wholeOf (((fine.val * fs * unitsPerPs * advanceUnits s.tb : Nat) : Rat) / (1000 * 2 ^ 48 : Nat))

/-- A step moves what the counter keeps, so that no interval contains it (R199), and is noted in the open window and gates. -/
def icStep (d : Units) (s : State) : State :=
  modIc (fun c => { c with
    startAt := c.startAt + d, lastStart := c.lastStart.map (· + d), windowStep := true, steps := c.steps + 1
    line := c.line.map fun e => { e with instant := e.instant + d }
    stop := c.stop.map fun p => { p with
      lastEdge := p.lastEdge.map (· + d), recent := p.recent.map fun e => (e.1 + d, e.2)
      gate := p.gate.map fun g => { g with bad := true, step := true } } }) s

/-- The open window closes (R202). -/
def closeWindow (s : State) : State := modIc (fun c => { c with windowOpen := false }) s

/-- A conversion pair of a cell is taken (R197), unless the source is synthesised (R195). -/
def takePair (cell : Option (Fin 12)) (src : Nat) (s : State) : State :=
  match cell with
  | some c => if src = 12 then s else modIc (fun i => { i with busy := i.busy.set c (min 16 (i.busy[c] + 1)) }) s
  | none => s

/-- A pair of a cell is free. -/
def pairFree (s : State) (cell : Option (Fin 12)) (src : Nat) : Bool :=
  src == 12 || match cell with
    | some c => decide (s.ic.busy[c] < 16)
    | none => false

/-- A stop a start still claims (R201, fourth row): the most recent edge of an interval-mode channel, at most 3 ps before the start. What
the edge had counted or recorded before gives way to the coincidence. -/
def claimStop (t : Units) (s : State) (n : Fin 8) : State :=
  let r := icCfg s n
  match (s.ic.stop[n]).recent with
  | none => s
  | some (l, addr) =>
    let d := l - t
    if stopWorks s n && r.stopMode == 0 && decide (-((3 * unitsPerPs : Nat) : Int) ≤ d ∧ d < ((4 * unitsPerNs : Nat) : Int)) then
      let s := match addr with
        | some a => note (.taken a 1) s
        | none => s
      let claimed (x : IcRec) : IcRec := { x with
        index := 0, coincident := true, overflow := false, interval := 0, window := s.ic.windowSeq, step := false
        degraded := x.degraded || s.ic.startDegraded }
      let mine (x : IcRec) : Bool := x.kind == .stop n && x.instant == l && x.seg == s.ic.steps
      let s := count 0x080008 (modStop n (fun p => { p with stops := 1, lastEdge := some l, recent := none }) s)
      if s.ic.queue.any mine then modIc (fun c => { c with queue := c.queue.map fun x => if mine x then claimed x else x }) s
      else
        let p := s.ic.stop[n]
        icQueue (claimed { icRecord s (.stop n) l (degradedNow s) with
            synth := r.stopSrc == 12, spacing := p.spacingDue, gap := p.gapDue })
          (takePair p.cell r.stopSrc (modStop n (fun p => { p with spacingDue := false, gapDue := false }) s))
    else s

/-- An edge of the start channel (R202): one less than 1 µs after the last accepted is counted and ignored, in every mode; another opens
a window, in `ARM_MODE` 2 only the first since the apply tick. -/
def startEdge (e : IcEdge) (s : State) : State :=
  let r := s.cfg.b08.ic
  let te := e.instant
  if !icOn s || s.ic.startCell.isNone then s
  else if s.ic.lastStart.any fun l => decide (te - l < ((1000 * unitsPerNs : Nat) : Int)) then count 0x08000A s
  else if r.armMode == 2 && !s.ic.singleArmed then s
  else
    let gap := s.ic.startGap
    let s := modIc (fun c => { c with
      windowOpen := true, startAt := te, lastStart := some te, windowStep := false, startDegraded := e.degraded
      windowSeq := (c.windowSeq + 1) % 2 ^ 32, singleArmed := false, startGap := false
      stop := c.stop.map fun p => { p with stops := 0, shut := false, overflowed := false, lastEdge := none } }) s
    let s := icQueue { icRecord s .start te e.degraded with synth := r.startSrc == 12, window := s.ic.windowSeq, gap := gap }
      (takePair s.ic.startCell r.startSrc s)
    (List.finRange 8).foldl (claimStop te) s

/-- What the order decided and the interval d make of a stop (R201): none where it is discarded; or the interval reported,
whether coincident, and whether out of order. -/
def classifyStop (startFirst : Bool) (d : Units) : Option (Units × Bool × Bool) :=
  let three : Int := (3 * unitsPerPs : Nat)
  if startFirst then
    if three < d then some (d, false, false)
    else if -three ≤ d then some (0, true, false)
    else some (0, true, true)
  else if -three ≤ d then some (0, true, false)
  else none

/-- The most recent edge of a stop channel (R201), and the counter that counted it. -/
def noteRecent (n : Fin 8) (t : Units) (addr : Option Nat) : State → State := modStop n fun p => { p with recent := some (t, addr) }

/-- A stop of an interval-mode channel in the open window that R201 admits (R203). -/
def intervalStop (n : Fin 8) (e : IcEdge) (d : Units) (coincident anomaly : Bool) (s : State) : State :=
  let r := icCfg s n
  let p := s.ic.stop[n]
  let te := e.instant
  let s := if anomaly then emit 0x0807 (count 0x080009 s) n.val else if coincident then count 0x080008 s else s
  let deg := e.degraded || s.ic.startDegraded
  let rec0 : IcRec := { icRecord s (.stop n) te deg with
    synth := r.stopSrc == 12, step := s.ic.windowStep, window := s.ic.windowSeq }
  if p.lastEdge.any fun l => decide (te - l < ((4 * unitsPerNs : Nat) : Int)) then
    count 0x080006 (modStop n (fun p => { p with spacingDue := true }) s)
  else if r.maxStops < p.stops then
    let s := noteRecent n te (some 0x080007) (count 0x080007 s)
    if p.overflowed then s
    else emit 0x0801 (icQueue { rec0 with index := 15, overflow := true }
      (modStop n (fun p => { p with overflowed := true }) s)) n.val
  else
    icQueue { rec0 with
        index := p.stops, coincident := coincident, spacing := p.spacingDue, gap := p.gapDue
        interval := (wholeOf ((d : Rat) / (unitsPerPs : Nat))).toNat % 2 ^ 48 }
      (takePair p.cell r.stopSrc (modStop n (fun p => { p with
        stops := p.stops + 1, lastEdge := some te, spacingDue := false, gapDue := false
        recent := some (te, if coincident && !anomaly then some 0x080008 else none) }) s))

/-- The gate in which an edge of a frequency channel lies. -/
def gateStamp (e : IcEdge) (g : IcGate) : IcGate := { g with stamps := g.stamps ++ [e.instant], degraded := g.degraded || e.degraded }

/-- A stamped edge of a timestamp or frequency channel is recorded (R204). -/
def stampStop (n : Fin 8) (e : IcEdge) (s : State) : State :=
  let r := icCfg s n
  let p := s.ic.stop[n]
  icQueue { icRecord s (.stop n) e.instant e.degraded with
      synth := r.stopSrc == 12, spacing := e.spacing, gap := p.gapDue, step := r.stopMode == 2 && p.gate.any (·.step)
      window := Config.freeAt 1 s.clk % 2 ^ 32 }
    (modStop n (fun p => { p with gapDue := false, gate := if r.stopMode == 2 then p.gate.map (gateStamp e) else p.gate }) s)

/-- An edge of a stop channel (R201 to R204). -/
def stopEdge (n : Fin 8) (e : IcEdge) (s : State) : State :=
  let r := icCfg s n
  let early := noteRecent n e.instant (some 0x080005) (count 0x080005 s)
  if !stopWorks s n then s
  else if r.stopMode != 0 then stampStop n e s
  else if !s.ic.windowOpen || (s.ic.stop[n]).shut then early
  else match classifyStop (e.startFirst.getD (decide (s.ic.startAt ≤ e.instant))) (e.instant - s.ic.startAt) with
    | some (d, c, a) => intervalStop n e d c a s
    | none => early

/-- An edge stands before another (R196): by the instants they left their sources; at one instant a start before a stop. -/
def edgeBefore (a b : IcEdge) : Bool :=
  decide (a.instant < b.instant) || a.instant == b.instant && a.chan == .start && b.chan != .start

/-- An edge put into its place among those that wait. -/
def insertEdge (e : IcEdge) : List IcEdge → List IcEdge
  | [] => [e]
  | x :: l => if edgeBefore e x then e :: x :: l else x :: insertEdge e l

/-- The longest of the channels' delays (R196): an edge may arrive so long after the instant it left its source. -/
def icLag (s : State) : Units :=
  ((List.finRange 8).foldl (fun d n => max d (icCfg s n).stopDelayPs) (max 0 s.cfg.b08.ic.startDelayPs)) * unitsPerPs

/-- No edge can come any more that left its source before this one. -/
def edgeSettled (s : State) (e : IcEdge) : Bool := decide (e.instant + icLag s ≤ nowUnits s)

/-- An edge is ordered, used in an interval or stamped (R196). -/
def takeEdge (s : State) (e : IcEdge) : State :=
  match e.chan with
  | .start => startEdge e s
  | .stop n => stopEdge n e s

/-- The edges that are settled are taken, in their order (R196). -/
def icSettle (s : State) : State :=
  (s.ic.line.filter (edgeSettled s)).foldl takeEdge (modIc (fun c => { c with line := c.line.filter fun e => !edgeSettled s e }) s)

/-- A stamped channel decimates before conversion: every `STOP_DIV`-th edge is converted, where a pair is free (R204). -/
def stampArrives (n : Fin 8) (e : IcEdge) (s : State) : State :=
  let r := icCfg s n
  let p := s.ic.stop[n]
  if p.divCount + 1 < r.stopDiv then modStop n (fun p => { p with divCount := p.divCount + 1 }) s
  else if !pairFree s p.cell r.stopSrc then
    count 0x080006 (modStop n (fun p => { p with divCount := 0, spacingDue := true }) s)
  else
    let s := takePair p.cell r.stopSrc (modStop n (fun p => { p with divCount := 0, spacingDue := false }) s)
    modIc (fun c => { c with line := insertEdge { e with spacing := p.spacingDue } c.line }) s

/-- An edge arrives at a timebase value (R196): its channel's delay is subtracted before it is ordered. -/
def edgeArrives (ch : IcChan) (t : Units) (startFirst : Option Bool) (s : State) : State :=
  let edge (delayPs : Int) : IcEdge :=
    { chan := ch, instant := t - delayPs * unitsPerPs, startFirst := startFirst, degraded := degradedNow s }
  match ch with
  | .start =>
    if !icOn s || s.ic.startCell.isNone then s
    else modIc (fun c => { c with line := insertEdge (edge s.cfg.b08.ic.startDelayPs) c.line }) s
  | .stop n =>
    if !stopWorks s n then s
    else if (icCfg s n).stopMode != 0 then stampArrives n (edge (icCfg s n).stopDelayPs) s
    else modIc (fun c => { c with line := insertEdge (edge (icCfg s n).stopDelayPs) c.line }) s

/-- IC_START_EDGE (R196, R197, R202): an edge of the start channel, at the timebase tick that follows it, with its count of fast cycles.
The edges of a second-marker source come with SECOND_MARKER (R195). -/
def execIcStartEdge (dt : Nat) (fine : Fin 800) (s : State) : Host.Outcome State Fault Refusal :=
  act dt (fun s => icSettle (if s.cfg.b08.ic.startSrc == 12 then s else edgeArrives .start (edgeTime s s.ic.startCell fine) none s)) s

/-- IC_STOP_EDGE (R196, R197, R201 to R204): an edge of a stop channel, at the timebase tick that follows it, with its count of fast cycles
and the order decided against the start. The edges of a second-marker source come with SECOND_MARKER (R195). -/
def execIcStopEdge (dt : Nat) (n : Fin 8) (fine : Fin 800) (startFirst : Bool) (s : State) : Host.Outcome State Fault Refusal :=
  act dt (fun s => icSettle (if (icCfg s n).stopSrc == 12 then s
    else edgeArrives (.stop n) (edgeTime s (s.ic.stop[n]).cell fine) (some startFirst) s)) s

/-- The edges of the channels whose source is the second marker (R195): at the boundary exactly. -/
def synthEdges (s : State) : State :=
  let t := markerUnits false s
  let s := if s.cfg.b08.ic.startSrc == 12 then edgeArrives .start t none s else s
  icSettle ((List.finRange 8).foldl (fun s n => if (icCfg s n).stopSrc == 12 then edgeArrives (.stop n) t none s else s) s)

/-- IC_CONVERSION_DONE (R197): a conversion of a cell completes, and its pair is free again. -/
def execIcConversionDone (dt : Nat) (c : Fin 12) (s : State) : Host.Outcome State Fault Refusal :=
  act dt (modIc fun i => { i with busy := i.busy.set c (i.busy[c] - 1) }) s

/-- IC_WINDOW_TIMEOUT (R202): `STOP_WINDOW_MS` after it opened, the window closes. -/
def execIcWindowTimeout (dt : Nat) (s : State) : Host.Outcome State Fault Refusal := act dt (fun s => closeWindow (icSettle s)) s

/-- The cells the Dresser has retired (R210, R452): bit k for `VCk`. -/
def retiredCells (s : State) : Nat := s.dress.retired[3]

/-- The cells some channel holds. -/
def cellHeld (s : State) (c : Fin 12) : Bool :=
  s.ic.startCell == some c || s.ic.stop.toList.any fun p => p.cell == some c

/-- The spare cells, in order (R197, R210). -/
def spareCells (s : State) : List (Fin 12) :=
  (List.finRange 12).filter fun c => !bitAt (retiredCells s) c.val && !cellHeld s c

/-- IC_GATE_END (R208, R209): a gate boundary of TAI, behind which every edge is settled. The gate that ends keeps its stamps for its
result, or has none; the next gate starts. -/
def execIcGateEnd (dt : Nat) (n : Fin 8) (s : State) : Host.Outcome State Fault Refusal :=
  act dt (fun s =>
    let s := icSettle s
    let r := icCfg s n
    if !stopWorks s n || r.stopMode != 2 then s
    else
      let stop := (nowUnits s - icLag s).toNat / unitsPerNs / (r.gateMs * 1000000) * (r.gateMs * 1000000)
      let fresh : IcGate := { bad := s.pwr.mode == .load, div := r.stopDiv, nom := r.nomFreqHz }
      match (s.ic.stop[n]).gate with
      | none => modStop n (fun p => { p with gate := some fresh }) s
      | some g =>
        if g.bad || decide (g.stamps.length < 3) then
          emit 0x0803 (modStop n (fun p => { p with gate := some fresh }) s) n.val
        else
          modStop n (fun p => { p with gate := some fresh, closed := p.closed ++ [{ g with stop := stop, seg := s.ic.steps }] }) s) s

/-- Half away from zero is not said by R208: the nearest whole number, ties upwards. -/
def nearest (q : Rat) : Int := (q + 1 / 2).floor

/-- The regression of R208 over a gate's stamps in seconds: y and err. -/
def regression (stamps : List Units) (div nom : Nat) : Rat × Rat :=
  let p : Rat := (div : Rat) / (nom : Nat)
  let t0 := stamps.headD 0
  let c := stamps.map fun t => (nearest (secondsOf (t - t0) / p) : Rat)
  let r := stamps.map fun t => secondsOf (t - t0) - (nearest (secondsOf (t - t0) / p) : Rat) * p
  let cb := mean c
  let rb := mean r
  let den := (c.map fun x => (x - cb) * (x - cb)).foldl (· + ·) 0
  if den = 0 then (Config.slopeOfFew stamps.length, 0)
  else
    let b := ((c.zip r).map fun q => (q.1 - cb) * (q.2 - rb)).foldl (· + ·) 0 / (p * den)
    let res := (c.zip r).map fun q => q.2 - rb - b * p * (q.1 - cb)
    let sd := sqrtOf (mean (res.map fun x => x * x))
    (-b, sd / (p * sqrtOf den))

/-- A gate whose consecutive stamps lie more than 1.5 P apart somewhere (R209). -/
def gateMissed (stamps : List Units) (div nom : Nat) : Bool :=
  (stamps.zip (stamps.drop 1)).any fun q => decide (2 * secondsOf (q.2 - q.1) * (nom : Nat) > 3 * (div : Rat))

/-- IC_FREQ_RESULT (R208, R209): the result of the oldest gate that ended is computed and recorded. -/
def execIcFreqResult (dt : Nat) (n : Fin 8) (s : State) : Host.Outcome State Fault Refusal :=
  act dt (fun s =>
    let p := s.ic.stop[n]
    match p.closed with
    | [] => s
    | g :: l =>
      let q := regression g.stamps g.div g.nom
      let y := wholeOf (q.1 * (10 ^ 18 : Nat))
      let err := min 0xFFFFFFFF (wholeOf (q.2 * (10 ^ 18 : Nat))).toNat
      icQueue { icRecord s (.freq n) ((g.stop * unitsPerNs : Nat) : Int) g.degraded with
          seg := g.seg, gap := gateMissed g.stamps g.div g.nom || p.gapDue, freqN := g.stamps.length, freqResult := y }
        (modStop n (fun p => { p with closed := l, freqResult := y, freqErr := err, gapDue := false }) s)) s

/-- A record waits for the result of a gate that ended before the instant it describes (R70, R205). -/
def resultDue (s : State) (r : IcRec) : Bool :=
  s.ic.stop.toList.any fun p => p.closed.any fun g =>
    decide (g.seg < r.seg) || g.seg == r.seg && decide (((g.stop * unitsPerNs : Nat) : Int) < r.instant)

/-- No record can come any more that stands before this one, nor a start that claims it (R196, R201, R205): it may be written. -/
def recSettled (s : State) (r : IcRec) : Bool :=
  !resultDue s r &&
  (decide (r.seg < s.ic.steps) || decide (r.instant + icLag s + ((4 * unitsPerNs : Nat) : Int) ≤ nowUnits s))

/-- A record as it is written (R206): `STEP_EPOCH` and `VALID` are those of the writing, of a marker those at the marker. -/
def asWritten (s : State) (r : IcRec) : IcRec :=
  if r.kind == .marker then r else { r with stepEpoch := s.tb.stepCount, valid := timeValid s }

/-- IC_RING_WRITE (R205, R206): the first record of the queue is written into the ring, once its place in the order is settled
(DEDUCED, log entry 97). -/
def execIcRingWrite (dt : Nat) (s : State) : Host.Outcome State Fault Refusal :=
  act dt (fun s =>
    let s := icSettle s
    match s.ic.queue with
    | [] => s
    | r :: q =>
      if !recSettled s r then s
      else
        let s := modIc (fun c => { c with queue := q, ring := (asWritten s r :: c.ring).take 2048, head := (c.head + 1) % 65536 })
          (modTele (fun t => { t with icUnsent := t.icUnsent + 1 }) s)
        if r.afterLoss then emit 0x0806 s else s) s

/-- A stop channel that has lost its cell and found none stops (R210): event 0x0805. -/
def stopFault (n : Fin 8) (s : State) : State :=
  emit 0x0805 (modStop n (fun p => { p with cell := none, fault := true, gate := none, closed := [] }) s) n.val

/-- The highest-numbered stop channel of a kind that holds a cell. -/
def highestStop (s : State) (f : Fin 8 → Bool) : Option (Fin 8) :=
  (List.finRange 8).reverse.find? fun n => f n && (s.ic.stop[n]).cell.isSome

/-- The start channel's cell replaced (R210). -/
def swapStart (s : State) : State :=
  match (spareCells s).head? with
  | some c => emit 0x0804 (modIc (fun i => { i with startCell := some c }) s) 8 c.val
  | none =>
    match highestStop s (fun n => !(icCfg s n).stopEn) with
    | some n => modIc (fun i => { i with startCell := (i.stop[n]).cell }) s |> modStop n (fun p => { p with cell := none })
    | none =>
      match highestStop s (fun n => (icCfg s n).stopEn) with
      | some n => stopFault n (modIc (fun i => { i with startCell := (i.stop[n]).cell }) s)
      | none => modIc (fun i => { i with startCell := none }) s

/-- A stop channel's cell replaced (R210); its gate holds a cell swap (R209). -/
def swapStop (n : Fin 8) (s : State) : State :=
  let s := modStop n (fun p => { p with gate := p.gate.map fun g => { g with bad := true } }) s
  match (spareCells s).head? with
  | some c => emit 0x0804 (modStop n (fun p => { p with cell := some c }) s) n.val c.val
  | none =>
    match highestStop s (fun m => m != n && !(icCfg s m).stopEn) with
    | some m => modStop m (fun p => { p with cell := none }) (modStop n (fun p => { p with cell := (s.ic.stop[m]).cell }) s)
    | none => if (icCfg s n).stopEn then stopFault n s else modStop n (fun p => { p with cell := none }) s

/-- A channel's cell has been retired, and its replacement is due. -/
def cellRetired (s : State) (c : Option (Fin 12)) : Bool := c.any fun c => bitAt (retiredCells s) c.val

/-- The counter after PD2 is powered up (R197, R211): the start channel and the stop channels hold a cell each, taken in
order from those not retired. -/
def icPowered (s : State) : State :=
  let cells := (List.finRange 12).filter fun c => !bitAt (retiredCells s) c.val
  { s with ic := { startCell := cells[0]?, stop := Vector.ofFn fun n => { cell := cells[n.val + 1]? }, gapDue := true } }

/-- The counter at an apply tick (R202, R210, R211), by the configuration before it. -/
def icApply (old : Sec08) (s : State) : State :=
  let startChanged := old.ic != s.cfg.b08.ic
  let s := modIc (fun c => { c with
    singleArmed := true, gapDue := true, startGap := c.startGap || startChanged, windowOpen := c.windowOpen && !startChanged
    line := c.line.filter fun e => match e.chan with
      | .start => !startChanged
      | .stop n => old.stop[n] == s.cfg.b08.stop[n]
    stop := Vector.ofFn fun n =>
      let p := c.stop[n]
      if old.stop[n] == s.cfg.b08.stop[n] then p
      else { p with shut := true, gate := none, gapDue := true, divCount := 0, spacingDue := false, recent := none } }) s
  (List.finRange 8).foldl (fun s n =>
    if (icCfg s n).stopEn && (s.ic.stop[n]).cell.isNone && !(s.ic.stop[n]).fault then stopFault n s else s) s

/-- The first record after a LOAD carries `GAP` (R206), be its end SAFE. -/
def icAfterLoad (s : State) : State := if s.pwr.mode == .load then modIc (fun c => { c with gapDue := true }) s else s

/-- The gates open when LOAD begins contain it (R209). -/
def icLoad (s : State) : State :=
  modIc (fun c => { c with stop := c.stop.map fun p => { p with gate := p.gate.map fun g => { g with bad := true } } }) s

end Sys2Proof.Machine
end

