-- ==== Sys2Proof/Machine/Timebase.lean ====
section
/-!
DEFINITION. OSCIN, the ADPLLs and their roles (04_timebase_and_adplls.md).
-/

namespace Sys2Proof.Machine

/-- The physical ADPLL of a role. -/
def adpllOf (p : Pll) (r : Role) : Fin 4 :=
  match r with
  | .tb => p.roleTb
  | .sd => p.roleSd
  | .ck => p.roleCk

/-- A role given to an ADPLL. -/
def setRole (r : Role) (n : Fin 4) (p : Pll) : Pll :=
  match r with
  | .tb => { p with roleTb := n }
  | .sd => { p with roleSd := n }
  | .ck => { p with roleCk := n }

/-- The roles in the order of their rank (R95). -/
def rolesByRank : List Role := [.tb, .sd, .ck]

/-- The code by which events name a role: its row in R87. -/
def roleCode (r : Role) : Nat :=
  match r with
  | .tb => 0
  | .ck => 1
  | .sd => 2

/-- A role an ADPLL is left for. -/
def filled (p : Pll) (r : Role) : Bool := !p.unfilled.contains r

/-- The role an ADPLL fills. -/
def roleOf (p : Pll) (n : Fin 4) : Option Role := rolesByRank.find? fun r => filled p r && adpllOf p r == n

/-- The tuning word saved for a role (R92). -/
def savedWord (p : Pll) (r : Role) : Option Nat :=
  match r with
  | .tb => p.savedTb
  | .sd => p.savedSd
  | .ck => p.savedCk

/-- A tuning word saved for a role (R92). -/
def saveWord (r : Role) (w : Nat) (p : Pll) : Pll :=
  match r with
  | .tb => { p with savedTb := some w }
  | .sd => { p with savedSd := some w }
  | .ck => { p with savedCk := some w }

/-- The role whose ratio an ADPLL runs at: the one it fills, the one it is taking over, or `TB` on standby (R99). -/
def targetRole (p : Pll) (n : Fin 4) : Role :=
  match roleOf p n with
  | some r => r
  | none =>
    match p.incoming with
    | some (r, m) => if m == n then r else .tb
    | none => .tb

/-- One ADPLL changed. -/
def modAdpll (n : Fin 4) (f : Adpll → Adpll) (p : Pll) : Pll := { p with adpll := p.adpll.set n (f p.adpll[n]) }

/-- The clock block changed. -/
def modPll (f : Pll → Pll) (s : State) : State := { s with pll := f s.pll }

/-- A role is set to follow W (R88): `FOLLOW_EN` of its instance, and never `TB`. -/
def follows (s : State) (r : Role) : Bool :=
  match r with
  | .tb => false
  | .ck => s.cfg.b04.adpll[1].followEn
  | .sd => s.cfg.b04.adpll[2].followEn

/-- The DCO frequency of a role in kHz (R87). -/
def dcoKhz (s : State) (r : Role) : Nat :=
  match r with
  | .ck => s.cfg.b04.adpll[1].dcoFreqKhz
  | _ => 5000000

/-- The feedback ratio of a role carries W now (R88): never while its outputs are held (R96, R102). -/
def carriesW (s : State) (r : Role) : Bool := follows s r && !s.pll.unfollowed.contains r

/-- A role may not follow W (R96, R102, R104): its ADPLL is held, or the timebase is in `DCO_HOLD` or `FREE_RUN`. -/
def followBarred (s : State) (r : Role) : Bool :=
  (s.pll.adpll[adpllOf s.pll r]).held || s.pll.tbState == .dcoHold || s.pll.tbState == .freeRun

/-- The follow correction at a Governor tick (R88, R96): a role that may follow again does so from this tick. -/
def followTick (s : State) : State :=
  modPll (fun p => { p with unfollowed := p.unfollowed.filter (followBarred s) }) s

/-- Roles whose feedback stops following W (R96, R102). -/
def stopFollowing (l : List Role) (p : Pll) : Pll := { p with unfollowed := p.unfollowed ++ l.filter fun r => !p.unfollowed.contains r }

/-- The expected window count E of R90: 1,024 × f_DCO / (8 × f_OSCIN), with the follow correction of R88. -/
def expectedCount (s : State) (r : Role) : Rat :=
  let e : Rat := (128000 * dcoKhz s r : Nat) / (s.pll.oscin.oscinFreq : Nat)
  if carriesW s r then e * (1 + (s.tb.w : Rat) / (2 ^ 48 : Nat)) else e

/-- An ADPLL starts for a role (R92): from the role's saved word or the factory centre word, with a wide-band
acquisition. -/
def startAdpll (n : Fin 4) (r : Role) (p : Pll) : Pll :=
  modAdpll n (fun a => { a with
    st := .acquiring, windows := 0, saved := none,
    tune := (savedWord p r).getD (Config.centreWord n.val % 2 ^ 24) }) p

/-- An ADPLL runs at the `TB` role's ratio: on standby, or on a retry at that ratio, and not withdrawn from another role. -/
def runsAtTb (p : Pll) (n : Fin 4) : Bool :=
  targetRole p n == .tb &&
  match (p.adpll[n]).st with
  | .acquiring | .qualifying | .locked => true
  | _ => false

/-- The spare is assigned to a role (R95, R98): event 0x0405. One that waits at the `TB` ratio goes on with its qualification for `TB`
(R99); any other starts under R92. -/
def assignSpare (r : Role) (n : Fin 4) (s : State) : State :=
  let goesOn := r == .tb && runsAtTb s.pll n
  let s := emit 0x0405 (modPll (fun p => { p with spare := none, incoming := some (r, n) }) s) n.val (roleCode r)
  if goesOn then s else modPll (startAdpll n r) s

/-- An ADPLL keeps its role in word hold, because no spare is free (R96): event 0x040A. Its outputs do not follow W until an ADPLL
has qualified in the role. -/
def wordHold (r : Role) (s : State) : State :=
  let n := adpllOf s.pll r
  emit 0x040A (modPll (fun p => stopFollowing [r] (modAdpll n (fun a => { a with
    st := .wordHold, windows := 0, held := true, pulling := false,
    tune := (savedWord p r).getD a.tune }) p)) s) n.val (roleCode r)

/-- The rank of a role, lower first (R95). -/
def roleRank (r : Role) : Nat :=
  match r with
  | .tb => 0
  | .sd => 1
  | .ck => 2

/-- The spare is sought for a role whose ADPLL is unlocked (R95, R96). A spare still taking over a lower role is
withdrawn, and that role returns to its own ADPLL in word hold. -/
def seekSpare (r : Role) (s : State) : State :=
  match s.pll.spare with
  | some n => assignSpare r n s
  | none =>
    match s.pll.incoming with
    | some (r2, n) => if roleRank r < roleRank r2 then wordHold r2 (assignSpare r n s) else wordHold r s
    | none => wordHold r s

/-- The timebase enters DIRECT (R94): event 0x0403, and from `DCO_HOLD` or `FREE_RUN` event 0x0409. `OSC_FAULT` falls with those two
states, in which alone R93 has it set (DESIGN CHOICE, log entry 78). -/
def enterDirect (s : State) : State :=
  if s.pll.tbState == .direct then s
  else
    let s := if s.pll.tbState == .dcoHold || s.pll.tbState == .freeRun then emit 0x0409 s else s
    count 0x040012 (emit 0x0403 (modPll (fun p => { p with tbState := .direct, oscFault := false }) s))

/-- What follows an unlock declared with OSCIN present (R94 to R98, R103): the ADPLL of a role gives way to the spare or
holds its word; one in no role is no longer the spare. -/
def loseLock (n : Fin 4) (s : State) : State :=
  match roleOf s.pll n with
  | some r =>
    let s := modPll (fun p => modAdpll n (fun a => { a with
      st := .wordHold, windows := 0, held := true, pulling := false,
      tune := (savedWord p r).getD a.tune }) p) s
    seekSpare r (if r == .tb then enterDirect s else s)
  | none =>
    modPll (fun p =>
      let p := modAdpll n (fun a => { a with st := .off, windows := 0, pulling := false }) p
      { p with spare := if p.spare == some n then none else p.spare,
               incoming := match p.incoming with
                 | some (r, m) => if m == n then none else some (r, m)
                 | none => none }) s

/-- An unlock declaration (R90, R91): event 0x0401, counted. -/
def noteUnlock (n : Fin 4) (s : State) : State :=
  if !s.pll.oscinPresent then s
  else count (0x04000E + n.val) (emit 0x0401 (modPll (modAdpll n fun a => { a with unlocks := s.clk :: a.unlocks }) s) n.val)

/-- An ADPLL is declared unlocked (R90, R91), and gives way (R94 to R98). OSCIN lost takes precedence (R101). -/
def declareUnlock (n : Fin 4) (s : State) : State :=
  if !s.pll.oscinPresent then s
  else
    let s := noteUnlock n s
    let taking := match s.pll.incoming with
      | some (r, m) => if m == n then some r else none
      | none => none
    let s := loseLock n s
    match taking with
    | some r => seekSpare r s
    | none => s

/-- A role is in word hold, or is unfilled, with no spare on its way (R87, R98). -/
def holdsWord (p : Pll) (r : Role) : Bool :=
  (!filled p r || (p.adpll[adpllOf p r]).held) &&
  match p.incoming with
  | some (r2, _) => r2 != r
  | none => true

/-- An ADPLL in no role has completed a lock qualification (R87, R98): it becomes the spare, or is assigned at once to the
highest role that is in word hold or has no ADPLL. A spare with `A3_STANDBY` = 0 is powered down (R99). -/
def becomeSpare (n : Fin 4) (s : State) : State :=
  match rolesByRank.find? (holdsWord s.pll) with
  | some r => if s.pll.incoming.isNone then assignSpare r n s else modPll (fun p => { p with spare := some n }) s
  | none =>
    modPll (fun p =>
      let p := { p with spare := some n }
      if s.cfg.b04.adpll[3].a3Standby then p else modAdpll n (fun a => { a with st := .off, windows := 0 }) p) s

/-- The `TB` role has qualified, in place or at a takeover: the timebase leaves DIRECT, `DCO_HOLD` or `FREE_RUN` with no step
(R96, R97, R103, R104), and what R23 asks of `TB` before a return to LOCKED is met. -/
def tbQualified (s : State) : State :=
  let s := { s with gov := { s.gov with needQualify := false } }
  match s.pll.tbState with
  | .direct => emit 0x0404 (modPll (fun p => { p with tbState := .normal, oscFault := false }) s)
  | .dcoHold | .freeRun => emit 0x0409 (modPll (fun p => { p with tbState := .normal, oscFault := false }) s)
  | .normal => s

/-- The `CK` role has qualified or changed hands: its outputs return, and their dividers restart (R105, R224). -/
def ckQualified (s : State) : State :=
  outputsMode (clkRealignDue (modPll (fun p => { p with ckRetune := false }) s))

/-- An ADPLL completes a lock qualification (R90): event 0x0402, and its role, its takeover or the spare's place. -/
def qualified (n : Fin 4) (s : State) : State :=
  let s := emit 0x0402 (modPll (modAdpll n fun a => { a with
    st := .locked, windows := 4, retries := 0, held := false,
    pulling := false }) s) n.val
  match roleOf s.pll n with
  | some .tb => tbQualified { s with pll := { s.pll with incoming := match s.pll.incoming with
      | some (.tb, m) => if m == n then some (.tb, m) else none
      | x => x } }
  | some .ck => if s.pll.ckRetune then ckQualified s else s
  | some .sd => s
  | none =>
    match s.pll.incoming with
    | some (_, m) => if m == n then s else becomeSpare n s
    | none => becomeSpare n s

/-- Every ADPLL that runs restores its saved word and holds it (R100, R101): of the role it fills or is taking over the role's, else its
own. Where none was saved it holds its present word (DESIGN CHOICE, log entry 78). -/
def holdAll (p : Pll) : Pll :=
  let word (n : Fin 4) (a : Adpll) : Nat :=
    let role := (roleOf p n).or (p.incoming.bind fun e => if e.2 == n then some e.1 else none)
    match role with
    | some r => (savedWord p r).getD a.tune
    | none => a.saved.getD a.tune
  { p with
    adpll := Vector.ofFn fun n =>
      let a := p.adpll[n]
      if a.st == .off || a.st == .retired then a
      else { a with st := .dcoHold, windows := 0, held := false, pulling := false, tune := word n a }
    unfollowed := [.sd, .ck]
    spare := match p.incoming with
      | some (_, n) => some n
      | none => p.spare
    incoming := none }

/-- The event of the state that the timebase leaves for `DCO_HOLD` (R109): 0x0404 from `DIRECT`, 0x0409 from `FREE_RUN`. -/
def noteLeft (st : TbState) (s : State) : State :=
  match st with
  | .direct => emit 0x0404 s
  | .freeRun => emit 0x0409 s
  | _ => s

/-- OSCIN is declared lost (R100, R101, R23): every ADPLL holds, the timebase enters `DCO_HOLD`, from `DIRECT` or `FREE_RUN` with the
event of R109, and `OSC_FAULT` is set; from LOCKED the change to HOLDOVER falls on the next Governor tick (R514). A return to LOCKED
needs a lock qualification of `TB` (R23). A loss during the pull-in that finds the timebase still in `DCO_HOLD` lets `DCO_HOLD_SEC` count
on (DEDUCED, log entry 87). -/
def loseOscin (s : State) : State :=
  if s.pll.oscinPresent then
    let was := s.pll.tbState
    let s := modPll (fun p => { holdAll p with
      tbState := .dcoHold, oscFault := true, oscinPresent := false
      holdSince := if was == .dcoHold then p.holdSince else s.clk }) s
    let s := count 0x040015 (emit 0x0408 (emit 0x0406 (noteLeft was s)))
    let held := s.pwr.mode == .locked || (s.pwr.mode == .load && s.pwr.loadKind == .reload && s.pwr.modeLeft == .locked)
    { s with gov := { s.gov with needQualify := true, oscinLost := s.gov.oscinLost || held } }
  else s

/-- A window count of the `TB` DCO departs from nominal by more than ±1,000 ppm (R100). -/
def countLost (s : State) (n : Fin 4) (d : Rat) : Bool :=
  n == s.pll.roleTb && filled s.pll .tb && decide (expectedCount s .tb < 1000 * d ∨ 1000 * d < -expectedCount s .tb)

/-- ADPLL_WINDOW_END (R90, R92, R100): a lock window ends with its count, mean phase error and mean tuning word. Any window beyond ±8
counts declares unlock; of the `TB` ADPLL one beyond ±1,000 ppm declares OSCIN lost, which takes precedence (R101). -/
def execAdpllWindowEnd (dt : Nat) (n : Fin 4) (cnt : Nat) (phaseErrPs : Int) (meanTune : Nat) (s : State) :
    Host.Outcome State Fault Refusal :=
  act dt (fun s =>
    let a := s.pll.adpll[n]
    if s.pll.oscinPresent && (a.st == .qualifying || a.st == .locked) then
      let r := targetRole s.pll n
      let d : Rat := (cnt : Rat) - expectedCount s r
      let inLock := decide (-2 ≤ d ∧ d ≤ 2)
      let out := decide (d < -8 ∨ 8 < d)
      let s := modPll (modAdpll n fun a => { a with
        countDev := nearestOf d, phaseErr := phaseErrPs,
        tune := meanTune % 2 ^ 24, windows := if inLock then min 4 (a.windows + 1) else 0 }) s
      let s := tallySample 9 n.val phaseErrPs s
      let s := if countLost s n d then loseOscin s
        else if out then declareUnlock n s
        else if a.st == .qualifying && inLock && a.windows + 1 == 4 then qualified n s else s
      if (s.pll.adpll[n]).st == .locked then
        let s := modPll (modAdpll n fun a => { a with saved := some (meanTune % 2 ^ 24) }) s
        match roleOf s.pll n with
        | some r => modPll (saveWord r (meanTune % 2 ^ 24)) s
        | none => s
      else s
    else s) s

/-- ADPLL_FAST_UNLOCK (R91, R101): a phase error beyond ±2 ns, or no DCO edge for 4 ns. Where OSCIN has stopped and
its loss is about to be declared (the detection interval of R100), the unlock is declared and nothing else follows from it: not
`DIRECT` but the `DCO_HOLD` of OSCIN_LOST. -/
def execAdpllFastUnlock (dt : Nat) (n : FastUnlock) (s : State) : Host.Outcome State Fault Refusal :=
  act dt (fun s =>
    let a := s.pll.adpll[n.adpll]
    if a.st == .locked || a.st == .qualifying then
      if n.losing then noteUnlock n.adpll s else declareUnlock n.adpll s
    else s) s

/-- ADPLL_ACQUISITION_DONE (R92): the wide-band acquisition completes, and lock qualification follows. -/
def execAdpllAcquisitionDone (dt : Nat) (n : Fin 4) (s : State) : Host.Outcome State Fault Refusal :=
  act dt (fun s =>
    if (s.pll.adpll[n]).st == .acquiring && s.pll.oscinPresent then
      modPll (modAdpll n fun a => { a with st := .qualifying, windows := 0 }) s
    else s) s

/-- SPARE_TAKEOVER (R97): at the first OSCIN edge after its qualification the spare takes over the role; the old ADPLL
leaves it and retries. For `TB` the timebase leaves DIRECT with no step. -/
def execSpareTakeover (dt : Nat) (s : State) : Host.Outcome State Fault Refusal :=
  act dt (fun s =>
    match s.pll.incoming with
    | some (r, n) =>
      if (s.pll.adpll[n]).st == .locked then
        let old := adpllOf s.pll r
        let wasUnfilled := !filled s.pll r
        let s := modPll (fun p =>
          let p := modAdpll old (fun a =>
            if a.st == .retired || bitAt s.dress.retired[4] old.val then { a with st := .retired, held := false, pulling := false }
            else { a with st := .off, windows := 0, held := false, pulling := false }) p
          { setRole r n p with incoming := none, unfilled := p.unfilled.filter fun x => x != r }) s
        let s := if wasUnfilled && r == .ck then outputsMode s else s
        let s := modPll (saveWord r (s.pll.adpll[n]).tune) s
        match r with
        | .tb => tbQualified s
        | .ck => ckQualified s
        | .sd => s
      else s
    | none => s) s

/-- A retry of R98: an ADPLL in word hold pulls in from its held word, and one that left its role acquires again. Each retry is
counted (R453). -/
def retryAdpll (n : Fin 4) (s : State) : State :=
  let a := s.pll.adpll[n]
  if !s.pll.oscinPresent then s
  else if a.st == .wordHold then
    modPll (modAdpll n fun a => { a with st := .qualifying, windows := 0, retries := a.retries + 1 }) s
  else if a.st == .qualifying && a.held then
    modPll (modAdpll n fun a => { a with windows := 0, retries := a.retries + 1 }) s
  else if (roleOf s.pll n).isNone && s.pll.spare != some n && (s.pll.incoming.map (·.2)) != some n && a.st != .retired then
    modPll (fun p => modAdpll n (fun a => { a with retries := a.retries + 1 }) (startAdpll n .tb p)) s
  else s

/-- OSCIN_LOST (R100): no rising edge for four nominal periods. -/
def execOscinLost (dt : Nat) (s : State) : Host.Outcome State Fault Refusal := act dt loseOscin s

/-- OSCIN_RESTORED (R103): present for 1 ms within ±0.5 %; each ADPLL pulls in from its held word. -/
def execOscinRestored (dt : Nat) (s : State) : Host.Outcome State Fault Refusal :=
  act dt (fun s =>
    if s.pll.oscinPresent || !(s.pll.tbState == .dcoHold || s.pll.tbState == .freeRun) then s
    else emit 0x0407 (modPll (fun p => { p with
      oscinPresent := true
      adpll := p.adpll.map fun a => if a.st == .dcoHold then { a with st := .qualifying, windows := 0, pulling := true } else a }) s)) s

/-- OSCIN_RESTORE_TIMEOUT (R103): 1 ms after the restoration an ADPLL of a role has not qualified; it is treated as one
declared unlocked (log entry 22). -/
def execOscinRestoreTimeout (dt : Nat) (n : Fin 4) (s : State) : Host.Outcome State Fault Refusal :=
  act dt (fun s =>
    if s.pll.oscinPresent && (s.pll.adpll[n]).pulling && (s.pll.adpll[n]).st == .qualifying && (roleOf s.pll n).isSome then
      loseLock n s
    else s) s

/-- The accepted OSCIN frequencies in the order of `OSCIN_DETECTED` (R84, R108). -/
def oscinFreqs : List Nat := [10000000, 20000000, 25000000, 38880000, 40000000]

/-- The code of the accepted frequency within ±0.5 % of a measurement (R85). -/
def matchOscin (hz : Nat) : Option Nat :=
  (List.range 5).find? fun i => let f := oscinFreqs.getD i 0; decide (200 * hz ≤ 201 * f ∧ 199 * f ≤ 200 * hz)

/-- The `ADPLL0_RATIO` of an accepted frequency (R106). -/
def ratioOf (code : Nat) : Nat :=
  let r (n num d : Nat) : Nat := n * 2 ^ 32 + num * 2 ^ 16 + d
  match code with
  | 0 => r 500 0 1
  | 1 => r 250 0 1
  | 2 => r 200 0 1
  | 3 => r 128 146 243
  | _ => r 125 0 1

/-- OSCIN_DETECT (R85, R104): the count of OSCIN cycles over 32 RTC cycles; with the RTC stopped there is no count, and `OSCIN_MEAS_HZ`
reads 0 (DESIGN CHOICE, log entry 78). With OSCIN absent the timebase runs in
`FREE_RUN`; otherwise `TB` goes on to lock at the ratio of the detected frequency. -/
def execOscinDetect (dt cycles : Nat) (rtcRunning : Bool) (s : State) : Host.Outcome State Fault Refusal :=
  act dt (fun s =>
    if !s.pll.detectDue then s
    else
      let hz := if rtcRunning then cycles * 1024 else 0
      let m := if rtcRunning then matchOscin hz else none
      let s := modPll (fun p => { p with
        detectDue := false, measHz := hz % 2 ^ 32, detectValid := m.isSome, detected := m.getD 7, oscinPresent := decide (0 < cycles)
        oscin := match m with
          | some i => { p.oscin with oscinFreq := oscinFreqs.getD i 10000000, adpll0Ratio := ratioOf i }
          | none => p.oscin }) s
      if 0 < cycles || s.pll.unfilled.contains .tb then s
      else
        modPll (fun p => { p with
          tbState := .freeRun, oscFault := true, holdSince := s.clk, unfollowed := [.sd, .ck]
          adpll := Vector.ofFn fun n =>
            let a := p.adpll[n]
            if a.st == .off || a.st == .retired then a
            else { a with st := .dcoHold, windows := 0, tune := Config.centreWord n.val % 2 ^ 24 } })
          { s with gov := { s.gov with needQualify := true } }) s

end Sys2Proof.Machine
end

