-- ==== Sys2Proof/Machine/Spares.lean ====
section
/-!
DEFINITION. The Dresser's bookkeeping that other commands use: reserves, retirement, probations, and the removal of a Millstone
(17_wear_and_spares.md, 11_millstone_core_and_arbitration.md).
-/

namespace Sys2Proof.Machine

/-- The Dresser changed. -/
def modDress (f : Dresser → Dresser) (s : State) : State := { s with dress := f s.dress }

/-- The active Dresser record. -/
def dressCfg (s : State) : DresserConfigRec := s.cfg.b11

/-- Units of a kind (R450). -/
def unitsOf (k : Nat) : Nat :=
  match k with
  | 0 => 40
  | 1 => 52
  | 2 => 18432
  | 3 => 12
  | 4 => 4
  | 5 => 32
  | 6 | 7 => 5
  | _ => 2

/-- Units of a kind needed in service (R450). -/
def neededOf (k : Nat) : Nat :=
  match k with
  | 1 => 48
  | 2 => 16384
  | 4 => 3
  | 5 => 28
  | 6 | 7 => 4
  | _ => 1

/-- Retired units of a kind: bit n for unit n. -/
def retiredMap (s : State) (k : Fin 12) : Nat := s.dress.retired[k]

/-- The wear reserve of a kind (R451). -/
def reserveOf (s : State) (k : Fin 12) : Nat :=
  match k.val with
  | 0 => (allMs.filter fun m => (s.core.ms[m]).st == .spare).length
  | 3 => (spareCells s).length
  | v => unitsOf v - popCount (unitsOf v) (retiredMap s k) - neededOf v

/-- Spares of a kind at manufacture (R450, R451). -/
def sparesMade (s : State) (k : Fin 12) : Nat :=
  match k.val with
  | 0 => s.cfg.b0B.core.msSpare
  | 3 => 3
  | v => unitsOf v - neededOf v

/-- A reserve in per cent of the spares at manufacture (R451). With none the manual gives no value (log entry 16). -/
def pctOf (made n : Nat) : Nat := if made = 0 then Config.freeNat 11 % 101 else 100 * n / made

/-- `RSVk_PCT` (R451). -/
def reservePct (s : State) (k : Fin 12) : Nat := pctOf (sparesMade s k) (reserveOf s k)

/-- The retired maps, the stress age and the reserve counts as retention RAM holds them (R452). -/
def mapsOf (s : State) : MapsItem :=
  { retired := s.dress.retired, stressAge := s.dress.stressAge, reserves := Vector.ofFn fun k => reserveOf s k }

/-- They go there (R452). -/
def keepMaps (s : State) : State := { s with pd0 := { s.pd0 with maps := keep (mapsOf s) s.pd0.maps } }

/-- The reserve of a kind has changed (R451, R452): its events, and the maps kept. -/
def checkReserve (k : Fin 12) (s : State) : State :=
  let low := decide (reservePct s k ≤ 25)
  let out := reserveOf s k == 0
  let wasLow := bitAt s.dress.lowIssued k.val
  let wasOut := bitAt s.dress.exhaustedIssued k.val
  let mark (b was : Bool) (n : Nat) := if b then (if was then n else n + 2 ^ k.val) else (if was then n - 2 ^ k.val else n)
  let s := modDress (fun d => { d with
    lowIssued := mark (low || wasLow) wasLow d.lowIssued, exhaustedIssued := mark out wasOut d.exhaustedIssued }) s
  let s := if low && !wasLow then emit 0x1109 s k.val else s
  keepMaps (if out && !wasOut then emit 0x110A s k.val else s)

/-- An operation from `s0` to `s` may have changed a reserve: if so, as `checkReserve`. -/
def reserveMoved (k : Fin 12) (s0 s : State) : State := if reserveOf s k = reserveOf s0 k then s else checkReserve k s

/-- A unit is marked retired, with event 0x1102 and the reserve's events (R456). -/
def retireUnit (k : Fin 12) (u : Nat) (s : State) : State :=
  if bitAt (retiredMap s k) u then s
  else
    let s := modDress (fun d => { d with retired := d.retired.set k (d.retired[k] + 2 ^ u) }) s
    checkReserve k (emit 0x1102 (count 0x110090 s) k.val u)

/-- One probation changed. -/
def modProbation (k : Fin 4) (p : Option Probation) : State → State := modDress fun d => { d with probations := d.probations.set k p }

/-- The lowest-numbered spare (R457). -/
def lowestSpare (s : State) : Option (Fin 40) := allMs.find? fun m => (s.core.ms[m]).st == .spare

/-- A Millstone is worn. -/
def msWorn (s : State) (m : Fin 40) : Bool := bitAt s.dress.worn[0] m.val

/-- The partner of a new probation (R457): the lowest-numbered in-service unit neither worn nor a partner. -/
def nextPartner (s : State) : Option (Fin 40) :=
  allMs.find? fun m => (s.core.ms[m]).st == .inService && !msWorn s m &&
    s.dress.probations.toList.all fun p => (p.map (·.partner)) != some m

/-- Probations running. -/
def probationsRunning (s : State) : Nat := (s.dress.probations.toList.filter (·.isSome)).length

/-- A probation started for a unit to be replaced, or for an addition (R457, step 1). -/
def beginProbation (worn : Option (Fin 40)) (s : State) : Option State :=
  match lowestSpare s, nextPartner s, (List.finRange 4).find? fun k => (s.dress.probations[k]).isNone with
  | some u, some p, some k =>
    if probationsRunning s < (dressCfg s).maxProbations then
      let pr : Probation := { unit := u, partner := p, worn := worn, since := s.clk }
      some (checkReserve 0 (emit 0x1103 (modProbation k (some pr) (modMs u (fun x => { x with st := .probation }) s)) 0 u.val))
    else none
  | _, _, _ => none

/-- Probations are started for what waits, while `MAX_PROBATIONS`, spares and partners allow (R457 to R459): units to be replaced, worn
or faulted, in ascending order, then additions. -/
def startProbations : Nat → State → State
  | 0, s => s
  | n + 1, s =>
    match s.dress.toReplace with
    | u :: r =>
      match beginProbation (some (Fin.ofNat 40 u)) s with
      | some t => startProbations n (modDress (fun d => { d with toReplace := r }) t)
      | none => s
    | [] =>
      if s.dress.toAdd = 0 then s
      else match beginProbation none s with
        | some t => startProbations n (modDress (fun d => { d with toAdd := d.toAdd - 1 }) t)
        | none => s

/-- See `startProbations`: at most four can start at once. -/
def settleProbations (s : State) : State := startProbations 4 s

/-- What a probation was for waits again, in its place (R459, R463). -/
def waitAgain (p : Probation) : State → State := modDress fun d => match p.worn with
  | some w => { d with toReplace := insertNat w.val d.toReplace }
  | none => { d with toAdd := d.toAdd + 1 }

/-- A probation fails (R459): its spare is retired, and the next one starts. -/
def failProbation (k : Fin 4) (s : State) : State :=
  match s.dress.probations[k] with
  | none => s
  | some p =>
    let s := emit 0x1105 (count 0x110091 s) 0 p.unit.val
    let s := modProbation k none (modMs p.unit (fun x => { x with st := .retired }) s)
    let s := retireUnit 0 p.unit.val s
    settleProbations (waitAgain p s)

/-- Comparisons that match, counted up to 65,536 (R457). -/
def countComparisons (k : Fin 4) (n : Nat) (s : State) : State :=
  match s.dress.probations[k] with
  | none => s
  | some p => modProbation k (some { p with done := min 65536 (p.done + n) }) s

/-- The probation a Millstone is the partner of, while comparisons are still wanted (R457). -/
def probationOf (s : State) (m : Fin 40) : Option (Fin 4) :=
  (List.finRange 4).find? fun k => (s.dress.probations[k]).any fun p => p.partner == m && !p.passed && decide (p.done < 65536)

/-- A partner has taken a descriptor (R457, steps 2 and 3): its spare is given a copy, unless 16 wait for it. -/
def copyTaken (m : Fin 40) (id : Nat) (s : State) : State :=
  match probationOf s m with
  | some k => modDress (fun d => { d with probations := d.probations.set k ((d.probations[k]).map fun p =>
      if p.copies.length < 16 then { p with copies := p.copies ++ [id] } else p) }) s
  | none => s

/-- The oldest copy of a probation leaves the queue, compared. -/
def popCopy (k : Fin 4) : State → State := modDress fun d => { d with
  probations := d.probations.set k ((d.probations[k]).map fun p => { p with copies := p.copies.tail }) }

/-- The oldest copy that waits is of a descriptor its partner still works on. -/
def copyHeld (s : State) (m : Fin 40) (p : Probation) : Bool :=
  p.copies.head?.all fun id => ((s.core.ms[m]).front.any fun f => f.1.id == id) || ((s.core.ms[m]).back.any fun f => f.1.id == id)

/-- Comparisons that the Dresser has made of a partner's answers with its spare's, oldest copy first (R457, step 3): of copies in the
queue, whose descriptors the partner has done with. -/
def compareAnswer (m : Fin 40) : List Bool → State → State
  | [], s => s
  | r :: l, s =>
    match probationOf s m with
    | none => s
    | some k =>
      if (s.dress.probations[k]).all (copyHeld s m) then s
      else if r then compareAnswer m l (countComparisons k 1 (popCopy k s))
      else failProbation k s

/-- Probations of a partner that faulted or became worn restart from zero with a new partner (R463). -/
def repartner (m : Fin 40) (s : State) : State :=
  (List.finRange 4).foldl (fun s k =>
    match s.dress.probations[k] with
    | some p =>
      if p.partner == m && !p.passed then
        match nextPartner s with
        | some q => modProbation k (some { p with partner := q, done := 0, since := s.clk, copies := [] }) s
        | none => waitAgain p (checkReserve 0 (modProbation k none (modMs p.unit (fun x => { x with st := .spare }) s)))
      else s
    | none => s) s

/-- The Millstone holds a port between the frames of its pair: it requests nothing of a lower rank (R287). -/
def holdsPort (s : State) (m : Fin 40) : Bool := s.ports.toList.any fun q => q.hold == some m.val

/-- Requesters that wait on a bank, by rising number (R282): Millstones, and the Dresser while it copies the bank (R460). -/
def bankRequests (s : State) (b : Fin 48) : List (Nat × Cls) :=
  (allMs.filterMap fun m =>
    match (s.core.ms[m]).front with
    | some (j, .state ((c, _) :: _)) => if c == b && msCounts s.core.ms[m] && !holdsPort s m then some (m.val, j.cls) else none
    | _ => none) ++
  (if (s.garner.bank[b]).migrating.isSome && (s.garner.bank[b]).holder != some 40 && !(s.garner.bank[b]).susp.contains 40 then
    [(40, .general)] else [])

/-- The class under which a requester holds or waits on a bank: its answer's, or GENERAL for the Dresser (R282). -/
def requesterCls (s : State) (n : Nat) : Cls :=
  if h : n < 40 then
    match (s.core.ms[(⟨n, h⟩ : Fin 40)]).front with
    | some (j, _) => j.cls
    | none => .general
  else .general

/-- The record that a requester of a bank addresses, none for the Dresser. -/
def recordWanted (s : State) (n : Nat) : Option Nat :=
  if h : n < 40 then
    match (s.core.ms[(⟨n, h⟩ : Fin 40)]).front with
    | some (_, .state ((_, i) :: _)) => some i
    | _ => none
  else none

/-- A record is between its read-for-update and its write beat, its holder suspended or not: that pair is not split (R286, R295). -/
def underUpdate (s : State) (b : Fin 48) (i : Nat) : Bool := (s.garner.bank[b]).shadow.any fun e => e.record == i

/-- The requests a bank can grant: those whose record is under no update. -/
def bankEligible (s : State) (b : Fin 48) : List (Nat × Cls) :=
  (bankRequests s b).filter fun r => !(recordWanted s r.1).any (underUpdate s b)

/-- All that a bank has to grant next: its requests, and the holders it has suspended. -/
def bankWaiting (s : State) (b : Fin 48) : List (Nat × Cls) :=
  bankEligible s b ++ (s.garner.bank[b]).susp.map fun n => (n, requesterCls s n)

/-- All that wait on a bank, those among them whose record is under update (R284). -/
def bankQueue (s : State) (b : Fin 48) : List (Nat × Cls) :=
  bankRequests s b ++ (s.garner.bank[b]).susp.map fun n => (n, requesterCls s n)

/-- The order of a bank's grants to all that wait on it (R284): a record under update is free again once its holder has written it. -/
def bankOrder (s : State) (b : Fin 48) : List Nat :=
  let k := s.garner.bank[b]
  let first := turnOrder 41 k.arb k.susp (bankWaiting s b)
  first ++ turnOrder 41 k.arb [] ((bankQueue s b).filter fun r => !first.contains r.1)

/-- The requester or suspended holder that a bank grants next (R283, R286). -/
def bankNext (s : State) (b : Fin 48) : Option (Nat × Cls) :=
  arbitrateAfter (s.garner.bank[b]).arb (s.garner.bank[b]).susp (bankWaiting s b)

/-- A free bank whose suspended holder is next under R283 goes back to it (R286). -/
def resumeBank (b : Fin 48) (s : State) : State :=
  match (s.garner.bank[b]).holder, bankNext s b with
  | none, some (n, c) =>
    if (s.garner.bank[b]).susp.contains n then
      let s := if h : n < 40 then chargeMs ⟨n, h⟩ s else s
      modBank b (fun k => { k with holder := some n, susp := k.susp.erase n, arb := granted k.arb c n }) s
    else s
  | _, _ => s

/-- The restores and releases of R281 for one bank: the shadow entry of a Millstone goes back over its record. -/
def restoreShadow (m : Fin 40) (b : Fin 48) (s : State) : State :=
  let s := match (s.garner.bank[b]).shadow.find? fun e => e.who == m.val with
    | some e =>
      let s := if b.val < 32 then setRate e.record { e.rate with seq := false } s
        else setGrantRec e.record { e.grant with seq := false } s
      emit 0x0B02 (count 0x0B0007 (modBank b (fun k => { k with shadow := k.shadow.filter fun e => e.who != m.val }) s)) b.val
    | none => s
  let held := (s.garner.bank[b]).holder == some m.val
  let susp := (s.garner.bank[b]).susp.contains m.val
  if held || susp then withdraw (modBank b (fun k => { k with
    holder := if held then none else k.holder, susp := k.susp.filter fun n => n != m.val }) s)
  else s

/-- A Millstone's unfilled slots pass unused (R281, step 4). -/
def voidSlots (m : Fin 40) (s : State) : State :=
  (List.finRange 8).foldl (fun s p =>
    modBook p (fun l => l.map fun b => if b.ms == m && b.job.isNone then { b with void := true } else b) s) s

/-- A Millstone is removed from service at once (R281, R458): its shadows are restored, its grants released, its answers discarded;
it is retired, and its replacement waits its turn or, where one is on probation for it already, goes on (R459, R463). -/
def removeMs (m : Fin 40) (s : State) : State :=
  let x := s.core.ms[m]
  if !msCounts x then s
  else
    let s := emit 0x0B01 (count 0x0B000A (chargeMs m s)) m.val
    let x := s.core.ms[m]
    let s := (List.finRange 48).foldl (fun s b => restoreShadow m b s) s
    let s := modMs m (fun x => { x with st := .faulted, front := none, back := none, withheld := false }) s
    let s := match x.back with
      | some (j, _) => discard j s
      | none => s
    let s := match x.front with
      | some (j, _) => discard j s
      | none => s
    let s := voidSlots m ((List.finRange 8).foldl (fun s p => leavePort m p s) s)
    let s := (List.finRange 48).foldl (fun s b => resumeBank b s) s
    let replaced := s.dress.probations.toList.any fun p => (p.bind (·.worn)) == some m
    let s := modDress (fun d => { d with
      faulted := if bitAt d.faulted[0] m.val then d.faulted else d.faulted.set 0 (d.faulted[0] + 2 ^ m.val)
      toReplace := if x.st == .inService && !replaced then insertNat m.val d.toReplace else d.toReplace }) s
    let s := retireUnit 0 m.val s
    settleProbations (repartner m s)

end Sys2Proof.Machine
end

