-- ==== Sys2Proof/Machine/Millstone.lean ====
section
/-!
DEFINITION. The commands of the core (11_millstone_core_and_arbitration.md): `TAKE`, `STATE`, `BUILD`, `COMMIT`, `FINISH`,
`DEPOSIT`, the launch, missed slots, and the removal of a Millstone.
-/

namespace Sys2Proof.Machine

/-- The Millstones that request the Hopper dequeue (R272, R282, R287, R471): those that are ungated and can take another answer, run
no known-answer vectors and hold no port. -/
def dequeueRequesters (s : State) : List Nat :=
  (allMs.filter fun m =>
    let x := s.core.ms[m]
    x.st == .inService && !x.withheld && x.front.isNone && decide (x.joinsAt ≤ s.clk) && decide (x.katUntil ≤ s.clk) && !holdsPort s m).map (·.val)

/-- The front of a Millstone set. -/
def setFront (m : Fin 40) (f : Option (Job × FrontPhase)) : State → State := modMs m fun x => { x with front := f }

/-- A descriptor is dropped by the Millstone that was granted it: a withdrawal (R285). -/
def dropTaken (j : Job) (s : State) : State := withdraw (discard j s)

/-- The age discard of R378. -/
def ageDrop (j : Job) (s : State) : State :=
  let s := samplerOccurs 10 (sampleJob s 63 j) (count (match j.cls with
    | .prec => 0x0E0014
    | .assured => 0x0E0015
    | .general => 0x0E0016) s)
  dropTaken j (emitLimited 0x0E04 0xFF s)

/-- The records of a swept block that hold an expired code (R347). -/
def sweepRecords (s : State) (block : Nat) : List (Fin 48 × Nat) :=
  ((s.garner.grant.filter fun e => e.1 / 64 == block && e.2.valid && !e.2.second && (clearStale s e.2).2 != 0).map
    fun e => (grantBank e.1, e.1))

/-- The grant a profile 2 Delay_Req is answered on is in order (R342). -/
def drespLive (s : State) (r : GrantRec) : Bool := r.valid && codeLive s r r.drespCode r.drespExp

/-- The code of a scheduled message's type is in order (R342). -/
def streamLive (s : State) (j : Job) (r : GrantRec) : Bool :=
  r.valid && (if j.kind == .announce then codeLive s r r.annCode r.annExp else codeLive s r r.syncCode r.syncExp)

/-- A descriptor in hand enters `STATE`, or what follows it (R272, R342, R347). -/
def enterState (m : Fin 40) (j : Job) (s : State) : State :=
  let go (p : FrontPhase) (j : Job) (s : State) := promote m (setFront m (some (j, p)) s)
  match j.kind with
  | .ntp | .nts =>
    if j.kod.isSome then go (.cells j.cells) j s
    else
      let i := rateIndex s j
      go (.state [(rateBank i, i)]) { j with tag := clientTag s j } s
  | .delayReq =>
    if (ptpPort s j.port).profile != 2 then go (.cells j.cells) j s
    else match findGrant s j with
      | some g => go (.state [(grantBank g, g)]) { j with grant := g } s
      | none => dropTaken j (count 0x0D0008 s)
  | .signaling =>
    match findGrant s j, freeGrant s j with
    | some g, _ => go (.state [(grantBank g, g)]) { j with grant := g } s
    | none, some g => go (.state [(grantBank g, g)]) { j with grant := g } s
    | none, none =>
      let d := decideSignaling s j none
      go (.cells j.cells) { j with reply := d.1.reply } (reportSignaling j.port d.1 s)
  | .sync | .announce =>
    if j.mcast || streamLive s j (grantRec s j.grant) then go (.cells 0) j s
    else go (.state [(grantBank j.grant, j.grant)]) { j with refused := true } s
  | .sweep =>
    match sweepRecords s j.grant with
    | [] => workDone j.cls 4 (creditWork 0 j s)
    | l => go (.state l) j s
  | .clientReq | .followUp => go (.cells 0) j s
  | .clientRx => go (.cells j.cells) j s

/-- A descriptor taken (R272): the limits of R293, R322, R337 and R378 in their order, then `STATE`. -/
def takeJob (m : Fin 40) (j : Job) (s : State) : State :=
  let stale := j.stepEpoch != s.tb.stepCount
  let ntpAnswer := j.kind == .ntp || j.kind == .nts
  if j.recommit && (decide (s.cfg.b0B.core.recommitMax ≤ j.commits) || overAge s j) then
    dropTaken j (emitOncePer 0x0B04 0xFF j.port.val (countRecommitDrop j.port s))
  else if !j.recommit && overAge s j then ageDrop j s
  else if j.recommit && ntpAnswer && stale then dropTaken j (count 0x0C0020 s)
  else if j.kind == .delayReq && stale then dropTaken j (count 0x0D000F s)
  else if j.recommit || j.relayed then promote m (setFront m (some (j, .ready)) s)
  else enterState m j s

/-- MS_TAKE (R272, R283): the Hopper dequeue arbiter grants one Millstone the oldest descriptor of the highest class. -/
def execMsTake (dt : Nat) (s : State) : Host.Outcome State Fault Refusal :=
  act dt (fun s =>
    match topClass s with
    | none => s
    | some c =>
      match roundRobin (lastOf s.core.dequeue c) (dequeueRequesters s), queueOf s c with
      | some n, j :: q =>
        let m : Fin 40 := Fin.ofNat 40 n
        let s := modCore (fun k => { k with dequeue := granted k.dequeue c n }) (setQueue c q (countIdle (chargeMs m s)))
        takeJob m j (copyTaken m j.id s)
      | _, _ => s) s

/-- The request that a read-for-update serves on a bank (R283, R286), and whether it preempts: of a free bank the next under R283; of
one whose holder is not PRECEDENCE, a PRECEDENCE requester that addresses no record under update. The Dresser's own beats are
GARNER_MIGRATION_BEAT, and a suspended holder that is next has the bank again. -/
def bankGrant (s : State) (b : Fin 48) : Option (Nat × Bool) :=
  let k := s.garner.bank[b]
  match k.holder with
  | none =>
    match bankNext s b with
    | some (n, _) => if k.susp.contains n then none else some (n, false)
    | none => none
  | some h =>
    if requesterCls s h == .prec then none
    else (arbitrate k.arb ((bankEligible s b).filter fun r => r.2 == .prec)).map fun r => (r.1, true)

/-- A bucket refusal decided (R374): a KoD RATE where the profile, the record and the budget allow it, else a drop. A neighbour's
request is refused in silence (R380). -/
def bucketRefuse (j : Job) (r : RateRec) (s : State) : Job × RateRec × State :=
  let p := s.cfg.b0E.bucket[Fin.ofNat 16 j.bkt]
  let s := count 0x0E0017 s
  if p.bktAction || r.kodSent || j.spill.isSome then ({ j with refused := true }, r, s)
  else
    let c := drawKod j.cls (if j.kind == .nts then 9 else 4) s
    if c.1 then
      let s := modWeir (fun w => { w with kodSu := w.kodSu + (if j.kind == .nts then 9 else 4) }) c.2
      ({ j with kod := some .rate, bucketKod := true }, { r with kodSent := true }, s)
    else ({ j with refused := true }, r, c.2)

/-- The read-for-update beat on a rate record: the judgement of R373, and what will be written. -/
def readRate (m : Fin 40) (b : Fin 48) (i : Nat) (rest : List (Fin 48 × Nat)) (j : Job) (s : State) : State :=
  let old := rateRec s i
  let d := judgeRate s j old
  let s := if d.fresh then count 0x0B0008 s else s
  let out := if d.accept then (j, d.rec_, s) else bucketRefuse j d.rec_ s
  let sh : Shadow := { who := m.val, record := i, rate := old, nextRate := { out.2.1 with seq := false } }
  setRate i { old with seq := true } (setFront m (some (out.1, .updating b i rest))
    (modBank b (fun k => { k with shadow := k.shadow ++ [sh] }) out.2.2))

/-- The read-for-update beat on a grant record (R342, R347, R349): the code of the message's type is cleared where it has expired,
a sweep clears every such code, and a Signaling message is decided. -/
def readGrant (m : Fin 40) (b : Fin 48) (g : Nat) (rest : List (Fin 48 × Nat)) (j : Job) (s : State) : State :=
  match j.kind with
  | .signaling =>
    let g := ((findGrant s j).orElse fun _ => freeGrant s j).getD g
    let old := grantRec s g
    let d := decideSignaling s j (if isClients j old || !old.valid then some old else none)
    let next := d.1.rec_.getD old
    let sh : Shadow := { who := m.val, record := g, grant := old, nextGrant := next }
    let s := reportSignaling j.port d.1 (countBy 0x0D0007 d.2 s)
    let was := if isClients j old then (clearStale s old).1 else {}
    let news := (if was.syncCode == 0 && next.syncCode != 0 then 1 else 0) + (if was.annCode == 0 && next.annCode != 0 then 2 else 0)
    setGrantRec g { old with seq := true } (setFront m
      (some ({ j with grant := g, reply := d.1.reply, k := news }, .updating b g rest))
      (modBank b (fun k => { k with shadow := k.shadow ++ [sh] }) s))
  | _ =>
    let old := grantRec s g
    let live := j.kind == .delayReq && drespLive s old
    let c := clearTypes s (typesFound j.kind) old
    let next := if live then old else c.1
    let s := if live then s else countBy 0x0D0007 c.2 s
    let s := if j.kind == .delayReq && !live then count 0x0D0008 s else s
    let j := { j with
      k := if j.kind == .delayReq then old.drespCode else j.k, refused := j.refused || (j.kind == .delayReq && !live) }
    let sh : Shadow := { who := m.val, record := g, grant := old, nextGrant := next }
    setGrantRec g { old with seq := true } (setFront m (some (j, .updating b g rest))
      (modBank b (fun k => { k with shadow := k.shadow ++ [sh] }) s))

/-- GARNER_READ_FOR_UPDATE (R279, R283, R286): a bank grants a requester, suspending a holder where it preempts one, and the first
beat is made. -/
def execGarnerReadForUpdate (dt : Nat) (b : Fin 48) (s : State) : Host.Outcome State Fault Refusal :=
  act dt (fun s =>
    match bankGrant s b with
    | none => s
    | some (n, preempts) =>
      if 40 ≤ n then s else
      let m : Fin 40 := Fin.ofNat 40 n
      let s := chargeMs m s
      let s := match preempts, (s.garner.bank[b]).holder with
        | true, some h =>
          let s := if h' : h < 40 then chargeMs ⟨h, h'⟩ s else s
          count 0x0B0005 (modBank b (fun k => { k with susp := h :: k.susp }) s)
        | _, _ => s
      let s := modBank b (fun k => { k with holder := some n, arb := granted k.arb (requesterCls s n) n }) s
      match (s.core.ms[m]).front with
      | some (j, .state ((_, i) :: rest)) => if b.val < 32 then readRate m b i rest j s else readGrant m b i rest j s
      | _ => s) s

/-- What follows the last write beat of an answer (R272, R347, R374). A bucket refusal costs a quarter SU and its time is
`LG_DISCARDED`; the KoD that answers one is an answer of its own. -/
def afterState (m : Fin 40) (j : Job) (s : State) : State :=
  let clear := setFront m none
  if j.kind == .sweep then workDone j.cls 4 (creditWork 0 j (clear s))
  else if j.refused then
    let s := discard j (clear s)
    if j.kind == .ntp || j.kind == .nts then workDone j.cls 1 s else s
  else if j.bucketKod then
    promote m (setFront m (some ({ j with work := [] }, .cells j.cells)) (workDone j.cls 1 (creditWork 1 j s)))
  else promote m (setFront m (some (j, .cells j.cells)) s)

/-- GARNER_WRITE_BEAT (R279, R341): the holder of a bank writes its record back with `SEQ` 0, frees its shadow entry and drops the
grant. -/
def execGarnerWriteBeat (dt : Nat) (b : Fin 48) (s : State) : Host.Outcome State Fault Refusal :=
  act dt (fun s =>
    let k := s.garner.bank[b]
    match k.holder with
    | none => s
    | some h =>
      match k.shadow.find? fun e => e.who == h with
      | none => s
      | some e =>
        let m : Fin 40 := Fin.ofNat 40 h
        let s := chargeMs m s
        let s := if b.val < 32 then setRate e.record e.nextRate s else writeGrant e.record e.nextGrant s
        let s := modBank b (fun k => { k with holder := none, shadow := k.shadow.filter fun x => x.who != h }) s
        let s := match (s.core.ms[m]).front with
          | some (j, .updating _ _ []) => afterState m j s
          | some (j, .updating _ _ rest) => setFront m (some (j, .state rest)) s
          | _ => s
        resumeBank b s) s

/-- The Millstones that wait on one of the eight cell read arbiters (R282): the region is that of the cell each reads next. -/
def cellRequests (s : State) (a : Fin 8) : List (Nat × Cls) :=
  allMs.filterMap fun m =>
    match (s.core.ms[m]).front with
    | some (j, .cells (n + 1)) =>
      if Config.cellRegion (64 * j.id + n) % 8 == a.val && !holdsPort s m then some (m.val, j.cls) else none
    | _ => none

/-- HOPPER_CELL_READ (R272, R282, R283): an arbiter grants one cell, and it is read. -/
def execHopperCellRead (dt : Nat) (a : Fin 8) (s : State) : Host.Outcome State Fault Refusal :=
  act dt (fun s =>
    match arbitrate s.core.cellArb[a] (cellRequests s a) with
    | none => s
    | some (n, c) =>
      let m : Fin 40 := Fin.ofNat 40 n
      let s := chargeMs m s
      let s := modCore (fun k => { k with cellArb := k.cellArb.set a (granted k.cellArb[a] c n) }) s
      match (s.core.ms[m]).front with
      | some (j, .cells (r + 1)) => setFront m (some (j, .cells r)) s
      | _ => s) s

/-- The message a client instance sends (R353, R354): its Signaling where the job carries TLVs, else its Delay_Req. -/
def clientMsg (s : State) (j : Job) : PtpMsg :=
  let c := s.cfg.b0D.client[j.client]
  let h : PtpMsg := { domain := c.cDomain, clockId := s.cfg.b0D.ptp.clockId, portNumber := c.cPort + 1,
                      unicast := c.cProfile == 2, seqId := j.k % 65536, logInterval := 0x7F }
  if j.reply.isEmpty then
    { h with messageType := 1, tsSec := Config.freeAt 6 s.clk % 2 ^ 48, tsNs := Config.freeAt 7 s.clk % 1000000000 }
  else
    { h with
      messageType := 0xC, tlvs := j.reply, reqClockId := Config.freeAt 12 s.clk % 2 ^ 64, reqPort := Config.freeAt 13 s.clk % 65536 }

/-- The frame of a client's message. -/
def buildClient (s : State) (j : Job) : Job := { j with out := some (clientFrame s j.client j.grant (clientMsg s j)) }

/-- An answer built (R272, R291, R408): it asks for its slot, or returns over Leat, or is dropped. Its request's cells are free. -/
def built (m : Fin 40) (j : Job) (r : BuildResult) : State :=
  let s := setFront m none r.2
  match r.1 with
  | none => discard j s
  | some a =>
    if oversize a then emit 0x0B07 (count 0x0B0009 (discard j s))
    else
      let s := freeCells j s
      let a := { a with cells := 0 }
      match a.spill with
      | some (n, h, _) =>
        let s := if a.kind == .delayReq then count 0x0D000E s else s
        workDone a.cls (jobCost s a) (creditWork 0 a (respQueue n (respFrame a h) s))
      | none => promote m (setFront m (some (a, .ready)) s)

/-- The Millstones that ask a port for a commitment (R282). -/
def commitRequests (s : State) (p : Fin 8) : List (Nat × Cls) :=
  allMs.filterMap fun m =>
    match (s.core.ms[m]).back with
    | some (j, .wantPort) => if j.port == p then some (m.val, j.cls) else none
    | _ => none

/-- The Millstones that ask a port for a deposit that can still be complete 80 ns before its t_tx (R282, R291). -/
def depositRequests (s : State) (p : Fin 8) : List (Nat × Cls) :=
  allMs.filterMap fun m =>
    match (s.core.ms[m]).back with
    | some (j, .finished ttx _) =>
      if j.port == p && decide (nowUnits s + ((80 * unitsPerNs : Nat) : Int) ≤ ttx) then some (m.val, j.cls) else none
    | _ => none

/-- All that ask a port for a grant, by rising number (R282): commitments and deposits together. -/
def portRequests (s : State) (p : Fin 8) : List (Nat × Cls) :=
  let c := commitRequests s p
  let d := depositRequests s p
  allMs.filterMap fun m => (c.find? fun r => r.1 == m.val).orElse fun _ => d.find? fun r => r.1 == m.val

/-- The Millstone that a port grants next (R283, R286): one that holds the grant between the frames of its pair goes on, unless it is not
PRECEDENCE and PRECEDENCE waits at this break point. -/
def portNext (s : State) (p : Fin 8) : Option (Nat × Cls) :=
  let l := portRequests s p
  match (s.ports[p]).hold.bind fun h => l.find? fun r => r.1 == h with
  | some r => if r.2 != .prec && l.any (fun x => x.2 == .prec) then arbitrateAfter (s.ports[p]).arb (s.ports[p]).susp l else some r
  | none => arbitrateAfter (s.ports[p]).arb (s.ports[p]).susp l

/-- A port grants a Millstone (R283, R286): a holder of the grant that is still to deposit is suspended for it, and counted. -/
def portGrant (p : Fin 8) (n : Nat) (c : Cls) (s : State) : State :=
  let q := s.ports[p]
  let preempted := q.hold.filter fun h => h != n && (portRequests s p).any fun r => r.1 == h
  let s := if preempted.isSome then count 0x0B0005 s else s
  modPort p (fun q => { q with arb := granted q.arb c n, hold := none, susp := preempted.toList ++ q.susp.erase n }) s

/-- The back of a Millstone set. -/
def setBack (m : Fin 40) (b : Option (Job × BackPhase)) : State → State := modMs m fun x => { x with back := b }

/-- An answer in `COMMIT` to `DEPOSIT` is dropped, and its Millstone goes on. -/
def dropBack (m : Fin 40) (j : Job) (s : State) : State := promote m (setBack m none (withdraw (discard j s)))

/-- A slot booked for an answer (R289). -/
def bookSlot (m : Fin 40) (p : Fin 8) (j : Job) (len : Nat) (ttx : Units) (follow : Bool) (s : State) : State :=
  let b : Booking := { ttx := ttx, t3 := ttx + latTx s p * (unitsPerPs : Int), start := slotStart s p ttx,
                       stop := slotStop s p len ttx, ms := m, cls := j.cls, prio := (framePrio s p (j.out.getD {})).val,
                       jobId := j.id, isFollow := follow, direct := s.pll.tbState == .direct
                       normal := s.pll.tbState == .normal && !follow && j.kind != .clientReq }
  modBook p (bookSorted b) s

/-- A frame's line time (R290), its preamble and the gap after it included. -/
def lineTime (s : State) (p : Fin 8) (len : Nat) : Units := ((len + 20 : Nat) : Int) * byteTime s p

/-- The slots of a commitment (R289): of the answer, and after it of a two-step Sync's Follow_Up, each its length and t_tx. -/
def slotsFor (s : State) (p : Fin 8) (grid lo : Units) (j : Job) : List (Nat × Units) :=
  let len := (j.out.getD {}).len
  let ttx := earliestSlot s p grid len lo
  (len, ttx) :: match j.follow with
    | some f => [(f.len, earliestSlot s p grid f.len (slotStop s p len ttx + 8 * byteTime s p))]
    | none => []

/-- PRECEDENCE frames that would exceed the share of R290, judged one after the other. -/
def sharePassed (s : State) (p : Fin 8) : List (Nat × Units) → List (Units × Units) → Bool
  | [], _ => false
  | (len, t) :: r, l => overShare l t (lineTime s p len) || sharePassed s p r ((t, lineTime s p len) :: l)

/-- A commitment made (R289, R290): its slots are booked, in their order, and T3 is the first one's. -/
def commitAt (m : Fin 40) (p : Fin 8) (j : Job) (slots : List (Nat × Units)) (beyond : Bool) (s : State) : State :=
  let ttx := (slots.head?.map (·.2)).getD 0
  let s := if beyond then emitOncePer 0x0B06 0xFF p.val (count (0x0B0098 + p.val) s) else s
  let s := slots.zipIdx.foldl (fun s e => bookSlot m p j e.1.1 e.1.2 (e.2 != 0) s) s
  let s := if j.cls == .prec then modPort p (fun q => { q with
      precDone := slots.foldl (fun l e => (e.2, lineTime s p e.1) :: l)
        (q.precDone.filter fun e => decide (nowUnits s - (unitsPerSec : Int) < e.1)) }) s
    else s
  setBack m (some ({ j with commits := j.commits + 1 }, .finish ttx (ttx + latTx s p * (unitsPerPs : Int)))) s

/-- The commitment a port grants (R289, R290, R293). Condition 4 holds for every frame of an answer that is not PRECEDENCE, or that
would exceed the share; a commitment that cannot meet it is refused until a retry can. -/
def commitGranted (m : Fin 40) (p : Fin 8) (grid : Units) (j : Job) (s : State) : State :=
  if !(s.ports[p]).link then dropBack m j s
  else if decide (s.cfg.b0B.core.recommitMax ≤ j.commits) || overAge s j then
    dropBack m j (emitOncePer 0x0B04 0xFF p.val (countRecommitDrop p s))
  else
    let lead := nowUnits s + ((400 * unitsPerNs : Nat) : Int)
    let lo := match pauseEnd s p (framePrio s p (j.out.getD {})) with
      | some e => max lead e
      | none => lead
    let slots := slotsFor s p grid lo j
    let beyond := j.cls == .prec && sharePassed s p slots (s.ports[p]).precDone
    let ahead : Units := ((s.cfg.b0B.core.bookAheadNs * unitsPerNs : Nat) : Int)
    let stop := slots.foldl (fun _ e => slotStop s p e.1 e.2) lead
    if (j.cls != .prec || beyond) && decide (lead + ahead < stop) then
      setBack m (some (j, .holdOff (stop - ahead - ((400 * unitsPerNs : Nat) : Int)))) s
    else commitAt m p j slots beyond s

/-- LAUNCH_COMMIT (R283, R289, R290): a port whose next grant is a commitment grants it. `grid` is an observed point of its launch grid (R244). -/
def execLaunchCommit (dt : Nat) (p : Fin 8) (grid : Units) (s : State) : Host.Outcome State Fault Refusal :=
  act dt (fun s =>
    let s := dropPassed p s
    match portNext s p with
    | none => s
    | some (n, c) =>
      let m : Fin 40 := Fin.ofNat 40 n
      match (s.core.ms[m]).back with
      | some (_, .wantPort) =>
        let s := portGrant p n c (chargeMs m s)
        match (s.core.ms[m]).back with
        | some (j, _) => commitGranted m p grid j s
        | none => s
      | _ => s) s

/-- COMMIT_RETRY (R289): the instant the Tailrace returned has come, and the Millstone asks again. -/
def execCommitRetry (dt : Nat) (m : Fin 40) (s : State) : Host.Outcome State Fault Refusal :=
  act dt (fun s =>
    match (s.core.ms[m]).back with
    | some (_, .holdOff t) =>
      if t ≤ nowUnits s then
        let s := chargeMs m s
        modMs m (fun x => { x with back := x.back.map fun b => (b.1, .wantPort) }) s
      else s
    | _ => s) s

/-- The commitment of an answer was made while the timebase was in `DIRECT` (R94). -/
def committedDirect (s : State) (j : Job) : Bool :=
  (s.ports[j.port]).book.any fun b => b.jobId == j.id && !b.isFollow && b.direct

/-- MS_FINISH (R291, R302, R304, R320, R337): T3, the checksum and any authenticator are written. -/
def execMsFinish (dt : Nat) (m : Fin 40) (s : State) : Host.Outcome State Fault Refusal :=
  act dt (fun s =>
    match (s.core.ms[m]).back with
    | some (_, .finish ttx t3) =>
      let s := chargeMs m s
      match (s.core.ms[m]).back with
      | some (j, _) =>
        let r := finishJob j t3 (committedDirect s j) s
        setBack m (some (r.1, .finished ttx t3)) r.2
      | none => s
    | _ => s) s

/-- A frame put into the first slot of its answer that has none. -/
def fillSlot (j : Job) : List Booking → List Booking
  | [] => []
  | b :: r => if b.jobId == j.id && b.job.isNone then { b with job := some j } :: r else b :: fillSlot j r

/-- A frame deposited (R291), the Millstone's work with it. -/
def depositFrame (p : Fin 8) (j : Job) (s : State) : State := workDone j.cls (jobCost s j) (modBook p (fillSlot j) s)

/-- The t_tx of the Follow_Up that an answer has booked. -/
def followTtx (s : State) (p : Fin 8) (j : Job) : Units :=
  (((s.ports[p]).book.find? fun b => b.jobId == j.id && b.isFollow).map (·.ttx)).getD 0

/-- MS_DEPOSIT (R283, R286, R291, R457): a port whose next grant is a deposit grants it, and one frame is deposited. After the first frame
of a pair the Millstone holds the grant for its Follow_Up: the end of each frame is a break point. `probation` is what the comparisons
that the Dresser has made by then have shown, where the depositor is a partner. -/
def execMsDeposit (dt : Nat) (p : Fin 8) (probation : List Bool) (s : State) : Host.Outcome State Fault Refusal :=
  actPd0 dt (fun s =>
    match portNext s p with
    | none => s
    | some (n, c) =>
      let m : Fin 40 := Fin.ofNat 40 n
      match (s.core.ms[m]).back with
      | some (_, .finished _ _) =>
        let s := portGrant p n c (chargeMs m s)
        match (s.core.ms[m]).back with
        | some (j, _) =>
          let s := depositFrame p j s
          if j.follow.isSome then
            let t := followTtx s p j
            let s := modPort p (fun q => { q with hold := some n }) s
            setBack m (some (followJob j, .finished t (t + latTx s p * (unitsPerPs : Int)))) s
          else compareAnswer m probation (promote m (setBack m none s))
        | none => s
      | _ => s) s

/-- The client's own Delay_Req has left (R353): its t3 is the committed T3. -/
def noteDreq (j : Job) (b : Booking) (s : State) : State :=
  if j.kind == .clientReq && j.reply.isEmpty then
    { s with cli := s.cli.set j.client (let c := s.cli[j.client]
      { c with dreqs := c.dreqs.map fun d => if d.seqId == j.k % 65536 then { d with t3 := some b.t3 } else d }) }
  else s

/-- What a launch is recorded, counted and sampled as (R243, R298, R329, R365, R427, R433). -/
def launched (p : Fin 8) (b : Booking) (j : Job) (s : State) : State :=
  let f := j.out.getD {}
  let s := modPort p (fun q => { q with crossing := some (b.ttx + (f.len : Int) * byteTime s p) }) s
  let s := recordTx p (openPoint s) (put (.frame p f (some b.ttx)) (count (0x0A0030 + p.val) s))
  let s := if b.normal && degradedNow s then count 0x040014 s else s
  if j.kind == .followUp || j.kind == .clientReq then noteDreq j b (creditWork 0 j s)
  else
    let ps : Int := (b.ttx - tRxOf s j) / (unitsPerPs : Int)
    let s := tallySample 2 p.val ps (tallySample 1 (clsCode j.cls) ps (countLaunched j s))
    let r := { sampleJob s b.ms.val j with
      latencyPs := fitU 32 ps.toNat, stamp := stampOf b.ttx (degradedNow s) }
    let s := samplerOccurs 5 r s
    let s := if j.cls == .prec then samplerOccurs 6 r s else s
    let s := if j.kod == some .rate || j.kod == some .deny || j.kod == some .ntsn then samplerOccurs 8 r s else s
    creditWork 0 j s

/-- The arbiters of R282. -/
inductive ArbiterId
  | dequeue
  | bank (b : Fin 48)
  | cells (a : Fin 8)
  | port (p : Fin 8)

/-- The classes of the descriptors queued, in the order of their dequeue (R283). -/
def queuedClasses (s : State) : List Cls := (s.core.precQ ++ s.core.assuredQ ++ s.core.generalQ).map (·.cls)

/-- The order in which the Millstones that wait on the dequeue will be granted: each grant is of the next descriptor's class; past the last
descriptor the next is taken as GENERAL (log entry 84). -/
def dequeueOrder : Nat → Arbiter → List Cls → List Nat → List Nat
  | 0, _, _, _ => []
  | k + 1, a, cs, w =>
    let c := cs.head?.getD .general
    match roundRobin (lastOf a c) w with
    | none => []
    | some n => n :: dequeueOrder k (granted a c n) cs.tail (w.erase n)

/-- The order in which an arbiter will grant those that wait on it now (R284). The suspended holders of a bank wait as well. -/
def waitOrder (s : State) (a : ArbiterId) : List Nat :=
  match a with
  | .dequeue => dequeueOrder 40 s.core.dequeue (queuedClasses s) (dequeueRequesters s)
  | .bank b => bankOrder s b
  | .cells a => turnOrder 40 s.core.cellArb[a] [] (cellRequests s a)
  | .port p => turnOrder 40 (s.ports[p]).arb (s.ports[p]).susp ((portRequests s p).filter fun r => (s.ports[p]).hold != some r.1)

/-- The turn hint an arbiter gives a requester (R284), a Millstone or the Dresser (40), none where it does not wait there. It stands for the
grants up to now: each grant and each new request changes it. -/
def hintOf (s : State) (a : ArbiterId) (m : Fin 41) : Option Nat := turnHint (waitOrder s a) m.val

/-- The Millstone has stopped its handshakes with an arbiter (R284): its hint is 4 or more. -/
def handshakesStopped (s : State) (a : ArbiterId) (m : Fin 40) : Bool := (hintOf s a m.castSucc).any fun h => decide (4 ≤ h)

/-- What a Millstone prefetches. -/
inductive Prefetch
  | record (bank : Fin 48) (record : Nat)
  | cell (left : Nat)
deriving DecidableEq, Repr

/-- The record or cell that a Millstone prefetches (R284): at a hint of 3 or less, the one its front needs next. -/
def prefetched (s : State) (m : Fin 40) : Option Prefetch :=
  let near (a : ArbiterId) := (hintOf s a m.castSucc).any fun h => decide (h ≤ 3)
  match (s.core.ms[m]).front with
  | some (_, .state ((b, i) :: _)) => if near (.bank b) then some (.record b i) else none
  | some (j, .cells (n + 1)) => if near (.cells (Fin.ofNat 8 (Config.cellRegion (64 * j.id + n)))) then some (.cell n) else none
  | _ => none

/-- LAUNCH (R16, R289): the frame in the port's next slot leaves at its committed instant. A slot that passes unused launches
nothing. -/
def execLaunch (dt : Nat) (p : Fin 8) (s : State) : Host.Outcome State Fault Refusal :=
  act dt (fun s =>
    let s := dropPassed p s
    match (s.ports[p]).book with
    | b :: r =>
      match b.job with
      | some j => if instantCome s b.ttx then sendWaiting p (launched p b j (modBook p (fun _ => r) s)) else s
      | none => s
    | [] => s) s

/-- SLOT_MISSED_LATE (R292): 80 ns before its t_tx a slot has no complete frame. -/
def execSlotMissedLate (dt : Nat) (p : Fin 8) (s : State) : Host.Outcome State Fault Refusal :=
  act dt (fun s =>
    match (s.ports[p]).book.find? fun b => b.job.isNone && !b.void with
    | some b =>
      if b.ttx ≤ nowUnits s + ((80 * unitsPerNs : Nat) : Int) then
        missSlot .park p b (emitLimited 0x0B03 p.val (count (0x0B0080 + p.val) s))
      else s
    | none => s) s

/-- PARK_RELEASE (R292): the oldest answer held in the park for a port whose pause has at most 400 ns to run is offered again. -/
def execParkRelease (dt : Nat) (p : Fin 8) (s : State) : Host.Outcome State Fault Refusal :=
  act dt (fun s =>
    match s.core.park.find? fun j => j.port == p && !longPause s p (framePrio s p (j.out.getD {})) with
    | some j => offerRecommit j (modCore (fun c => { c with park := c.park.erase j }) s)
    | none => s) s

/-- The Millstone holds a grant (R281): a bank's, or a port's between the frames of a pair; every other grant is one handshake. -/
def holdsGrant (s : State) (m : Fin 40) : Bool :=
  (s.garner.bank.toList.any fun b => b.holder == some m.val) || s.ports.toList.any fun q => q.hold == some m.val

/-- MS_HUNG (R281): a Millstone has held a grant for 2 µs without a handshake. -/
def execMsHung (dt : Nat) (m : Fin 40) (s : State) : Host.Outcome State Fault Refusal :=
  actPd0 dt (fun s => if holdsGrant s m then removeMs m s else s) s

/-- MS_FAULT (R281): a Millstone has faulted, or the Dresser resets it. -/
def execMsFault (dt : Nat) (m : Fin 40) (s : State) : Host.Outcome State Fault Refusal := actPd0 dt (removeMs m) s

/-- SPILL_TIMEOUT (R288, R379): a spilled request has had no answer for 20 µs. -/
def execSpillTimeout (dt : Nat) (h : Nat) (s : State) : Host.Outcome State Fault Refusal :=
  act dt (fun s =>
    match s.core.pendingSpills.find? fun e => e.handle == h with
    | some e =>
      let s := modCore (fun c => { c with pendingSpills := c.pendingSpills.erase e }) s
      emitLimited 0x0E08 0xFF (count 0x0E001D (discard e.job s))
    | none => s) s

/-- RESP_CREDIT_TIMEOUT (R288, R410): the `RESP` frame that has waited longest on a link is discarded. -/
def execRespCreditTimeout (dt : Nat) (n : Fin 4) (s : State) : Host.Outcome State Fault Refusal :=
  act dt (fun s =>
    match s.leat.respWait.find? fun w => w.link == n with
    | some w => count 0x0F0009 (modLeat (fun l => { l with respWait := l.respWait.erase w }) s)
    | none => s) s

end Sys2Proof.Machine
end

