-- ==== Sys2Proof/Machine/Admission.lean ====
section
/-!
DEFINITION. The Sluice: the checks of a received frame, classes, meters, spilling, the Weir's meters and the Hopper reservation,
and the NTP request (10_ports_and_timestamp_points.md, 12_ntp_and_nts.md, 14_classes_admission_overload.md).
-/

namespace Sys2Proof.Machine

/-- The MAC address is a group address. -/
def groupMac (a : Nat) : Bool := bitAt a 40

/-- The serving addresses bound to a port. -/
def boundAddrs (s : State) (p : Fin 8) : List ServingAddrRec :=
  (s.cfg.b0A.addr.filter fun e => bitAt e.2.addrPorts p.val).map (·.2)

/-- The address of a record as a number. -/
def addrOf (a : ServingAddrRec) : Nat := addrNat a.addrV6 a.addrIp

/-- An IPv6 serving address bound to the port and VID whose solicited-node group ends in 24 given bits. -/
def solicited (s : State) (p : Fin 8) (low : Nat) : Bool :=
  (boundAddrs s p).any fun a => a.addrV6 && addrOf a % 2 ^ 24 == low % 2 ^ 24

/-- Destination addresses of R245. -/
def dstMacOk (s : State) (p : Fin 8) (f : Frame) : Bool :=
  let ip := f.etherType == 0x0800 || f.etherType == 0x86DD
  f.dst == (portCfg s p).portMac ||
  (f.dst == 0xFFFFFFFFFFFF && f.etherType == 0x0806) ||
  (f.dst / 2 ^ 24 == 0x3333FF && solicited s p f.dst) ||
  (ip && (f.dst == 0x01005E000181 || f.dst == 0x333300000181)) ||
  (f.etherType == 0x88F7 && (f.dst == 0x011B19000000 || f.dst == 0x0180C200000E)) ||
  (f.etherType == 0x8808 && f.dst == 0x0180C2000001) ||
  (f.etherType == 0x8809 && f.dst == 0x0180C2000002)

/-- Tagging of R245. -/
def tagsOk (s : State) (p : Fin 8) (f : Frame) : Bool :=
  match f.tags with
  | [] => true
  | [(tpid, _, vid)] =>
    tpid == 0x8100 && (f.etherType == 0x0800 || f.etherType == 0x86DD || f.etherType == 0x0806) &&
      (boundAddrs s p).any fun a => a.addrVid == vid
  | _ => false

/-- EtherTypes of R245. -/
def etherOk (f : Frame) : Bool :=
  [0x0800, 0x86DD, 0x0806, 0x88F7, 0x8808].contains f.etherType || (f.etherType == 0x8809 && f.subtype == 0x0A)

/-- The first Layer 2 check of R245 that refuses a frame, its FCS apart: the cause. -/
def l2Cause (s : State) (p : Fin 8) (f : Frame) : Option Nat :=
  if f.len < 64 || decide ((portCfg s p).maxFrame < f.len) then some 9
  else if groupMac f.src then some 10
  else if !dstMacOk s p f then some 1
  else if !tagsOk s p f then some 3
  else if !etherOk f then some 2
  else none

/-- A serving address bound to the port and the frame's VID. -/
def isServing (s : State) (p : Fin 8) (f : Frame) (v6 : Bool) (a : Nat) : Bool :=
  (boundAddrs s p).any fun r => r.addrV6 == v6 && r.addrVid == frameVid f && addrOf r == a

/-- The solicited-node multicast group of an IPv6 address. -/
def solicitedGroup (a : Nat) : Nat := 0xFF02 * 2 ^ 112 + 0x1FF000000 + a % 2 ^ 24

/-- Destination addresses of R246. A Neighbour Solicitation goes to the group of any serving address of the port and VID, and its target
is to be such an address. -/
def dstIpOk (s : State) (p : Fin 8) (f : Frame) (h : IpHdr) : Bool :=
  let udp := (f.udp.getD {}).dstPort
  isServing s p f h.v6 h.dst ||
  (h.proto == 17 && (udp == 319 || udp == 320) && h.dst == ptpGroup h.v6) ||
  (h.v6 && h.proto == 58 && f.icmpType == some 135 && isServing s p f true f.target &&
    (boundAddrs s p).any fun a => a.addrV6 && a.addrVid == frameVid f && h.dst == solicitedGroup (addrOf a))

/-- The first rule of R246 that refuses an IP frame: the cause. -/
def ipCause (s : State) (p : Fin 8) (f : Frame) (h : IpHdr) : Option Nat :=
  let u := f.udp.getD {}
  if !h.v6 && (h.ihl != 5 || !h.hdrChecksumOk || h.fragment || h.options) then some 4
  else if !(h.proto == 17 || h.proto == (if h.v6 then 58 else 1)) then some 5
  else if !dstIpOk s p f h then some 6
  else if h.proto == 17 then
    (if !(u.dstPort == 123 || u.dstPort == 319 || u.dstPort == 320) then some 7
    else if (if u.checksumZero then h.v6 else !u.checksumOk) then some 8
    else none)
  else
    let ok := if h.v6 then f.icmpType == some 128 || f.icmpType == some 135 else f.icmpType == some 8
    if ok then none else some 11

/-- The cause for which a received frame is refused (R245, R246). -/
def refuseCause (s : State) (p : Fin 8) (f : Frame) : Option Nat :=
  match l2Cause s p f with
  | some c => some c
  | none =>
    if f.etherType == 0x0800 || f.etherType == 0x86DD then
      ipCause s p f ({ f.ip.getD {} with v6 := f.etherType == 0x86DD })
    else none

/-- A frame refused for a cause (R245, R246). -/
def refuseFrame (p : Fin 8) (c : Nat) (s : State) : State :=
  modPort p (fun q => { q with refuseCause := c }) (count (0x0A0040 + p.val) s)

/-- The frame has passed `MAX_FRAME` (R257): it is refused as its next byte arrives, before its FCS. -/
def tooLong (s : State) (p : Fin 8) (f : Frame) : Bool := decide ((portCfg s p).maxFrame < f.len)

/-- A port that is up receives a frame (R243, R245, R246, R257, R258): its point recorded, refused, dropped and counted in LOAD and SAFE,
or handed on. -/
def receive (p : Fin 8) (f : Frame) (k : State → State) (r : Option RxPoint := none) (s : State) : State :=
  if !(s.ports[p]).link || s.pwr.mode == .retain then s
  else
    let s := recordRx p (r.getD (openPoint s)) s
    match s.pwr.mode with
    | .load | .safe => count (0x0A0048 + p.val) s
    | _ =>
      if tooLong s p f then refuseFrame p 9 s
      else if !f.fcsOk then count (0x0A0038 + p.val) s
      else match refuseCause s p f with
        | some c => refuseFrame p c s
        | none => k (count (0x0A0028 + p.val) s)

/-- FRAME_REFUSED (R245, R246): a received frame fails a check. -/
def execFrameRefused (dt : Nat) (p : Fin 8) (f : Frame) (s : State) : Host.Outcome State Fault Refusal :=
  act dt (receive p f id) s

/-- The bit of `CR_PROTO` for a kind (R368). -/
def protoBit (k : JobKind) : Nat :=
  match k with
  | .ntp => 0
  | .nts => 1
  | .delayReq => 2
  | _ => 3

/-- The class rule that applies to a request on a port (R368). -/
def classRule (s : State) (p : Fin 8) (k : JobKind) (f : Frame) : Option ClassRuleRec :=
  match f.ip with
  | none => none
  | some h =>
    let l := s.cfg.b0E.rule.filter fun e =>
      e.2.crV6 == h.v6 && inPrefix h.v6 e.2.crPrefixLen e.2.crAddr h.src && bitAt e.2.crPorts p.val &&
        (e.2.crVidAny || e.2.crVid == frameVid f) && bitAt e.2.crProto (protoBit k)
    (longest (fun r : ClassRuleRec => r.crPrefixLen) l).map (·.2)

/-- The class of a request, and its bucket profile (R367, R368). -/
def classify (s : State) (p : Fin 8) (k : JobKind) (f : Frame) : Cls × Nat :=
  let w := s.cfg.b0E.weir
  let q := ptpPort s p
  let ptp := k == .delayReq || k == .signaling
  if ptp && ((q.profile == 2 && q.grantPrecAll) || (q.profile != 2 && q.mcastPrec)) then (.prec, 0)
  else match classRule s p k f with
    | some r => (clsOf r.crClass, r.crBkt)
    | none =>
      match k with
      | .ntp => (clsOf w.defClassNtp, w.defBktNtp)
      | .nts => (clsOf w.defClassNts, w.defBktNts)
      | _ => (clsOf w.defClassPtp, 0)

/-- The length of the answer a request asks for, in frame bytes (R302, R320, R334, R350). -/
def answerLen (s : State) (j : Job) : Nat :=
  let f := j.req
  let tagged := !f.tags.isEmpty
  let udp (n : Nat) := frameLen true tagged (frameV6 f) n
  match j.kind with
  | .ntp => udp 48
  | .nts =>
    let l := (requestExt f.payload).getD []
    let uid := ((l.find? fun e => e.1 == 0x0104).map fun e => e.2.length + 4).getD 0
    let ph := (l.filter fun e => e.1 == 0x0304 && e.2.length == 100).length
    udp (48 + uid + 40 + 104 * (min 7 ph + 1))
  | .delayReq => (delayRespFrame s j).len
  | _ => udp (44 + ((f.ptp.getD {}).tlvs.map fun t => if t.tlvType == 4 then 12 else if t.tlvType == 6 then 6 else 0).foldl (· + ·) 0)

/-- The PRECEDENCE SU meter's rate in quarter SU a second (R370). -/
def precRate (s : State) : Nat := s.weir.suRate

/-- The charge of a port's line meter for a frame of `len` bytes, preamble and gap added (R350, R370), in 400ths of a unit of the
device clock. -/
def lineCharge (s : State) (p : Fin 8) (len : Nat) : Nat := 8 * (len + 20) * 486000 / portRate s p

/-- The PRECEDENCE meters of R370: a request that finds either short is demoted, and takes nothing from either. -/
def precMeters (j : Job) (s : State) : Job × State :=
  if j.cls != .prec then (j, s)
  else
    let su := meterTake s.clk (precRate s) (precRate s * 12150000) (jobCost s j * clkPerSec) s.weir.su
    let line := meterTake s.clk (4 * (10 - s.cfg.b0D.ptp.precLinePct)) 19440000 (lineCharge s j.port (answerLen s j))
      (s.ports[j.port]).line
    let demote (a : Nat) := ({ j with cls := .assured }, emitLimited 0x0E05 0xFF (count a s))
    match su, line with
    | none, _ => demote 0x0E0019
    | _, none => demote 0x0E001A
    | some a, some b => (j, modPort j.port (fun q => { q with line := b }) (modWeir (fun w => { w with su := a }) s))

/-- Offered work of a class (R375). -/
def offer (c : Cls) (q : Nat) : State → State := modWeir fun w =>
  match c with
  | .prec => { w with offPrec := w.offPrec + q }
  | .assured => { w with offAssured := w.offAssured + q }
  | .general => { w with offGeneral := w.offGeneral + q }

/-- Admitted work of a class (R376). -/
def admitted (c : Cls) (q : Nat) : State → State := modWeir fun w =>
  match c with
  | .prec => { w with admPrec := w.admPrec + q }
  | .assured => { w with admAssured := w.admAssured + q }
  | .general => { w with admGeneral := w.admGeneral + q }

/-- A descriptor that no meter judges joins its queue: a scheduled message, a sweep, a relay or the client's own (R369, R376). -/
def placeJob (j : Job) (s : State) : State :=
  let q := jobCost s j
  enqueue j (admitted j.cls q (offer j.cls q s))

/-- The Hopper reservation of R257: the cells of the frame taken from the pool, or the frame dropped. -/
def reserve (j : Job) (s : State) : Option (Job × State) :=
  let need := ((portCfg s j.port).maxFrame + 255) / 256
  let free := if j.cls == .prec then hopperFree s else hopperFree s - s.cfg.b0A.hopper.precReserve
  if need ≤ free then
    let n := cellsFor j.req
    some ({ j with cells := n }, modCore (fun c => { c with
      cellsUsed := c.cellsUsed + n, freed := keepFreed (hopperFree s - n) c.freed }) s)
  else none

/-- A failed reservation (R257). -/
def hopperFull (s : State) : State := emitLimited 0x0A06 0xFF (count 0x0A0004 s)

/-- A request of this device or of a neighbour is refused: the neighbour is told (R380). -/
def refuseJob (j : Job) (s : State) : State :=
  match j.spill with
  | some (n, h, _) => respRefuse n h s
  | none => s

/-- A reserved request joins its queue. -/
def storeJob (j : Job) (s : State) : State :=
  match reserve j s with
  | some (j, s) => enqueue j s
  | none => refuseJob j (hopperFull s)

/-- The link a request is spilled on (R379), if it is. -/
def spillTo (s : State) (j : Job) : Option (Fin 4) :=
  let w := s.cfg.b0E.weir
  let cls := match j.cls with
    | .prec => w.spillPrec
    | .assured => w.spillAssured
    | .general => w.spillGeneral
  let kind := j.kind == .ntp || j.kind == .nts || (j.kind == .delayReq && (ptpPort s j.port).profile != 2)
  if w.spillEn && cls && kind && j.spill.isNone && waitAtLeast s (workAll s) w.spillMarkNs && decide (j.req.len - 4 ≤ 1536) &&
      (freeHandle s).isSome then
    spillLink s (jobCost s j) j.req
  else none

/-- A request spilled on a link (R379, R407): its frame sent, its handle taken, credit charged. -/
def spillJob (n : Fin 4) (j : Job) (s : State) : State :=
  match reserve j s with
  | none => hopperFull s
  | some (j, s) =>
    let h := (freeHandle s).getD 0
    let cost := jobCost s j
    let b := bucketNow s n
    let f : SpillFrame := { handle := h, cls := clsCode j.cls, port := j.port, degraded := j.t2Degraded,
                            stepEpoch := j.stepEpoch, t2 := j.t2, len := spillLen j.req, req := j.req }
    let s := modLink n (fun l => { l with
      bucket := { b with level := b.level - cost * clkPerSec }, spillCredit := l.spillCredit - roundUpTo 8 f.len }) s
    let s := modCore (fun c => { c with pendingSpills := c.pendingSpills ++ [{ handle := h, link := n, job := j }] }) s
    let s := leatPut n { prio := 4, type := 3, bytes := f.len, what := .leatSpill n 0 f } s
    let s := samplerOccurs 11 (sampleJob s 63 j) (count 0x0E001B s)
    let s := if s.weir.spilling || s.weir.spilled then s else emit 0x0E06 s
    modWeir (fun w => { w with spilled := true }) s

/-- The class meter of a class that sheds (R376), in quarter SU times units of the device clock. -/
def classMeter (s : State) (c : Cls) : Option (Meter × Nat) :=
  match c with
  | .general => if s.weir.shedGeneral then some (s.weir.meterGeneral, s.weir.rateGeneral) else none
  | .assured => if s.weir.shedAssured then some (s.weir.meterAssured, s.weir.rateAssured) else none
  | .prec => none

/-- The depth of a class meter: `WM_LOW_NS` of capacity. -/
def classDepth (s : State) : Nat := s.cfg.b0E.weir.wmLowNs * s.weir.capacity * 400000 * 1215

/-- A class meter set. -/
def setClassMeter (c : Cls) (m : Meter) : State → State := modWeir fun w =>
  match c with
  | .general => { w with meterGeneral := m }
  | .assured => { w with meterAssured := m }
  | .prec => w

/-- A request its class meter refuses (R377): an NTP request of this device may be answered with a KoD RATE. -/
def weirRefuse (j : Job) (s : State) : State :=
  let s := samplerOccurs 9 (sampleJob s 63 j) (count (if j.cls == .assured then 0x0E0010 else 0x0E0011) s)
  if (j.kind == .ntp || j.kind == .nts) && j.spill.isNone then
    let cost := jobCost s j
    let c := chargeKod cost s
    if c.1 then
      storeJob { j with kod := some .rate } (modWeir (fun w => { w with kodSu := w.kodSu + cost }) (count 0x0E0012 c.2))
    else count 0x0E0013 c.2
  else refuseJob j s

/-- Steps 2 to 5 of R382 for a request with its class. -/
def letIn (j : Job) (s : State) : State :=
  let a := precMeters j s
  let j := a.1
  let s := a.2
  match spillTo s j with
  | some n => spillJob n j s
  | none =>
    let cost := jobCost s j
    let s := offer j.cls cost s
    match classMeter s j.cls with
    | none => storeJob j (admitted j.cls cost s)
    | some (m, rate) =>
      match meterTake s.clk rate (classDepth s) (cost * clkPerSec) m with
      | some m => storeJob j (admitted j.cls cost (setClassMeter j.cls m s))
      | none => weirRefuse j (setClassMeter j.cls (meterUpTo s.clk rate (classDepth s) m) s)

/-- A request of a frame on a port with its T2, class and bucket. -/
def requestJob (s : State) (p : Fin 8) (k : JobKind) (f : Frame) (t2 : Units) (degraded : Bool) (epoch : Nat) : Job :=
  let c := classify s p k f
  { kind := k, cls := c.1, port := p, req := f, t2 := t2, t2Degraded := degraded, stepEpoch := epoch, bkt := c.2 }

/-- Step 8 of R300: whether the access rule answers, and whether a refusal sends a KoD DENY (R312). -/
def accessDecision (s : State) (p : Fin 8) (f : Frame) (nts : Bool) : Bool × Bool :=
  match accessAction s (frameV6 f) (frameSrc f) p with
  | 0 => (true, false)
  | 1 => (false, true)
  | 2 => (false, false)
  | _ => (nts, true)

/-- A request refused at step 8 (R312): a KoD DENY within the KoD budget, or nothing. -/
def accessRefuse (j : Job) (kod : Bool) (s : State) : State :=
  let s := count 0x0C001C s
  if kod && j.spill.isNone then
    let cost := jobCost s j
    let c := drawKod j.cls cost s
    if c.1 then storeJob { j with kod := some .deny } (modWeir (fun w => { w with kodSu := w.kodSu + cost }) c.2)
    else c.2
  else refuseJob j s

/-- An NTP request candidate with its T2 (R300, steps 1 to 9). -/
def ntpRequest (j : Job) (s : State) : State :=
  match sluiceRefuses s j.req.payload with
  | some a => refuseJob j (count a s)
  | none =>
    let d := accessDecision s j.port j.req (j.kind == .nts)
    if d.1 then letIn j s else accessRefuse j d.2 s

/-- The kind of an NTP request (R301). -/
def ntpKind (f : Frame) : JobKind := if isNts f.payload then .nts else .ntp

/-- NTP_REQUEST (R300, R382): a frame to UDP port 123 is stamped and passes the Sluice's steps, or is refused at one. -/
def execNtpRequest (dt : Nat) (p : Fin 8) (r : RxPoint) (f : Frame) (s : State) : Host.Outcome State Fault Refusal :=
  act dt (receive p f (fun s =>
    if f.ip.isSome && (f.udp.map (·.dstPort)) == some 123 then
      ntpRequest (requestJob s p (ntpKind f) f (t2Of s p r) (degradedNow s) s.tb.stepCount) s
    else s) (some r)) s

end Sys2Proof.Machine
end

