-- ==== Sys2Proof/Machine/Gnss.lean ====
section
/-!
DEFINITION. The GNSS baseband (07_gnss_baseband.md).
-/

namespace Sys2Proof.Machine

/-- The GNSS block changed. -/
def modGnss (f : Gnss → Gnss) (s : State) : State := { s with gnss := f s.gnss }

/-- One channel changed. -/
def modChan (n : Fin 32) (f : GnssChan → GnssChan) : State → State := modGnss fun g => { g with chan := g.chan.set n (f g.chan[n]) }

/-- The configuration. -/
def gnssCfg (s : State) : GnssConfigRec := s.cfg.b07.gnss

/-- The channels the Dresser has retired (R169, R452). -/
def retiredChans (s : State) : Nat := s.dress.retired[5]

/-- The channels in service (R169): the first 28 not retired; the rest are spares. -/
def servingChans (s : State) : List (Fin 32) :=
  ((List.finRange 32).filter fun n => !bitAt (retiredChans s) n.val).take 28

/-- A channel is in service. -/
def chanServes (s : State) (n : Fin 32) : Bool := (servingChans s).contains n

/-- The front-end has its clock (R164, R165): its own, or `GCLKO` while that runs. -/
def gnssClocked (s : State) : Bool := (gnssCfg s).gfeClocking || gclkoRunning s

/-- The baseband runs its channels (R165, R166, R174). -/
def gnssRuns (s : State) : Bool :=
  (gnssCfg s).gnssEnable && gnssClocked s && !s.gnss.asleep && !s.gnss.sampleLoss && s.gnss.started

/-- The channels that track. -/
def trackedChans (s : State) : List (Fin 32) := (List.finRange 32).filter fun n => (s.gnss.chan[n]).role == .track

/-- The satellites used in the last solution. -/
def usedChans (s : State) : List (Fin 32) := (List.finRange 32).filter fun n => (s.gnss.chan[n]).used

/-- A position is held (R176, R177). -/
def positionHeld (s : State) : Bool := s.gnss.held.isSome

/-- `TIMING_STATE` by the first row of R185 that holds. -/
def timingStateNow (s : State) : Nat :=
  let g := s.gnss
  if !(gnssCfg s).gnssEnable || !gnssClocked s || g.asleep || g.sampleLoss || !g.solved || !g.towKnown then 0
  else if g.spoof || g.jamming || g.antFault then 3
  else if !positionHeld s || decide ((usedChans s).length < (gnssCfg s).minSatsFull) || g.xcheck then 2
  else 1

/-- `TIMING_STATE` follows its conditions (R185): a change issues event 0x0702, the first state after a start 0x0701 and the
start time of R172. -/
def refreshTiming (s : State) : State :=
  let n := timingStateNow s
  let s := if n = s.gnss.timingState then s else emit 0x0702 (modGnss (fun g => { g with timingState := n }) s)
  match s.gnss.startAt with
  | some t =>
    if n = 0 then s
    else emit 0x0701 (modGnss (fun g => { g with
      startAt := none, startTimeMs := (s.clk - t) / (clkPerSec / 1000) % 2 ^ 32 }) s)
  | none => s

/-- Every channel stops (R166, R174, R187). The UTC parameters stand until the next start (R186). -/
def stopChannels (g : Gnss) : Gnss :=
  { g with chan := Vector.replicate 32 {}, solved := false, started := false, towKnown := false
           xFails := 0, xPasses := 0, jamFresh := false }

/-- The RTC's uncertainty in µs, none while `RTC_VALID` is 0 (R476). -/
def rtcUncUs (s : State) : Option Rat :=
  if s.pd0.rtcValid then some (31 + (s.pd0.tolPpm : Rat) * (s.pd0.sinceAlign : Nat) / 32768) else none

/-- The time is uncertain by at most a number of µs (R172). -/
def timeWithin (s : State) (us : Nat) : Bool :=
  timeValid s || match rtcUncUs s with
    | some u => decide (u ≤ (us : Rat))
    | none => false

/-- A complete ephemeris of a satellite is retained (R173): words 3 to 10 of its subframes 1 to 3. -/
def ephemerisKept (s : State) (prn : Nat) : Bool :=
  let l := (kept s.pd0.ephemeris).getD []
  ([1, 2, 3] : List Nat).all fun f => (List.range' 3 8).all fun w => l.any fun e => e.1 == prn * 64 + f * 16 + w

/-- An almanac is retained (R173). -/
def almanacKept (s : State) : Bool := !((kept s.pd0.almanac).getD []).isEmpty

/-- The start type of R172 (R175 for a wake that is a hot start). What is not retained, or failed its check, is absent (R173). -/
def startType (s : State) (f : StartFacts) : Nat :=
  let known := positionHeld s || (kept s.pd0.position).isSome
  let hot := (f.hotSats.eraseDups.filter fun p => ephemerisKept s p).length
  if s.gnss.wakeHot || (decide (4 ≤ hot) && known && timeWithin s 10000) then 0
  else if almanacKept s && f.almanacFresh && known && f.posWithin100km && timeWithin s 10000000 then 1
  else 2

/-- The low `GFE_WORD_BITS` bits of the listed words are sent (R167, R191). -/
def gfeSend (from_ n : Nat) (s : State) : State :=
  let r := s.cfg.b07.gfe
  let ws := ((r.gfeWord.drop from_).take n).map fun w => w % 2 ^ r.gfeWordBits
  if ws.isEmpty then s else put (.gfeWords ws) s

/-- GNSS_START (R167, R172): the init list is sent, and every channel in service searches. -/
def execGnssStart (dt : Nat) (f : StartFacts) (s : State) : Host.Outcome State Fault Refusal :=
  act dt (fun s =>
    let g := s.gnss
    if (gnssCfg s).gnssEnable && g.startDue && !g.asleep && !g.sampleLoss then
      let ty := startType s f
      let s := gfeSend 0 s.cfg.b07.gfe.initCount s
      refreshTiming (modGnss (fun g => { stopChannels g with
        startDue := false, started := true, utc := none, wakeHot := false, startType := ty, startAt := some s.clk
        chan := Vector.ofFn fun n => if chanServes s n then { role := .search } else {} }) s)
    else s) s

/-- `GSCLK` may run within its tolerance (R164, R166): from the front-end's own oscillator, or from a `GCLKO` that is 16.368 MHz. -/
def gsclkMayRun (s : State) : Bool := (gnssCfg s).gfeClocking || gclkoInTol s

/-- `SAMPLE_LOSS` is set (R166): samples are discarded and every channel stops. -/
def loseSamples (s : State) : State :=
  refreshTiming (emit 0x070A (modGnss (fun g => { stopChannels g with sampleLoss := true, startAt := none }) s))

/-- A front-end clocked from a `GCLKO` that is low or off 16.368 MHz is reported at the latest on the next Governor tick (R165, R166,
R225; DEDUCED, log entry 96). -/
def watchGclko (s : State) : State :=
  if (gnssCfg s).gnssEnable && bitAt s.pwr.domainOn 3 && !s.gnss.asleep && !s.gnss.sampleLoss && !gsclkMayRun s then loseSamples s else s

/-- SAMPLE_LOSS (R166): `GSCLK` is lost or out of tolerance. -/
def execSampleLoss (dt : Nat) (s : State) : Host.Outcome State Fault Refusal :=
  act dt (fun s => if (gnssCfg s).gnssEnable && !s.gnss.sampleLoss then loseSamples s else s) s

/-- SAMPLE_LOSS_CLEARED (R166, R167): 10 ms of `GSCLK` within tolerance; a start follows. -/
def execSampleLossCleared (dt : Nat) (s : State) : Host.Outcome State Fault Refusal :=
  act dt (fun s =>
    if s.gnss.sampleLoss && gsclkMayRun s then modGnss (fun g => { g with sampleLoss := false, startDue := true }) s else s) s

/-- A level of `GANT_OK` is good (R168): high, or with `GANT_POL` low. -/
def antGood (s : State) (high : Bool) : Bool := high != (gnssCfg s).gantPol

/-- ANT_FAULT (R168): a bad level of `GANT_OK` held for 1 s. -/
def execAntFault (l : AntLevel) (s : State) : Host.Outcome State Fault Refusal :=
  act l.dt (fun s =>
    if (gnssCfg s).gnssEnable && (gnssCfg s).gantEn then
      let s := modGnss (fun g => { g with antHigh := l.high }) s
      if !antGood s l.high && !s.gnss.antFault then refreshTiming (emit 0x0709 (modGnss (fun g => { g with antFault := true }) s)) else s
    else s) s

/-- ANT_FAULT_CLEARED (R168): a good level held for 10 s. -/
def execAntFaultCleared (l : AntLevel) (s : State) : Host.Outcome State Fault Refusal :=
  act l.dt (fun s =>
    if (gnssCfg s).gnssEnable && (gnssCfg s).gantEn then
      let s := modGnss (fun g => { g with antHigh := l.high }) s
      if antGood s l.high && s.gnss.antFault then refreshTiming (modGnss (fun g => { g with antFault := false }) s) else s
    else s) s

/-- A PRN is below the mask by almanac (R171). -/
def belowMask (s : State) (prn : Nat) : Bool :=
  match s.gnss.elevs.find? fun e => e.1 == prn with
  | some e => decide (e.2 < (gnssCfg s).elevMaskDeg)
  | none => false

/-- The channels acquisition needs (R169, R171): one for each satellite to be searched, while fewer than 16 are tracked. -/
def searchNeed (s : State) : Nat :=
  let ts := trackedChans s
  if 16 ≤ ts.length then 0
  else ((List.range' 1 32).filter fun p => !belowMask s p && !ts.any fun m => (s.gnss.chan[m]).prn == p).length

/-- The work of the channels that do not track (R169): before the first track all search; then at most 12 search or shadow, shadowing
taking those that acquisition does not need, and the rest are idle. The lowest-numbered search (DESIGN CHOICE, log entry 52). -/
def assignChans (s : State) : State :=
  if !gnssRuns s then s
  else
    let free := (servingChans s).filter fun n => (s.gnss.chan[n]).role != .track
    if (trackedChans s).isEmpty then free.foldl (fun s n => modChan n (fun _ => { role := .search }) s) s
    else
      let k := min 12 (searchNeed s)
      let s := (free.take k).foldl (fun s n => modChan n (fun _ => { role := .search }) s) s
      let s := ((free.drop k).take (12 - k)).foldl (fun s n =>
        modChan n (fun c => if c.role == .shadow then c else { role := .shadow }) s) s
      (free.drop 12).foldl (fun s n => modChan n (fun _ => {}) s) s

/-- A position is known (R171, R172): held or retained. -/
def positionKnown (s : State) : Bool := positionHeld s || (kept s.pd0.position).isSome

/-- The predicted Doppler of a satellite, in Hz (R171): zero while its orbit or the position is not known. -/
def doppPredicted (s : State) (a : Acquired) : Int :=
  if (almanacKept s || ephemerisKept s a.prn) && positionKnown s then a.doppPred else 0

/-- A satellite is not searched (R171): it is below the mask by the almanac, now or when the elevations were last computed. -/
def notSearched (s : State) (a : Acquired) : Bool :=
  match a.elevDeg with
  | some e => decide (e < (gnssCfg s).elevMaskDeg)
  | none => belowMask s a.prn

/-- SAT_ACQUIRED (R169, R171): a searching channel finds a satellite and tracks it; at most 16 channels track. A satellite below the mask
is not searched, nor a Doppler beyond `DOPP_SEARCH_KHZ` of the predicted one. -/
def execSatAcquired (dt : Nat) (n : Fin 32) (a : Acquired) (s : State) : Host.Outcome State Fault Refusal :=
  act dt (fun s =>
    let ts := trackedChans s
    let r := gnssCfg s
    if gnssRuns s && chanServes s n && (s.gnss.chan[n]).role == .search && decide (ts.length < 16) &&
       decide (1 ≤ a.prn ∧ a.prn ≤ 32) && !ts.any (fun m => (s.gnss.chan[m]).prn == a.prn) &&
       !notSearched s a && decide ((a.dopp - doppPredicted s a).natAbs ≤ 1000 * r.doppSearchKhz) then
      assignChans (modChan n (fun _ => { role := .track, prn := a.prn }) s)
    else s) s

/-- A retained list with one entry put in. -/
def keepEntry (key v : Nat) (k : Kept (List (Nat × Nat))) : Kept (List (Nat × Nat)) :=
  keep ((key, v) :: ((kept k).getD []).filter fun e => e.1 != key) k

/-- The page of subframe 4 or 5 that a time of week names, from 0 (log entry 52). -/
def navPage (tow : Nat) : Nat := (tow - 1) / 5 % 25

/-- A word of almanac or ephemeris received with its parity passing is retained (R173, R474). Pages of subframes 4 and 5 are
told apart by the time of week (log entry 16). -/
def keepNav (prn subframe wordNum tow word : Nat) (s : State) : State :=
  let key := if subframe ≤ 3 then prn * 64 + subframe * 16 + wordNum else navPage tow * 128 + subframe * 16 + wordNum
  if subframe ≤ 3 then { s with pd0 := { s.pd0 with ephemeris := keepEntry key word s.pd0.ephemeris } }
  else { s with pd0 := { s.pd0 with almanac := keepEntry key word s.pd0.almanac } }

/-- The parity of a word noted (R181, R186): in the subframe being received, and for the ephemeris, of which a word that fails makes the
satellite unused until all words of a set have passed. -/
def noteParity (subframe wordNum tow : Nat) (ok : Bool) (c : GnssChan) : GnssChan :=
  let old := if c.sf == (subframe, tow) then c.sfWords else []
  let c := { c with sf := (subframe, tow), sfWords := if ok then insertNat wordNum old else old.filter (· != wordNum) }
  if 3 < subframe then c
  else if !ok then { c with ephBad := true, ephWords := [] }
  else
    let l := insertNat (16 * subframe + wordNum) c.ephWords
    { c with ephWords := l, ephBad := c.ephBad && decide (l.length < 30) }

/-- The GPS UTC parameters are complete on a channel (R186): all ten words of subframe 4, page 18, have passed parity. -/
def utcComplete (c : GnssChan) : Bool := c.sf.1 == 4 && navPage c.sf.2 == 17 && c.sfWords == List.range' 1 10

/-- The GPS week (R179): from the timescale while `TIME_VALID`, otherwise the ten bits resolved by `WN_BASE`. -/
def gpsWeek (s : State) (w10 : Nat) : Nat :=
  if timeValid s then (s.tb.sec - 315964819) / 604800 % 65536
  else
    let b := (gnssCfg s).wnBase
    (b + (w10 + 1024 - b % 1024) % 1024) % 65536

/-- The GPS week of now: the timescale's while `TIME_VALID`, else that of the last solution (R179). -/
def weekNow (s : State) : Nat := if timeValid s then (s.tb.sec - 315964819) / 604800 % 65536 else s.gnss.week

/-- NAV_WORD (R186, R188): a demodulated word is written to the navigation ring; the one that completes the GPS UTC parameters
with every word's parity passing makes them valid. -/
def execNavWord (dt : Nat) (n : Fin 32) (word : BitVec 30) (parityOk : Bool) (subframe wordNum tow : Nat)
    (utc : Option GpsUtc) (s : State) : Host.Outcome State Fault Refusal :=
  actPd0 dt (fun s =>
    let c := s.gnss.chan[n]
    if gnssRuns s && c.role == .track then
      let e : NavEntry := { word := word, parityOk := parityOk, prn := c.prn, subframe := subframe % 8,
                            wordNum := wordNum % 16, tow := tow % 2 ^ 17 }
      let s := modGnss (fun g => { g with navRing := (e :: g.navRing).take 512, navHead := (g.navHead + 1) % 65536 }) s
      let s := modChan n (noteParity subframe wordNum tow parityOk) s
      if !parityOk then count 0x070012 s
      else
        let s := keepNav c.prn subframe wordNum tow word.toNat s
        let s := if wordNum == 2 then refreshTiming (modGnss (fun g => { g with towKnown := true }) s) else s
        match utc with
        | some u =>
          if utcComplete s.gnss.chan[n] then
            emit 0x070D { modGnss (fun g => { g with utc := some u, utcWeek := weekNow s }) s with
              pd0 := { s.pd0 with utcParams := keep u s.pd0.utcParams } }
          else s
        | none => s
    else s) s

/-- Squared distance of two positions, mm². -/
def distSq (a b : Int × Int × Int) : Int :=
  (a.1 - b.1) * (a.1 - b.1) + (a.2.1 - b.2.1) * (a.2.1 - b.2.1) + (a.2.2 - b.2.2) * (a.2.2 - b.2.2)

/-- The mean of the survey's fixes. -/
def surveyMean (g : Gnss) : Int × Int × Int :=
  let n : Rat := (g.surveyN : Nat)
  (wholeOf ((g.sumX : Rat) / n), wholeOf ((g.sumY : Rat) / n), wholeOf ((g.sumZ : Rat) / n))

/-- σ² of the fixes about their mean, mm² (R177). -/
def surveyVar (g : Gnss) : Rat :=
  if g.surveyN = 0 then 0
  else
    let n : Rat := (g.surveyN : Nat)
    ((g.sumSq : Rat) - ((g.sumX * g.sumX + g.sumY * g.sumY + g.sumZ * g.sumZ : Int) : Rat) / n) / n

/-- SE² of R177, mm²: σ² / (n / 60). -/
def surveySeSq (g : Gnss) : Rat := if g.surveyN = 0 then 0 else surveyVar g * 60 / (g.surveyN : Nat)

/-- The survey meets its limit (R177). -/
def surveyDone (s : State) : Bool :=
  decide ((gnssCfg s).surveyMinS ≤ s.gnss.surveyN) &&
  decide (surveySeSq s.gnss ≤ ((gnssCfg s).surveyLimitMm : Rat) * (gnssCfg s).surveyLimitMm)

/-- A fix joins the survey (R177); where it meets the limit the mean is held and retained, with event 0x0703. -/
def surveyFix (x y z : Int) (s : State) : State :=
  let s := modGnss (fun g => { g with
    surveyN := g.surveyN + 1, sumX := g.sumX + x, sumY := g.sumY + y, sumZ := g.sumZ + z
    sumSq := g.sumSq + x * x + y * y + z * z }) s
  if surveyDone s then
    let m := surveyMean s.gnss
    refreshTiming (emit 0x0703 { modGnss (fun g => { g with
      held := some m, posSource := 1 }) s with
      pd0 := { s.pd0 with position := keep { x := m.1, y := m.2.1, z := m.2.2, source := 1 } s.pd0.position } })
  else s

/-- NAV_FIX (R176, R177): a navigation fix. The first is compared with the retained position, if there is one; a fix taken
while `TIMING_SUSPECT` is not used. -/
def execNavFix (dt : Nat) (x y z : Int) (s : State) : Host.Outcome State Fault Refusal :=
  actPd0 dt (fun s =>
    let g := s.gnss
    if !gnssRuns s || (gnssCfg s).posMode || positionHeld s || g.timingState == 3 then s
    else
      let s1 := modGnss (fun g => { g with retainedDue := false }) s
      match g.retainedDue, (kept s.pd0.position).filter (fun p => p.source != 2) with
      | true, some p =>
        if distSq (p.x, p.y, p.z) (x, y, z) ≤ 50000 * 50000 then
          refreshTiming (modGnss (fun g => { g with held := some (p.x, p.y, p.z), posSource := 3 }) s1)
        else surveyFix x y z { s1 with pd0 := { s1.pd0 with position := {} } }
      | _, _ => surveyFix x y z s1) s

/-- The weight of a satellite in the solution (R170, R179): a quarter where its channel's metric exceeds 0.1. -/
def satWeight (s : State) (m : SatMeas) : Rat := sinSqDeg m.elevDeg / (if 100 < (s.gnss.chan[m.chan]).metric then 4 else 1)

/-- The delay from antenna to sampler, by which every measured arrival is earlier (R178). -/
def rxDelay (s : State) : Units := ((gnssCfg s).antDelayPs + (gnssCfg s).gfeDelayPs) * unitsPerPs

/-- xᵢ of a satellite, corrected (R178). -/
def satX (s : State) (m : SatMeas) : Units :=
  let c := m.corr
  m.x + c.clock + c.relativity + c.tgd + c.iono + c.tropo + c.rotation + rxDelay s

/-- Measured less predicted Doppler of a satellite, the measured rate of the sample clock accounted for, in 0.01 Hz (R164, R181): a
part in 10⁹ is 1.57542 Hz of the carrier. -/
def doppDiff (s : State) (m : SatMeas) : Rat := ((m.dopp - m.doppPred : Int) : Rat) - ((s.gnss.gsRatePpb * 157542 : Int) : Rat) / 1000

/-- The code discriminator (R170). -/
def discriminator (s : State) (t : Taps) : Int :=
  if (gnssCfg s).dllMode then 2 * (t.ne - t.nl) - (t.e - t.l) else t.ne - t.nl

/-- The asymmetry |VE − VL| / P in 0.001 (R170); of a prompt of zero the manual gives none (log entry 16). -/
def asymmetry (s : State) (n : Fin 32) (t : Taps) : Rat :=
  if t.p = 0 then (Config.freeAt (100 + n.val) s.clk : Nat) else 1000 * (((t.ve - t.vl).natAbs : Nat) : Rat) / ((t.p.natAbs : Nat) : Rat)

/-- A satellite is excluded (R181): event 0x0704 with its PRN. -/
def excludeSat (n : Fin 32) (cause : Nat) (s : State) : State :=
  emit 0x0704 (count 0x07000E (modChan n (fun c => { c with excl := cause, testOk := false, used := false }) s))
    (s.gnss.chan[n]).prn

/-- A satellite's Doppler residual, the common term removed, in 0.01 Hz (R181). -/
def doppResid (s : State) (m : SatMeas) : Int := wholeOf (doppDiff s m - s.gnss.commonDopp)

/-- One check of R181 that does not need x fails on a satellite: 2 Doppler, 3 power, 4 duplicate peak, 5 parity. -/
def satFails (s : State) (m : SatMeas) (cause : Nat) : Bool :=
  let r := gnssCfg s
  let c := s.gnss.chan[m.chan]
  match cause with
  | 2 => positionHeld s && decide (10 * r.dopplerLimit < (doppResid s m).natAbs)
  | 3 => decide (10 * r.powerMaxDbhz < m.cn0)
  | 4 => c.duplicate
  | 5 => c.ephBad || m.iodFails || (c.ephemerisOk && !m.ephemerisOk)
  | _ => false

/-- The first of those checks that fails, 0 where every one passes. -/
def satCause (s : State) (m : SatMeas) : Nat := (([2, 3, 4, 5] : List Nat).find? (satFails s m)).getD 0

/-- The measurements of one satellite taken into its channel, its exclusion checked, its excluding test noted. One that has fallen below
the mask is dropped (R171). -/
def takeSat (s : State) (m : SatMeas) : State :=
  let n := m.chan
  let c := s.gnss.chan[n]
  if c.role != .track || c.prn != m.prn then s
  else if m.elevDeg < (gnssCfg s).elevMaskDeg then modChan n (fun _ => {}) s
  else
    let cause := satCause s m
    let s0 := s
    let s := modChan n (fun c => { c with
      cn0 := m.cn0, elev := m.elevDeg, doppResid := doppResid s0 m, metric := Config.metricFilter c.metric (asymmetry s0 n m.taps)
      disc := discriminator s0 m.taps, used := false, ephemerisOk := m.ephemerisOk
      testOk := match c.excl with
        | 5 => m.ephemerisOk && !satFails s0 m 5
        | 4 => !c.duplicate || decide (c.dupRun = 0)
        | 1 => c.testOk
        | e => !satFails s0 m e }) s
    if c.excl == 0 && cause != 0 then excludeSat n cause s else s

/-- A satellite may be used: tracked, its ephemeris complete, not excluded. -/
def usable (s : State) (m : SatMeas) : Bool :=
  let c := s.gnss.chan[m.chan]
  c.role == .track && c.prn == m.prn && m.ephemerisOk && !c.ephBad && c.excl == 0

/-- The solution over the used satellites (R179): their weighted mean in position hold; otherwise the navigation solution
after so many residual exclusions of this epoch. -/
def solveX (s : State) (used : List SatMeas) (navX : List Units) (k : Nat) : Option Rat :=
  if positionHeld s then
    let w := (used.map (satWeight s)).foldl (· + ·) 0
    if used.isEmpty || w = 0 then none
    else some ((used.map fun m => satWeight s m * (satX s m : Rat)).foldl (· + ·) 0 / w)
  else if used.length < 4 then none
  else (navX[k]?).map fun x => ((x + rxDelay s : Int) : Rat)

/-- |q|. -/
def absR (q : Rat) : Rat := if q < 0 then -q else q

/-- The satellite of the largest residual, the first of equals. -/
def worstSat (s : State) (x : Rat) : List SatMeas → Option SatMeas
  | [] => none
  | m :: r =>
    match worstSat s x r with
    | none => some m
    | some w => if absR ((satX s m : Rat) - x) < absR ((satX s w : Rat) - x) then some w else some m

/-- The residual check of R181: the satellite of the largest residual beyond the limit is excluded, x is solved again, and the
test repeated. -/
def residualLoop : Nat → List Units → Nat → List SatMeas → State → State × List SatMeas × Option Rat
  | 0, navX, k, used, s => (s, used, solveX s used navX k)
  | fuel + 1, navX, k, used, s =>
    match solveX s used navX k with
    | none => (s, used, none)
    | some x =>
      if used.length < (if positionHeld s then 3 else 6) then (s, used, some x)
      else match worstSat s x used with
        | none => (s, used, some x)
        | some m =>
          if absR ((satX s m : Rat) - x) ≤ (((gnssCfg s).residLimitNs * unitsPerNs : Nat) : Rat) then (s, used, some x)
          else residualLoop fuel navX (k + 1) (used.filter fun u => u.chan != m.chan) (excludeSat m.chan 1 s)

/-- The C/N0 reference table learns in position hold (R184). -/
def learnCn0 (s : State) (m : SatMeas) : State :=
  if !positionHeld s then s
  else
    let key := 18 * m.prn + min 17 (m.elevDeg / 5)
    let t := s.gnss.cn0Table
    let v := Config.cn0Learn ((t.find? fun e => e.1 == key).map (·.2)) m.cn0
    let t' := (key, v) :: t.filter fun e => e.1 != key
    { modGnss (fun g => { g with cn0Table := t' }) s with pd0 := { s.pd0 with cn0Table := keep t' s.pd0.cn0Table } }

/-- `JAM_READY` (R184): the table holds entries for at least four satellites. -/
def jamReady (g : Gnss) : Bool := decide (4 ≤ ((g.cn0Table.map fun e => e.1 / 18).eraseDups).length)

/-- The C/N0 drops of the tracked satellites against the table (R184). -/
def cn0Drops (s : State) (sats : List SatMeas) : List Int :=
  (sats.filter fun m => (s.gnss.chan[m.chan]).role == .track && (s.gnss.chan[m.chan]).prn == m.prn).filterMap fun m =>
    (s.gnss.cn0Table.find? fun e => e.1 == 18 * m.prn + min 17 (m.elevDeg / 5)).map fun e => (e.2 : Int) - m.cn0

/-- The median of a list, of an even number the lower of the two in the middle (DESIGN CHOICE, log entry 95). -/
def median (l : List Int) : Option Int := (sortBy (fun a b => decide (a ≤ b)) l)[(l.length - 1) / 2]?

/-- A Units quantity in ps. -/
def psOf (q : Rat) : Int := wholeOf (q / (unitsPerPs : Nat))

/-- A used satellite's channel is marked. -/
def markUsed (s : State) (m : SatMeas) : State := modChan m.chan (fun c => { c with used := true }) s

/-- A satellite's residual against x, and its residual test while that excludes it (R181, R183). -/
def noteResid (x : Rat) (s : State) (m : SatMeas) : State :=
  let d := (satX s m : Rat) - x
  modChan m.chan (fun c =>
    if c.prn == m.prn then { c with
      resid := wholeOf d
      testOk := if c.excl == 1 then decide (absR d ≤ (((gnssCfg s).residLimitNs * unitsPerNs : Nat) : Rat)) else c.testOk }
    else c) s

/-- A solution is delivered to `REF4`, with its residuals and its weighted rms (R179, R192). -/
def deliverSolution (sats used : List SatMeas) (x : Rat) (s : State) : State :=
  let w := (used.map (satWeight s)).foldl (· + ·) 0
  let ms := (used.map fun m => satWeight s m * ((satX s m : Rat) - x) * ((satX s m : Rat) - x)).foldl (· + ·) 0
  let s := sats.foldl (noteResid x) (used.foldl markUsed s)
  let s := modRef 4 (fun r => { r with delivered := some (wholeOf x) }) s
  let s := modGnss (fun g => { g with
    solved := true, clockBias := wholeOf x
    rmsPs := if w = 0 then 0 else (psOf (sqrtOf (ms / w))).toNat % 2 ^ 32 }) s
  tallySample 13 0 (psOf (s.gnss.clockBias : Rat)) s

/-- The common Doppler term (R181): the mean over the satellites usable as the epoch begins (DESIGN CHOICE, log entry 95). -/
def commonDoppOf (s : State) (used : List SatMeas) : Rat :=
  if used.isEmpty then 0 else (used.map (doppDiff s)).foldl (· + ·) 0 / (used.length : Nat)

/-- A solution fails the cross-check of R184. -/
def xcheckFails (s : State) (x : Rat) : Bool :=
  let r := gnssCfg s
  let e : Rat := if govMode s == .holdover then s.ho.e else 0
  timeHeld s && s.gov.sel != some 4 && r.xcheckNs != 0 &&
    (decide (((r.xcheckNs : Nat) + e) * (unitsPerNs : Nat) < absR x) || decide (((10 * r.dopplerLimit : Nat) : Rat) < absR s.gnss.commonDopp))

/-- A solution counts in the runs of the cross-check (R184). -/
def noteXcheck (x : Rat) (s : State) : State :=
  let bad := xcheckFails s x
  modGnss (fun g => { g with xFails := if bad then min 10 (g.xFails + 1) else 0, xPasses := if bad then 0 else min 10 (g.xPasses + 1) }) s

/-- What an epoch measures beside its satellites (R164, R171). -/
def takeEpoch (e : GnssEpoch) (sats : List SatMeas) (s : State) : State :=
  let s := modGnss (fun g => { g with
    chan := g.chan.map fun c => { c with used := false }
    gsStamp := e.gsStamp, gsRatePpb := e.gsRatePpb, elevs := e.elevs }) s
  modGnss (fun g => { g with commonDopp := commonDoppOf s (sats.filter (usable s)) }) s

/-- TIMING_SOLUTION (R164, R166, R170, R171, R178, R179, R181, R184, R185): the solution of a second, its satellite checks, and its delivery to
`REF4`. Where the millisecond stamps show `GSCLK` more than ±200 ppm off there is none, but `SAMPLE_LOSS`. -/
def execTimingSolution (dt week towMs : Nat) (sats : List SatMeas) (e : GnssEpoch) (s : State) :
    Host.Outcome State Fault Refusal :=
  actPd0 dt (fun s =>
    if !gnssRuns s then s
    else if 200000 < e.gsRatePpb.natAbs then loseSamples s
    else
      let s := takeEpoch e sats s
      let drops := cn0Drops s sats
      let s := sats.foldl takeSat s
      let used := sats.filter (usable s)
      let r := residualLoop used.length e.navX 0 used s
      let s := sats.foldl learnCn0 r.1
      let s := modGnss (fun g => { g with
        week := gpsWeek s week, towMs := towMs % 2 ^ 32
        jamFresh := jamReady g && decide (3 ≤ drops.length)
        jamLevel := if jamReady g && decide (3 ≤ drops.length) then (median drops).getD 0 else g.jamLevel }) s
      let s := match r.2.2 with
        | none => modGnss (fun g => { g with solved := false }) s
        | some x => noteXcheck x (deliverSolution sats r.2.1 x s)
      refreshTiming (assignChans s)) s

/-- SHADOW_VISIT (R169, R182): a shadow channel has scanned a tracked PRN. A second peak on two consecutive visits marks it
`DUPLICATE_PEAK` and excludes it. -/
def execShadowVisit (dt : Nat) (n t : Fin 32) (peakHalfChips : Nat) (belowDb : Int) (s : State) :
    Host.Outcome State Fault Refusal :=
  act dt (fun s =>
    let c := s.gnss.chan[t]
    let r := gnssCfg s
    if gnssRuns s && chanServes s n && n != t && (s.gnss.chan[n]).role == .shadow && c.role == .track && r.shadowRelDb != 0 then
      let s := modChan n (fun c' => { c' with prn := c.prn }) s
      if decide (3 < peakHalfChips) && decide (belowDb ≤ (r.shadowRelDb : Int)) then
        let s := modChan t (fun c => { c with dupRun := c.dupRun + 1, testOk := c.testOk && c.excl != 4 }) s
        if c.dupRun + 1 = 2 then
          let s := emit 0x0706 (count 0x07000F (modChan t (fun c => { c with duplicate := true }) s)) c.prn
          if c.excl == 0 then refreshTiming (excludeSat t 4 s) else s
        else s
      else modChan t (fun c => { c with dupRun := 0, testOk := c.testOk || c.excl == 4 }) s
    else s) s

/-- SAT_READMITTED (R183): the test that excluded a satellite has passed continuously for `EXCLUDE_S`. -/
def execSatReadmitted (dt : Nat) (n : Fin 32) (s : State) : Host.Outcome State Fault Refusal :=
  act dt (fun s =>
    let c := s.gnss.chan[n]
    if gnssRuns s && c.role == .track && c.excl != 0 && c.testOk then
      emit 0x0705 (modChan n (fun c => { c with excl := 0, duplicate := c.duplicate && c.excl != 4, testOk := false }) s) c.prn
    else s) s

/-- Six used satellites lie within `POWER_SPREAD_DB` of one another in C/N0 (R184). -/
def powerSpread (s : State) : Bool :=
  let d := (gnssCfg s).powerSpreadDb
  let l := (usedChans s).map fun n => (s.gnss.chan[n]).cn0
  d != 0 && l.any fun a => decide (6 ≤ (l.filter fun b => decide (a ≤ b ∧ b ≤ a + d)).length)

/-- The set condition of `SPOOF_SUSPECT` (R184). -/
def spoofCondition (s : State) : Bool :=
  decide ((gnssCfg s).spoofPrnMin ≤ ((List.finRange 32).filter fun n => (s.gnss.chan[n]).duplicate).length) || powerSpread s

/-- SPOOF_SUSPECT (R184): the flag rises, or falls after `SPOOF_HOLD_S` without its condition. -/
def execSpoofSuspect (dt : Nat) (rise : Bool) (s : State) : Host.Outcome State Fault Refusal :=
  act dt (fun s =>
    if rise then
      if !s.gnss.spoof && gnssRuns s && spoofCondition s then
        refreshTiming (emit 0x0707 (count 0x070010 (modGnss (fun g => { g with spoof := true }) s)))
      else s
    else if s.gnss.spoof && !spoofCondition s then refreshTiming (modGnss (fun g => { g with spoof := false }) s)
    else s) s

/-- JAMMING (R184): the flag rises after 5 s at `JAM_DB`, or falls after 60 s below it less 1 dB. -/
def execJamming (dt : Nat) (rise : Bool) (s : State) : Host.Outcome State Fault Refusal :=
  act dt (fun s =>
    let j : Int := ((gnssCfg s).jamDb : Nat)
    if rise then
      if !s.gnss.jamming && gnssRuns s && s.gnss.jamFresh && decide (10 * j ≤ s.gnss.jamLevel) then
        refreshTiming (emit 0x0708 (count 0x070011 (modGnss (fun g => { g with jamming := true }) s)))
      else s
    else if s.gnss.jamming && !(trackedChans s).isEmpty && s.gnss.jamFresh && decide (s.gnss.jamLevel < 10 * j - 10) then
      refreshTiming (modGnss (fun g => { g with jamming := false }) s)
    else s) s

/-- XCHECK_FAIL (R184): ten consecutive solutions fail, or pass. -/
def execXcheckFail (dt : Nat) (rise : Bool) (s : State) : Host.Outcome State Fault Refusal :=
  act dt (fun s =>
    if rise then
      if !s.gnss.xcheck && gnssRuns s && (gnssCfg s).xcheckNs != 0 && timeHeld s && s.gov.sel != some 4 && s.gnss.xFails == 10 then
        refreshTiming (emit 0x070E (modGnss (fun g => { g with xcheck := true }) s))
      else s
    else if s.gnss.xcheck && s.gnss.xPasses == 10 then refreshTiming (modGnss (fun g => { g with xcheck := false }) s)
    else s) s

/-- A condition to wake that does not count from sleep holds (R175); on a second that brings sleep too it has precedence (R187). -/
def wakesNow (s : State) : Bool := govMode s == .holdover || !allSlots.any fun n => n != 4 && inPlay s n

/-- GNSS_SLEEP (R174): at a second marker the conditions of sleep hold; the sleep list is sent. -/
def execGnssSleep (dt : Nat) (s : State) : Host.Outcome State Fault Refusal :=
  act dt (fun s =>
    if gnssRuns s && (gnssCfg s).sleepEn && !wakesNow s && s.pwr.mode == .locked && s.gov.sel != some 4 &&
       (s.refs[4]).st == .eligible && positionHeld s then
      let s := gfeSend s.cfg.b07.gfe.initCount s.cfg.b07.gfe.sleepCount s
      refreshTiming (emit 0x070B (modGnss (fun g => { stopChannels g with asleep := true, sleepAt := s.clk, startAt := none }) s))
    else s) s

/-- A condition to wake holds (R175). -/
def wakes (s : State) : Bool :=
  decide (s.gnss.sleepAt + (gnssCfg s).sleepS * clkPerSec ≤ s.clk) || !(gnssCfg s).sleepEn || wakesNow s

/-- GNSS_WAKE (R175): the baseband wakes, and a start follows; after a sleep below 4 h, in LOCKED or HOLDOVER, a hot one. -/
def execGnssWake (dt : Nat) (s : State) : Host.Outcome State Fault Refusal :=
  act dt (fun s =>
    if s.gnss.asleep && wakes s then
      emit 0x070C (modGnss (fun g => { g with
        asleep := false, startDue := true
        wakeHot := decide (s.clk - g.sleepAt < 14400 * clkPerSec) && timeHeld s }) s)
    else s) s

/-- `SLEEP_REMAINING_S` (R192): 0 when awake. -/
def sleepRemaining (s : State) : Nat :=
  if s.gnss.asleep then (gnssCfg s).sleepS - (s.clk - s.gnss.sleepAt) / clkPerSec else 0

/-- The held position from its configured source (R176): fixed, which is retained with its source (R173), or the retained survey position
and the first fix. -/
def takePosition (s : State) : State :=
  let p := s.cfg.b07.position
  let s := if (gnssCfg s).posMode then
      { s with pd0 := { s.pd0 with position := keep { x := p.posXMm, y := p.posYMm, z := p.posZMm, source := 2 } s.pd0.position } }
    else s
  modGnss (fun g => { g with
    held := if (gnssCfg s).posMode then some (p.posXMm, p.posYMm, p.posZMm) else none
    posSource := if (gnssCfg s).posMode then 2 else 0
    retainedDue := !(gnssCfg s).posMode, surveyN := 0, sumX := 0, sumY := 0, sumZ := 0, sumSq := 0 }) s

/-- The baseband at an apply tick (R167, R168, R176, R187), by the configuration before it; `fresh` where PD3 starts anew. -/
def gnssApply (old : Sec07) (fresh : Bool) (s : State) : State :=
  let n := s.cfg.b07
  if !n.gnss.gnssEnable then refreshTiming { s with gnss := { timingState := s.gnss.timingState } }
  else if fresh || !old.gnss.gnssEnable then
    let s := takePosition (modGnss (fun _ => { startDue := true, cn0Table := (kept s.pd0.cn0Table).getD [] }) s)
    refreshTiming s
  else
    let s := if n.gnss.gantEn then s else modGnss (fun g => { g with antFault := false }) s
    let s := if old.gnss.posMode != n.gnss.posMode || (n.gnss.posMode && old.position != n.position) then takePosition s else s
    let restart := old.gnss.sampleFmt != n.gnss.sampleFmt || old.gnss.gsclkEdge != n.gnss.gsclkEdge ||
      old.gnss.gfeClocking != n.gnss.gfeClocking
    refreshTiming (if restart then modGnss (fun g => { stopChannels g with startDue := true, startAt := none }) s else s)

/-- `GNSS_STATE` (R192). -/
def gnssState (s : State) : Nat :=
  let g := s.gnss
  if !(gnssCfg s).gnssEnable then 0
  else if g.asleep then 5
  else if !positionHeld s && g.started && decide (0 < g.surveyN) then 3
  else if !g.solved then 1
  else if positionHeld s then 4
  else 2

end Sys2Proof.Machine
end

