-- ==== Sys2Proof/Machine/Ports.lean ====
section
/-!
DEFINITION. The ports: links, the responder, pauses, ESMC and the equaliser spares (10_ports_and_timestamp_points.md).
-/

namespace Sys2Proof.Machine

/-- The port a lane belongs to (R237). -/
def lanePort (s : State) (lane : Fin 8) : Fin 8 :=
  match portMode s lane with
  | 2 => Fin.ofNat 8 (lane.val / 2 * 2)
  | 3 => Fin.ofNat 8 (lane.val / 4 * 4)
  | _ => lane

/-- A responder frame sent (R247 to R249). -/
def respond (p : Fin 8) (f : Frame) (counter : Nat) : State → State := fun s =>
  sendBeside p (framePrio s p f) (some counter) (.frame p f none) s

/-- The tag of a frame under a serving address, whose priority the manual does not give (log entry 16). -/
def addrTags (a : ServingAddrRec) : List (Nat × Nat × Nat) :=
  if a.addrVid = 0 then [] else [(0x8100, Config.freeNat 3 % 8, a.addrVid)]

/-- A gratuitous ARP (R248): opcode as the manual leaves it (log entry 16). An ARP frame holds its sender's and its target's
protocol address in `ip`. -/
def garpFrame (s : State) (p : Fin 8) (a : ServingAddrRec) : Frame :=
  { len := 64 + (if a.addrVid = 0 then 0 else 4), dst := 0xFFFFFFFFFFFF, src := (portCfg s p).portMac, tags := addrTags a
    etherType := 0x0806, arpOp := 1 + Config.freeNat 14 % 2, target := addrOf a
    ip := some { src := addrOf a, dst := addrOf a } }

/-- FF02::1. -/
def allNodes : Nat := 0xFF02 * 2 ^ 112 + 1

/-- An unsolicited Neighbour Advertisement (R249). -/
def unsolicitedNa (s : State) (p : Fin 8) (a : ServingAddrRec) : Frame :=
  { len := 14 + (if a.addrVid = 0 then 0 else 4) + 40 + 32 + 4, dst := 0x333300000001, src := (portCfg s p).portMac
    tags := addrTags a, etherType := 0x86DD
    ip := some { v6 := true, src := addrOf a, dst := allNodes, proto := 58 }, icmpType := some 136, target := addrOf a
    payload := (if a.addrAnycast then [0x00#8] else [0x20#8]) ++ beBytes 6 (portCfg s p).portMac }

/-- The announcements of R248 and R249 for some addresses of a port. -/
def announceAddrs (p : Fin 8) (l : List ServingAddrRec) (s : State) : State :=
  if (portCfg s p).garpEn && maySend s && (s.ports[p]).link then
    (l.filter fun a => !a.addrAnycast).foldl (fun s a =>
      respond p (if a.addrV6 then unsolicitedNa s p a else garpFrame s p a) (0x0A0070 + p.val) s) s
  else s

/-- A port runs its PHY (R87, R239): it is present and enabled, and an ADPLL is left for `SD`. -/
def phyRuns (s : State) (p : Fin 8) : Bool :=
  portPresent s p && (portCfg s p).portEn && s.pwr.mode != .retain && !s.pll.unfilled.contains .sd

/-- What the PHY of a port reports is held (R239, R243): codewords corrected are counted, and remote fault is sent where local fault
is received. -/
def takePhy (l : LineState) (s : State) : State :=
  let p := l.port
  let fault := l.localFault && !(s.ports[p]).phy.localFault
  let s := modPort p (fun q => { q with phy := {
    signal := l.signal, cdr := l.cdr, blockLock := l.blockLock, fecLock := l.fecLock, localFault := l.localFault
    remoteFault := l.remoteFault, offered := l.offered, trained := l.trained, skewPs := l.skewPs
    phasePs := l.phasePs } }) s
  let s := countBy (0x0A0060 + p.val) l.corrected s
  if fault then put (.remoteFault p) s else s

/-- The mode of a port uses FEC (R238). -/
def usesFec (s : State) (p : Fin 8) : Bool := portMode s p != 5 || (portCfg s p).fecMode != 0

/-- The four conditions of a link, after what its bring-up asks (R239): the partner's offer under `AN_EN`, training under `LT_EN`, and
lanes calibrated against `SDCAL` (R504). -/
def linkGood (s : State) (p : Fin 8) : Bool :=
  let y := (s.ports[p]).phy
  bitAt s.pwr.lanesCal (5 + p.val / 4) && (!(portCfg s p).anEn || y.offered) && (!(portCfg s p).ltEn || y.trained) &&
  y.signal && y.cdr && y.blockLock && (!usesFec s p || y.fecLock) && !y.localFault && !y.remoteFault

/-- LINK_UP (R87, R239, R248, R249): the PHY reports, and where every condition of the link holds the port announces its addresses. -/
def execLinkUp (dt : Nat) (l : LineState) (s : State) : Host.Outcome State Fault Refusal :=
  act dt (fun s =>
    let p := l.port
    if !phyRuns s p then s
    else
      let s := takePhy l s
      if (s.ports[p]).link || !linkGood s p then s
      else
        let s := emit 0x0A01 (modPort p (fun q => { q with link := true }) s) p.val
        announceAddrs p (boundAddrs s p) s) s

/-- The slots a cancellation takes (R253, R255): those that hold, or are to hold, an answer. -/
def bookedSlots (s : State) (p : Fin 8) (f : Booking → Bool) : Nat :=
  ((s.ports[p]).book.filter fun b => f b && !b.void).length

/-- A frame crosses the MAC/PCS interface now (R255). -/
def crossingNow (s : State) (p : Fin 8) : Bool := (s.ports[p]).crossing.any fun t => decide (nowUnits s < t)

/-- A frame of the responder, ESMC or the telemetry crosses the MAC/PCS interface now, the gap after it not yet begun (R251, R473). -/
def lineCrossing (s : State) (p : Fin 8) : Bool := (s.ports[p]).lineBusy.any fun t => decide (nowUnits s + 12 * byteTime s p < t)

/-- The frames that cross the MAC/PCS interfaces are cut short (R473). -/
def cutFrames (s : State) : State :=
  (List.finRange 8).foldl (fun s p => if crossingNow s p || lineCrossing s p then put (.frameCut p) s else s) s

/-- Every parked answer of a port is dropped (R292 `LINK`), whether held in the park or offered from it. -/
def dropParked (p : Fin 8) (s : State) : State :=
  let s := countIdle s
  let mine (j : Job) := j.port == p && j.recommit
  let l := (s.core.park ++ s.core.precQ ++ s.core.assuredQ ++ s.core.generalQ).filter mine
  let s := modCore (fun c => { c with
    park := c.park.filter fun j => !mine j, precQ := c.precQ.filter fun j => !mine j
    assuredQ := c.assuredQ.filter fun j => !mine j, generalQ := c.generalQ.filter fun j => !mine j }) s
  l.foldl (fun s j => countRecommitDrop p (discard j s)) s

/-- The ends of every pause a port holds or held. -/
def pauseEnds (q : Port) : List Units := (q.pause.toList ++ q.pfc.toList.filterMap id)

/-- When a pause was last in force on a port, up to now. -/
def lastInForce (s : State) (p : Fin 8) : Option Units :=
  let l := (s.ports[p]).lastPause.toList ++ (pauseEnds s.ports[p]).map fun t => min t (nowUnits s)
  l.foldl (fun m t => some (match m with
    | some a => max a t
    | none => t)) none

/-- A port's link goes down (R239, R255, R263, R292): its slots and the frame that crosses are missed, its parked answers dropped,
and a pause ends with the link. -/
def dropLink (p : Fin 8) (s : State) : State :=
  if (s.ports[p]).link then
    let last := lastInForce s p
    let s := count (0x0A0088 + p.val) (emit 0x0A02 s p.val)
    let n := bookedSlots s p fun _ => true
    let s := if crossingNow s p then slotsCancelled p (n + 1) (countRecommitDrop p s) else slotsCancelled p n s
    let s := modPort p (fun q => { q with
      link := false, phy := {}, pause := none, pfc := Vector.replicate 8 none, lastPause := last, waiting := [], crossing := none
      lineBusy := none }) s
    dropParked p (missSlots .link p (fun _ => true) s)
  else s

/-- LINK_DOWN (R239, R255): the PHY reports, and where a condition of the link fails the link goes down. -/
def execLinkDown (dt : Nat) (l : LineState) (s : State) : Host.Outcome State Fault Refusal :=
  act dt (fun s =>
    let p := l.port
    if !phyRuns s p then s
    else
      let s := takePhy l s
      if linkGood s p then s
      else
        let y := (s.ports[p]).phy
        modPort p (fun q => { q with phy := y }) (dropLink p s)) s

/-- A token bucket of R250 drawn on: `rate` a second, a second deep. -/
def takeToken (s : State) (rate : Nat) (m : Meter) : Option Meter := meterTake s.clk rate (rate * clkPerSec) clkPerSec m

/-- A responder answer over its limit (R250). -/
def responderLimited (p : Fin 8) (s : State) : State := emitLimited 0x0A0A p.val (count (0x0A0078 + p.val) s)

/-- An ARP or ND answer under `RESP_RATE` (R250). -/
def respondNd (p : Fin 8) (f : Frame) (s : State) : State :=
  match takeToken s (portCfg s p).respRate (s.ports[p]).resp with
  | some m => respond p f (0x0A0070 + p.val) (modPort p (fun q => { q with resp := m }) s)
  | none => responderLimited p s

/-- An ARP reply (R248): unicast to the requester, `PORT_MAC` as the sender's hardware address. -/
def arpReply (s : State) (p : Fin 8) (f : Frame) : Frame :=
  { len := f.len, dst := f.src, src := (portCfg s p).portMac, tags := f.tags, etherType := 0x0806, arpOp := 2, target := frameSrc f
    ip := some { src := f.target, dst := frameSrc f } }

/-- ARP_REQUEST (R248, R250): a request for a serving address bound to the port, in the same VID, is answered. -/
def execArpRequest (dt : Nat) (p : Fin 8) (f : Frame) (s : State) : Host.Outcome State Fault Refusal :=
  act dt (receive p f fun s =>
    if f.etherType == 0x0806 && f.arpOp == 1 && (portCfg s p).arpNdEn && isServing s p f false f.target then
      respondNd p (arpReply s p f) s
    else s) s

/-- The serving address of a port, the frame's VID and a number. -/
def servingRec (s : State) (p : Fin 8) (f : Frame) (a : Nat) : Option ServingAddrRec :=
  (boundAddrs s p).find? fun r => r.addrV6 && r.addrVid == frameVid f && addrOf r == a

/-- A solicited Neighbour Advertisement (R249): flags S = 1, R = 0, O = 0 for an anycast address, and the option with
`PORT_MAC`. -/
def solicitedNa (s : State) (p : Fin 8) (f : Frame) (a : ServingAddrRec) : Frame :=
  { len := 14 + (if f.tags.isEmpty then 0 else 4) + 40 + 32 + 4, dst := f.src, src := (portCfg s p).portMac, tags := f.tags
    etherType := 0x86DD
    ip := some { v6 := true, src := if isServing s p f true (f.ip.getD {}).dst then (f.ip.getD {}).dst else f.target
                 dst := frameSrc f, proto := 58, dscp := (f.ip.getD {}).dscp
                 flowLabel := (f.ip.getD {}).flowLabel }
    icmpType := some 136, target := f.target
    payload := (if a.addrAnycast then [0x40#8] else [0x60#8]) ++ beBytes 6 (portCfg s p).portMac }

/-- NEIGHBOUR_SOLICITATION (R249, R250). -/
def execNeighbourSolicitation (dt : Nat) (p : Fin 8) (f : Frame) (s : State) : Host.Outcome State Fault Refusal :=
  act dt (receive p f fun s =>
    match servingRec s p f f.target with
    | some a =>
      if f.etherType == 0x86DD && f.icmpType == some 135 && (portCfg s p).arpNdEn then respondNd p (solicitedNa s p f a) s else s
    | none => s) s

/-- An echo reply (R250): type 0 or 129, its data copied, framed from its request (R247). -/
def echoReply (s : State) (p : Fin 8) (f : Frame) : Frame :=
  let h := f.ip.getD {}
  { len := f.len, dst := f.src, src := (portCfg s p).portMac, tags := f.tags.take 1, etherType := f.etherType
    ip := some { v6 := h.v6, src := h.dst, dst := h.src, proto := h.proto, dscp := h.dscp
                 flowLabel := if h.v6 then h.flowLabel else 0 }
    icmpType := some (if h.v6 then 129 else 0), payload := f.payload }

/-- ECHO_REQUEST (R250): an echo request to a serving address is answered under `ECHO_RATE`. -/
def execEchoRequest (dt : Nat) (p : Fin 8) (f : Frame) (s : State) : Host.Outcome State Fault Refusal :=
  act dt (receive p f fun s =>
    let h := f.ip.getD {}
    if f.ip.isSome && f.icmpType == some (if h.v6 then 128 else 8) && h.proto == (if h.v6 then 58 else 1) &&
        isServing s p f h.v6 h.dst then
      match takeToken s (portCfg s p).echoRate (s.ports[p]).echo with
      | some m => respond p (echoReply s p f) (0x0A0080 + p.val) (modPort p (fun q => { q with echo := m }) s)
      | none => responderLimited p s
    else s) s

/-- One quantum of pause time (R253): 512 bit times at the port's MAC rate. -/
def quantum (s : State) (p : Fin 8) : Units := 64 * byteTime s p

/-- Some pause is in force on a port. -/
def anyPause (s : State) (p : Fin 8) : Bool := (pauseEnds s.ports[p]).any fun t => decide (nowUnits s < t)

/-- A pause was in force during the preceding second (R253). -/
def pausedLately (s : State) (p : Fin 8) : Bool :=
  anyPause s p || (lastInForce s p).any fun t => decide (nowUnits s - (unitsPerSec : Int) < t)

/-- The parked answers of a port that no long pause holds any more are offered, oldest first (R292). -/
def releaseParked : Nat → Fin 8 → State → State
  | 0, _, s => s
  | n + 1, p, s =>
    match s.core.park.find? fun j => j.port == p && !longPause s p (framePrio s p (j.out.getD {})) with
    | some j => releaseParked n p (offerRecommit j (modCore (fun c => { c with park := c.park.erase j }) s))
    | none => s

/-- The pauses of a port replaced (R253, R254): a pause that takes effect after a second without one is reported, the launches it
covers are cancelled, and what an early end frees goes on. -/
def pauseTaken (p : Fin 8) (f : Port → Port) (covers : Booking → Bool) (s : State) : State :=
  let lately := pausedLately s p
  let last := lastInForce s p
  let s := modPort p (fun q => { f q with lastPause := last }) s
  let s := if anyPause s p && !lately then emit 0x0A04 s p.val else s
  let n := bookedSlots s p covers
  let s := missSlots .park p (fun b => covers b && !b.void) (slotsCancelled p n s)
  sendWaiting p (releaseParked s.core.park.length p s)

/-- A control frame reaches a port that is up (R258): `Pn_PAUSE_RX_CNT` counts every PAUSE and PFC frame received (R269), the ones
discarded under R252 among them. -/
def receiveControl (p : Fin 8) (k : State → State) (s : State) : State :=
  if !(s.ports[p]).link || s.pwr.mode == .retain then s
  else
    let s := recordRx p (openPoint s) s
    match s.pwr.mode with
    | .load | .safe => count (0x0A0048 + p.val) s
    | _ => k (count (0x0A0050 + p.val) s)

/-- PAUSE_FRAME (R252 to R254): a PAUSE frame's FCS crosses the MAC/PCS interface. -/
def execPauseFrame (dt : Nat) (p : Fin 8) (quanta : Nat) (wellFormed : Bool) (s : State) : Host.Outcome State Fault Refusal :=
  act dt (receiveControl p fun s =>
    if (portCfg s p).pauseObey && wellFormed then
      let te := nowUnits s
      let stop := te + ((quanta % 65536 : Nat) : Int) * quantum s p
      pauseTaken p (fun q => { q with pause := if quanta % 65536 = 0 then none else some stop })
        (fun b => decide (te ≤ b.ttx ∧ b.ttx < stop)) s
    else s) s

/-- The end of a priority's pause after a PFC frame (R254), none where its enable bit is not set. -/
def pfcStop (s : State) (p : Fin 8) (t : PfcTimes) (k : Nat) : Option Units :=
  if bitAt t.enable k then some (nowUnits s + ((t.quanta.getD k 0 % 65536 : Nat) : Int) * quantum s p) else none

/-- PFC_FRAME (R252 to R254): a PFC frame's FCS crosses the MAC/PCS interface; each priority whose bit is set is treated
separately. -/
def execPfcFrame (dt : Nat) (p : Fin 8) (times : PfcTimes) (wellFormed : Bool) (s : State) : Host.Outcome State Fault Refusal :=
  act dt (receiveControl p fun s =>
    if (portCfg s p).pfcObey && wellFormed then
      let te := nowUnits s
      let stop := pfcStop s p times
      let next (q : Port) : Vector (Option Units) 8 := Vector.ofFn fun k =>
        match stop k.val with
        | some t => if t = te then none else some t
        | none => q.pfc[k]
      pauseTaken p (fun q => { q with pfc := next q })
        (fun b => (stop b.prio).any fun u => decide (te ≤ b.ttx ∧ b.ttx < u)) s
    else s) s

/-- A pause end that has passed is forgotten. -/
def expire (now : Units) (o : Option Units) : Option Units := o.filter fun t => decide (now < t)

/-- PAUSE_END (R253, R254): a PAUSE, or the pause of one priority, has run out. What it held goes on. -/
def execPauseEnd (dt : Nat) (p : Fin 8) (prio : Option (Fin 8)) (s : State) : Host.Outcome State Fault Refusal :=
  act dt (fun s =>
    let now := nowUnits s
    let last := lastInForce s p
    let s := modPort p (fun q =>
      match prio with
      | none => { q with pause := expire now q.pause, lastPause := last }
      | some k => { q with pfc := q.pfc.set k (expire now q.pfc[k]), lastPause := last }) s
    sendWaiting p (releaseParked s.core.park.length p s)) s

/-- The SSM code of a QL (R260). -/
def ssmOfQl (q : Nat) : Nat :=
  [2, 2, 2, 2, 2, 4, 4, 4, 4, 4, 8, 0xB, 0xB, 0xB, 0xB].getD q 0xF

/-- The enhanced code of a QL, 0xFF for none (R260). -/
def essmOfQl (q : Nat) : Nat :=
  match q with
  | 0 => 0x21
  | 1 => 0x20
  | 2 => 0x23
  | 11 => 0x22
  | _ => 0xFF

/-- The port carries the lane named by `SYNCE_LANE` of the selected `REF11` or `REF12` (R260). -/
def dnuLoop (s : State) (p : Fin 8) : Bool :=
  match s.gov.sel with
  | some n => decide (11 ≤ n.val) && lanePort s (Fin.ofNat 8 (s.cfg.b05.slot[n]).synceLane) == p
  | none => false

/-- The `SD` role is in word hold, or no ADPLL is left for it (R96). -/
def sdHolds (s : State) : Bool :=
  let a := s.pll.adpll[s.pll.roleSd]
  a.held || a.st == .wordHold || s.pll.unfilled.contains .sd

/-- The SSM code and the enhanced code a port sends now (R260, R261). -/
def esmcCodes (s : State) (p : Fin 8) : Nat × Nat :=
  let ext (q : Nat) := if (portCfg s p).esmcExtEn then essmOfQl q else 0xFF
  if dnuLoop s p || s.pwr.mode == .acquire then (0xF, 0xFF)
  else if !s.cfg.b04.adpll[2].followEn || sdHolds s || s.pll.tbState == .dcoHold || s.pll.tbState == .freeRun then (0xB, 0xFF)
  else (ssmOfQl (todQl s), ext (todQl s))

/-- The extended QL TLV of a PDU (R261). -/
def esmcTlv (s : State) (essm : Nat) : Option EsmcTlv :=
  if essm = 0xFF then none
  else
    let own : EsmcTlv := { essm := essm, clockId := s.cfg.b0D.ptp.clockId, flags := 0, eeecCount := 1, eecCount := 0 }
    match s.gov.sel with
    | some n =>
      match decide (11 ≤ n.val), (s.refs[n]).ssm with
      | true, some (_, some t) =>
        some { essm := essm, clockId := t.clockId, flags := t.flags, eeecCount := min 255 (t.eeecCount + 1), eecCount := t.eecCount }
      | _, _ => some own
    | none => some own

/-- ESMC_RX (R114, R116, R258, R261): an ESMC frame arrives at the port that carries the lane of `REF11` or `REF12`; in SAFE it is dropped and
counted like any other. It is received through a reload (R116): R258's drop is of the frames of the serving half (DEDUCED, log
entry 102). -/
def execEsmcRx (dt : Nat) (slot : Fin 2) (ssm : Nat) (tlv : Option EsmcTlv) (s : State) : Host.Outcome State Fault Refusal :=
  act dt (fun s =>
    let n : Fin 13 := Fin.ofNat 13 (11 + slot.val)
    let p := lanePort s (Fin.ofNat 8 (s.cfg.b05.slot[n]).synceLane)
    if !(s.ports[p]).link || s.pwr.mode == .retain then s
    else
      let s := recordRx p (openPoint s) s
      if s.pwr.mode == .safe || (s.pwr.mode == .load && s.pwr.loadKind != .reload) then count (0x0A0048 + p.val) s
      else modRef n (fun r => { r with ssm := some (ssm % 16, tlv) }) (count (0x0A0028 + p.val) s)) s

/-- A port sends ESMC (R260, R261). -/
def esmcSends (s : State) (p : Fin 8) : Bool :=
  maySend s && portPresent s p && (portCfg s p).portEn && (portCfg s p).esmcTxEn && (s.ports[p]).link

/-- An ESMC PDU sent (R260): untagged, so under `UNTAGGED_PRIO`. -/
def esmcSend (p : Fin 8) (event : Bool) (s : State) : State :=
  let c := esmcCodes s p
  let s := modPort p (fun q => { q with ssm := c.1, essm := c.2, dnu := dnuLoop s p }) s
  sendBeside p (Fin.ofNat 8 (portCfg s p).untaggedPrio) (some (0x0A0090 + p.val)) (.esmc p c.1 (esmcTlv s c.2) event) s

/-- ESMC_INFO_TX (R260, R261): the information PDU of a second. -/
def execEsmcInfoTx (dt : Nat) (p : Fin 8) (s : State) : Host.Outcome State Fault Refusal :=
  act dt (fun s => if esmcSends s p then esmcSend p false s else s) s

/-- ESMC at a Governor tick (R260): an event PDU where the code changes, with event 0x0A09. -/
def esmcTick (p : Fin 8) (s : State) : State :=
  if esmcSends s p && decide (esmcCodes s p ≠ (s.ports[p]).tickCode) then
    emit 0x0A09 (esmcSend p true (modPort p (fun q => { q with tickCode := esmcCodes s p }) s)) p.val
  else s

/-- The spare slice of a group (R262): the one that serves no lane and is not retired. -/
def eqSpare (s : State) (g : Fin 2) : Option (Fin 5) :=
  (List.finRange 5).find? fun k =>
    !(s.dress.eqMap[g]).toList.contains k.val && !bitAt (retiredMap s (Fin.ofNat 12 (6 + g.val))) k.val

/-- The Dresser retires a slice (R456): worn with `AUTO_RETIRE`. -/
def eqRetires (s : State) (g : Fin 2) (slice : Nat) : Bool :=
  (dressCfg s).autoRetire && bitAt (s.dress.worn[(Fin.ofNat 12 (6 + g.val) : Fin 12)]) slice

/-- EQ_SLICE_SWAPPED (R262, R263): a worn slice's spare has adapted and been compared; it takes the lane over, or is retired
itself. The swap waits for the link to be up and for no pause. -/
def execEqSliceSwapped (dt : Nat) (g : Fin 2) (lane : Fin 4) (ok : Bool) (s : State) : Host.Outcome State Fault Refusal :=
  actPd0 dt (fun s =>
    let kind : Fin 12 := Fin.ofNat 12 (6 + g.val)
    let p := lanePort s (Fin.ofNat 8 (4 * g.val + lane.val))
    let old := (s.dress.eqMap[g])[lane]
    match eqSpare s g with
    | none => s
    | some k =>
      if !eqRetires s g old || !(s.ports[p]).link || anyPause s p then s
      else if ok then
        let s := modDress (fun d => { d with eqMap := d.eqMap.set g ((d.eqMap[g]).set lane k.val) }) s
        retireUnit kind old (emit 0x0A07 (count 0x0A0006 s) g.val k.val)
      else retireUnit kind k.val (emit 0x0A08 s g.val k.val)) s

/-- FEC_UNCORRECTABLE (R269, R270): an uncorrectable codeword on a port, and how many were corrected before it. -/
def execFecUncorrectable (dt : Nat) (r : FecReport) (s : State) : Host.Outcome State Fault Refusal :=
  act dt (fun s =>
    let p := r.port
    if portPresent s p && (portCfg s p).portEn then
      let s1 := modPort p (fun q => { q with fecAt := some s.clk })
        (count (0x0A0068 + p.val) (countBy (0x0A0060 + p.val) r.corrected s))
      match (s.ports[p]).fecAt with
      | some t => if t + clkPerSec ≤ s.clk then emit 0x0A03 s1 p.val else s1
      | none => emit 0x0A03 s1 p.val
    else s) s

end Sys2Proof.Machine
end

