-- ==== Sys2Proof/Machine/Ptp.lean ====
section
/-!
DEFINITION. The PTP service (13_ptp_service.md): the requests, the schedules, the sweep and the next-hop table.
-/

namespace Sys2Proof.Machine

/-- A PTP frame that passed R245 and R246: Ethernet PTP, or UDP to port 319 or 320. -/
def isPtpFrame (f : Frame) : Bool :=
  f.etherType == 0x88F7 || (f.ip.isSome && ((f.udp.map (·.dstPort)) == some 319 || (f.udp.map (·.dstPort)) == some 320))

/-- A TLV that asks for or gives back a grant (R333). -/
def asksGrant (t : Tlv) : Bool := t.tlvType == 4 || t.tlvType == 6

/-- What becomes of a PTP frame (R333). -/
inductive PtpOutcome
  /-- Dropped, and counted at an address. -/
  | drop (counter : Nat)
  | delayReq
  | signaling
  /-- Of a domain of the client role, or of no role. -/
  | none
deriving DecidableEq, Repr

/-- The first row of R333 that matches a message on a master port. A message type IEEE 1588 leaves reserved matches none. -/
def masterOutcome (s : State) (p : Fin 8) (m : PtpMsg) : PtpOutcome :=
  let r := ptpPort s p
  if m.version != 2 || m.majorSdoId != 0 || !m.lengthOk then .drop 0x0D000C
  else if m.domain != r.domain then .drop 0x0D000B
  else match m.messageType with
    | 0x1 => .delayReq
    | 0xC => if r.profile == 2 && m.tlvs.any asksGrant then .signaling else .drop 0x0D0009
    | 0x0 | 0x8 | 0x9 | 0xB => .drop 0x0D0009
    | 0x2 | 0x3 | 0xA | 0xD => .drop 0x0D000A
    | _ => .none

/-- The frame came by a transport of the port (R331): Ethernet, IPv4 or IPv6 as `TRANSPORT` says, either IP where it is 3. -/
def cameByTransport (s : State) (p : Fin 8) (f : Frame) : Bool :=
  match (ptpPort s p).transport, f.ip with
  | 0, h => h.isNone
  | _, none => false
  | 1, some h => !h.v6
  | 2, some h => h.v6
  | _, some _ => true

/-- What a master port does with a message of a frame (R331, R333): one that no supported transport brought is answered by nothing, and no
row counts it (DEDUCED, log entry 100). -/
def servedOutcome (s : State) (p : Fin 8) (f : Frame) (m : PtpMsg) : PtpOutcome :=
  match masterOutcome s p m with
  | .drop a => .drop a
  | o => if cameByTransport s p f then o else .none

/-- A client instance is enabled on a port (R333). -/
def clientOn (s : State) (p : Fin 8) : Bool := s.cfg.b0D.client.toList.any fun c => c.cEn && c.cPort == p.val

/-- A domain of a client instance on a port. -/
def clientDomain (s : State) (p : Fin 8) (d : Nat) : Bool :=
  s.cfg.b0D.client.toList.any fun c => c.cEn && c.cPort == p.val && c.cDomain == d

/-- The outcome of a PTP frame on a port (R333). -/
def ptpOutcome (s : State) (p : Fin 8) (f : Frame) : PtpOutcome :=
  if (ptpPort s p).masterEn then
    match f.ptp with
    | some m => servedOutcome s p f m
    | none => .drop 0x0D000C
  else if clientOn s p then (if clientDomain s p (f.ptp.getD {}).domain then .none else .drop 0x0D000B)
  else .none

/-- The master ports answer nothing (R339). -/
def ptpSilent (s : State) : Bool := s.pwr.mode == .acquire && !s.cfg.b0D.ptp.acqMode

/-- The `NH_MAC` entry of a source MAC and a port, refreshed or taken (R348); none where none is free. Which free entry is taken is
the lowest (log entry 16). -/
def takeMac (p : Fin 8) (mac : Nat) (s : State) : Option Nat × State :=
  let t := s.garner.nhMac
  match t.find? fun e => e.2.1 == mac && e.2.2.1 == p.val with
  | some e =>
    (some e.1, modGarner (fun g => { g with nhMac := putIndexed e.1 (mac, p.val, s.clk) g.nhMac }) s)
  | none =>
    if 4096 ≤ t.length then (none, s)
    else match (List.range 4096).find? fun i => !t.any fun e => e.1 == i with
      | some i => (some i, modGarner (fun g => { g with nhMac := putIndexed i (mac, p.val, s.clk) g.nhMac }) s)
      | none => (none, s)

/-- A PTP request admitted (R339, R348, R382). -/
def ptpRequest (p : Fin 8) (k : JobKind) (r : RxPoint) (f : Frame) (s : State) : State :=
  if ptpSilent s then count 0x0D0010 s
  else
    let j := requestJob s p k f (t2Of s p r) (degradedNow s) s.tb.stepCount
    match k with
    | .signaling =>
      let m := takeMac p f.src s
      let asks := (f.ptp.getD {}).tlvs.any fun t => t.tlvType == 4
      letIn { j with macIdx := m.1 } (if m.1.isNone && asks then emit 0x0D03 m.2 p.val else m.2)
    | _ => letIn j s

/-- A PTP frame received (R333), its point open where its command does not tell it (log entry 16). -/
def ptpReceive (p : Fin 8) (r : Option RxPoint) (f : Frame) : State → State :=
  receive p f (fun s =>
    let at_ := r.getD (openPoint s)
    if !isPtpFrame f then s
    else match ptpOutcome s p f with
      | .drop a => count a s
      | .delayReq => ptpRequest p .delayReq at_ f s
      | .signaling => ptpRequest p .signaling at_ f s
      | .none => s) r

/-- DELAY_REQ (R333, R339, R342): a Delay_Req is received on a master port. -/
def execDelayReq (dt : Nat) (p : Fin 8) (r : RxPoint) (f : Frame) (s : State) : Host.Outcome State Fault Refusal :=
  act dt (ptpReceive p (some r) f) s

/-- SIGNALING_REQUEST (R333, R345 to R349): a Signaling message is received on a profile 2 master port. -/
def execSignalingRequest (dt : Nat) (p : Fin 8) (r : RxPoint) (f : Frame) (s : State) : Host.Outcome State Fault Refusal :=
  act dt (ptpReceive p (some r) f) s

/-- PTP_MESSAGE_DROPPED (R333): a PTP message is dropped and counted under its row. -/
def execPtpMessageDropped (dt : Nat) (p : Fin 8) (f : Frame) (s : State) : Host.Outcome State Fault Refusal :=
  act dt (ptpReceive p none f) s

/-- The 20 bits of a grant index reversed (R340). -/
def bitrev20 (g : Nat) : Nat := (List.range 20).foldl (fun n i => n + if bitAt g i then 2 ^ (19 - i) else 0) 0

/-- I = 2^L seconds, in units; every log interval a stream may have gives a whole number. -/
def interval (l : Int) : Units := if l < 0 then (unitsPerSec / 2 ^ (-l).toNat : Nat) else (unitsPerSec * 2 ^ l.toNat : Nat)

/-- φ of the unicast stream of a grant (R340). -/
def grantPhase (g : Nat) (i : Units) : Units := ((bitrev20 g : Int) * (i / (unitsPerNs : Int)) / 2 ^ 20) * (unitsPerNs : Int)

/-- φ of the multicast stream of a port (R340). -/
def portPhase (n : Fin 8) (i : Units) : Units := (n.val : Int) * i / 8

/-- The stream of a source: its port, class, log interval and phase; none where it has no stream of the type. -/
def streamOf (s : State) (src : SchedSource) (announce : Bool) : Option (Fin 8 × Cls × Int) :=
  match src with
  | .grant g =>
    match getIndexed g.toNat s.garner.calendar with
    | some e =>
      let code := if announce then e.annCode else e.syncCode
      if code = 0 then none
      else some (Fin.ofNat 8 e.port, if e.prec then .prec else .general, (code : Int) - (if announce then 4 else 8))
    | none => none
  | .port p =>
    let r := ptpPort s p
    if r.masterEn && r.profile != 2 then
      some (p, if r.mcastPrec then .prec else .general, if announce then r.logAnnounce else r.logSync)
    else none

/-- Every answer in the core, whatever stage it has reached. -/
def liveJobs (s : State) : List Job :=
  s.core.precQ ++ s.core.assuredQ ++ s.core.generalQ ++ s.core.park ++
  s.core.ms.toList.flatMap (fun m => (m.front.map (·.1)).toList ++ (m.back.map (·.1)).toList) ++
  s.ports.toList.flatMap fun q => q.book.filterMap (·.job)

/-- The Signaling answer that newly granted a stream has not left yet (R343). -/
def awaitsGrantAnswer (s : State) (g : Nat) (announce : Bool) : Bool :=
  (liveJobs s).any fun j => j.kind == .signaling && j.grant == g && bitAt j.k (if announce then 1 else 0)

/-- SCHEDULED_MESSAGE_DUE (R340, R341, R343): a stream's t_k comes, and its descriptor is placed. -/
def execScheduledMessageDue (dt : Nat) (src : SchedSource) (announce : Bool) (s : State) : Host.Outcome State Fault Refusal :=
  act dt (fun s =>
    match streamOf s src announce with
    | none => s
    | some (p, c, l) =>
      let i := interval l
      let phase := match src with
        | .grant g => grantPhase g.toNat i
        | .port n => portPhase n i
      let k := (nowUnits s - phase) / i
      let g := match src with
        | .grant g => g.toNat
        | .port _ => 0
      let mcast := match src with
        | .grant _ => false
        | .port _ => true
      if !maySend s || ptpSilent s || (!mcast && awaitsGrantAnswer s g announce) then s
      else if !portPresent s p || !(s.ports[p]).link then count 0x0D000D s
      else
        placeJob { kind := if announce then .announce else .sync, cls := c, port := p, t2 := k * i + phase
                   t2Degraded := degradedNow s, stepEpoch := s.tb.stepCount, grant := g, mcast := mcast, k := k.toNat } s) s

/-- GRANT_SWEEP (R347): the sweep descriptor of one block of 64 records. -/
def execGrantSweep (dt : Nat) (block : Fin 16384) (s : State) : Host.Outcome State Fault Refusal :=
  act dt (fun s =>
    if maySend s then
      placeJob { kind := .sweep, cls := .general, t2 := nowUnits s, t2Degraded := degradedNow s, stepEpoch := s.tb.stepCount
                 grant := block.val } s
    else s) s

/-- NH_MAC_EXPIRY (R348): an entry not refreshed for 2,048 s is freed. -/
def execNhMacExpiry (dt : Nat) (entry : Fin 4096) (s : State) : Host.Outcome State Fault Refusal :=
  act dt (fun s =>
    modGarner (fun g => { g with
      nhMac := g.nhMac.filter fun e => !(e.1 == entry.val && decide (e.2.2.2 + 2048 * clkPerSec ≤ s.clk)) }) s) s

end Sys2Proof.Machine
end

