-- ==== Sys2Proof/Machine/Asym.lean ====
section
/-!
DEFINITION. The watch on delay and cross-reference difference that R357, R358 and R411 share.
-/

namespace Sys2Proof.Machine

/-- What a second's comparison finds (R358, R411). -/
inductive AsymVerdict
  | quiet
  /-- D and Z have both moved within two consecutive seconds. -/
  | reroute
  /-- D has moved and Z has not. -/
  | delayStep
deriving DecidableEq, Repr

/-- The mean of a sum of samples, none for none. -/
def meanOf (sum : Rat) (n : Nat) : Option Rat := if n = 0 then none else some (sum / (n : Nat))

/-- The mean of the preceding seconds that had samples. -/
def pastMean (past : List (Option Rat)) : Rat := mean (past.filterMap id)

/-- A second's mean lies beyond a limit from the mean of the seconds before it. -/
def movedBeyond (lim : Rat) (v : Option Rat) (past : List (Option Rat)) : Bool :=
  match v with
  | some v => past.any (·.isSome) && decide (lim < v - pastMean past ∨ lim < pastMean past - v)
  | none => false

/-- A second's mean lies within a limit of a value. -/
def backWithin (lim : Rat) (v : Option Rat) (past : Rat) : Bool :=
  match v with
  | some v => decide (v - past ≤ lim ∧ past - v ≤ lim)
  | none => false

/-- The watch at a second marker (R357 to R359, R411): D and Z of the second are compared with their means over the preceding 64 s.
Without a cross-reference nothing is found (R357, R411). Where `accept`, a change of delay without a change of difference becomes the
new mean (R358). -/
def asymSecond (accept xref : Bool) (dLim zLim : Rat) (w : AsymWatch) : AsymWatch × AsymVerdict :=
  let d := meanOf w.dSum w.dN
  let z := meanOf w.zSum w.zN
  let w0 := { w with
    dSum := 0, dN := 0, zSum := 0, zN := 0, noXref := !xref, dOut := false, zOut := false
    d64 := (d :: w.d64).take 64, z64 := (z :: w.z64).take 64 }
  match w.pre with
  | some (d0, z0) => ({ w0 with back := backWithin dLim d d0 && backWithin zLim z z0 }, .quiet)
  | none =>
    let dOut := movedBeyond dLim d w.d64
    let zOut := movedBeyond zLim z w.z64
    if !xref then (w0, .quiet)
    else if (dOut || w.dOut) && (zOut || w.zOut) then
      let dm := pastMean w.d64
      let zm := pastMean w.z64
      ({ w0 with pre := some (dm, zm), back := false, delayStep := d.getD dm - dm, asymEst := -(z.getD zm - zm) }, .reroute)
    else if accept && w.dOut then ({ w0 with zOut := zOut, d64 := [d] }, .delayStep)
    else ({ w0 with dOut := dOut, zOut := zOut }, .quiet)

/-- A sample of delay taken into the second. -/
def asymDelay (d : Rat) (w : AsymWatch) : AsymWatch := { w with dSum := w.dSum + d, dN := w.dN + 1 }

/-- A sample of the difference to the cross-reference, or that there is none. -/
def asymDiff (z : Option Rat) (w : AsymWatch) : AsymWatch :=
  match z with
  | some z => { w with zSum := w.zSum + z, zN := w.zN + 1, noXref := false }
  | none => { w with noXref := true }

/-- The median of a list of intervals, the mean of the middle two where their number is even. -/
def medianUnits (l : List Units) : Units :=
  let s := sortBy (fun a b => decide (a ≤ b)) l
  (s.getD ((s.length - 1) / 2) 0 + s.getD (s.length / 2) 0) / 2

/-- A slot is taken out of use by a re-route (R358, R411). -/
def quarantine (n : Fin 13) (s : State) : State :=
  match (s.refs[n]).st with
  | .disabled | .unavailable | .noSignal => s
  | _ => modRef n (fun r => { r with st := .quarantined, partner := none }) s

/-- A slot leaves QUARANTINED for QUALIFYING (R359, R411). -/
def unquarantine (n : Fin 13) (s : State) : State :=
  if (s.refs[n]).st == .quarantined then modRef n (fun r => { r with st := .qualifying, samples := [], jumpRun := 0 }) s else s

/-- A slot returns to QUALIFYING for a new source (R352). -/
def requalify (n : Fin 13) (s : State) : State :=
  match (s.refs[n]).st with
  | .disabled | .unavailable | .noSignal | .quarantined => s
  | _ => modRef n (fun r => { r with
      st := .qualifying, samples := [], jumpRun := 0, partner := none, delivered := none, awaited := false }) s

/-- The first of some slots that is ELIGIBLE or SELECTED (R357, R411). -/
def crossRef (s : State) (l : List (Fin 13)) : Option (Fin 13) := l.find? (inPlay s)

end Sys2Proof.Machine
end

