-- ==== Sys2Proof/Machine/PtpClient.lean ====
section
/-!
DEFINITION. The client role of PTP (13_ptp_service.md, R351 to R359). An operand `src` names a master: on profile 2 by its
address, on profiles 0 and 1 by its port identity.
-/

namespace Sys2Proof.Machine

/-- The active record of an instance. -/
def cliCfg (s : State) (i : Fin 2) : PtpClientRec := s.cfg.b0D.client[i]

/-- The slot an instance feeds (R351). -/
def cliSlot (i : Fin 2) : Fin 13 := Fin.ofNat 13 (5 + i.val)

/-- The port of an instance. -/
def cliPort (s : State) (i : Fin 2) : Fin 8 := Fin.ofNat 8 (cliCfg s i).cPort

/-- One instance changed. -/
def modCli (i : Fin 2) (f : Client → Client) (s : State) : State := { s with cli := s.cli.set i (f s.cli[i]) }

/-- The address of a configured master (R352, R363). -/
def masterAddr (c : PtpClientRec) (m : Nat) : Nat := addrNat (c.cTransport == 2) (bytesAt c.cMasterAddr (16 * m) 16)

/-- The configured masters of profile 2. -/
def masters (c : PtpClientRec) : List Nat := (List.range c.cMasterCnt).map (masterAddr c)

/-- The frame that carried a message to an instance: of its transport, untagged. -/
def heardFrame (c : PtpClientRec) (m : PtpMsg) : Frame :=
  { len := frameLen (c.cTransport != 0) false (c.cTransport == 2) (ptpLen m), ptp := some m }

/-- A message of an instance's domain reaches it (R257, R258, R333, R351): counted, and stored for a Millstone as PRECEDENCE, with its
master, its messageType, and T2 where it is an event message. -/
def clientRx (i : Fin 2) (src type : Nat) (r : Option RxPoint) (m : PtpMsg) (s : State) : State :=
  let p := cliPort s i
  if !(cliCfg s i).cEn || !(s.ports[p]).link then s
  else if s.pwr.mode == .retain then s
  else
    let s := recordRx p (r.getD (openPoint s)) s
    match s.pwr.mode with
    | .load | .safe => count (0x0A0048 + p.val) s
    | _ =>
      let s := count (0x0A0028 + p.val) s
      if m.domain != (cliCfg s i).cDomain then count 0x0D000B s
      else
        let j : Job := { kind := .clientRx, cls := .prec, port := p, client := i, grant := src, k := type, req := heardFrame (cliCfg s i) m
                         t2 := match r with
                           | some r => t2Of s p r
                           | none => nowUnits s
                         t2Degraded := degradedNow s, stepEpoch := s.tb.stepCount }
        storeJob j (admitted .prec 2 (offer .prec 2 s))

/-- A message of the client placed for sending (R351): PRECEDENCE, 0.5 SU. `tlvs` make it a Signaling message. -/
def clientSend (i : Fin 2) (toward k : Nat) (tlvs : List Tlv) (s : State) : State :=
  if maySend s then
    placeJob { kind := .clientReq, cls := .prec, port := cliPort s i, t2 := nowUnits s, t2Degraded := degradedNow s
               stepEpoch := s.tb.stepCount, client := i, grant := toward, k := k, reply := tlvs } s
  else s

/-- The log interval an instance asks for a message type (R354, R363). -/
def askLog (c : PtpClientRec) (type : Nat) : Int :=
  if type == 0xB then c.cLogAnnounce else if type == 0 then c.cLogSync else c.cLogDreq

/-- The entry of a master and a message type in an instance's list of grants set. -/
def setClientGrant (master type : Nat) (f : ClientGrant → ClientGrant) (l : List ClientGrant) : List ClientGrant :=
  if l.any fun g => g.master == master && g.messageType == type then
    l.map fun g => if g.master == master && g.messageType == type then f g else g
  else l ++ [f { master := master, messageType := type }]

/-- Grants requested of a master for `C_DURATION_S` (R354), in one Signaling message. -/
def askGrants (i : Fin 2) (master : Nat) (types : List Nat) (s : State) : State :=
  let c := cliCfg s i
  if types.isEmpty then s
  else
    let s := modCli i (fun x => { x with
      grants := types.foldl (fun l t => setClientGrant master t (fun g => { g with asked := some s.clk }) l) x.grants }) s
    clientSend i master 0 (types.map fun t =>
      { tlvType := 4, messageType := t, logInterval := askLog c t, duration := c.cDurationS }) s

/-- Announce is requested of every configured master (R352). -/
def askAnnounces (i : Fin 2) (s : State) : State :=
  if (cliCfg s i).cEn && (cliCfg s i).cProfile == 2 then (masters (cliCfg s i)).foldl (fun s a => askGrants i a [0xB] s) s else s

/-- localPriority of a master (R363): by its number on profile 2. -/
def localPrio (c : PtpClientRec) (src : Nat) : Nat :=
  if c.cProfile == 2 then bitsOf c.cLocalPrio (8 * ((masters c).findIdx fun a => a == src)) 8 else bitsOf c.cLocalPrio 0 8

/-- The dataset of the G.8275 alternate comparison (R352), in its order. -/
def altDataset (c : PtpClientRec) (x : Candidate) : List Nat :=
  [x.msg.gmClass, x.msg.gmAccuracy, x.msg.gmVariance, x.msg.gmPriority2, localPrio c x.src, x.msg.gmIdentity, x.msg.stepsRemoved]

/-- The dataset of the IEEE 1588 comparison (R352). -/
def stdDataset (x : Candidate) : List Nat :=
  [x.msg.gmPriority1, x.msg.gmClass, x.msg.gmAccuracy, x.msg.gmVariance, x.msg.gmPriority2, x.msg.gmIdentity,
   x.msg.stepsRemoved, x.msg.clockId, x.msg.portNumber]

/-- The first list comes before the second, entry by entry. -/
def lexLess : List Nat → List Nat → Bool
  | a :: r, b :: t => decide (a < b) || (a == b && lexLess r t)
  | _, _ => false

/-- One candidate is better than another (R352). -/
def betterMaster (c : PtpClientRec) (a b : Candidate) : Bool :=
  if c.cProfile == 0 then Config.datasetBetter (stdDataset a) (stdDataset b) else lexLess (altDataset c a) (altDataset c b)

/-- The best of the qualified candidates. -/
def bestMaster (c : PtpClientRec) (l : List Candidate) : Option Nat :=
  ((l.filter (·.qualified)).foldl (fun (m : Option Candidate) x =>
    match m with
    | none => some x
    | some y => if betterMaster c x y then some x else some y) none).map (·.src)

/-- The former masters whose grants are to be cancelled, when one master follows another (R352): the new one's stand. -/
def formerMasters (old new : Option Nat) (l : List Nat) : List Nat :=
  (match old with
    | some o => if l.contains o then l else l ++ [o]
    | none => l).filter fun a => new != some a

/-- The best master is chosen anew (R352): at a change the slot returns to QUALIFYING with event 0x0D05, the exchanges of the old
master are dropped, and on profile 2 the new one's Sync and Delay_Resp are requested. -/
def rechoose (i : Fin 2) (s : State) : State :=
  let c := cliCfg s i
  let x := s.cli[i]
  let b := bestMaster c x.cands
  if b = x.best then s
  else
    let s := modCli i (fun x => { x with
      best := b, waiting := none, lastSync := none, dreqs := [], dj := [], withheld := false, mpdBefore := none
      cancelDue := formerMasters x.best b x.cancelDue }) s
    let s := requalify (cliSlot i) (emit 0x0D05 s i.val)
    match b with
    | some a => if c.cProfile == 2 then askGrants i a [0, 9] s else s
    | none => s

/-- An announce interval of an instance, in units of the device clock. -/
def annInterval (c : PtpClientRec) : Nat := clkPerSec / 2 ^ (-c.cLogAnnounce).toNat

/-- An Announce taken into the candidates (R352): at most four are kept; on profiles 0 and 1 two within four intervals qualify one,
on profile 2 the first. -/
def hearAnnounce (c : PtpClientRec) (clk src : Nat) (m : PtpMsg) (l : List Candidate) : List Candidate :=
  if l.any fun x => x.src == src then
    l.map fun x =>
      if x.src == src then
        { x with
          msg := m, prevAt := some x.lastAt, lastAt := clk
          qualified := x.qualified || c.cProfile == 2 || decide (clk ≤ x.lastAt + 4 * annInterval c) }
      else x
  else if c.cProfile == 2 && !(masters c).contains src then l
  else if 4 ≤ l.length then l
  else l ++ [{ src := src, msg := m, lastAt := clk, qualified := c.cProfile == 2 }]

/-- CLIENT_ANNOUNCE_RX (R351): an Announce of a master is stored for a Millstone. -/
def execClientAnnounceRx (dt : Nat) (i : Fin 2) (src : Nat) (m : PtpMsg) (s : State) : Host.Outcome State Fault Refusal :=
  act dt (clientRx i src 0xB none m) s

/-- An Announce processed (R352). -/
def takeAnnounce (i : Fin 2) (src : Nat) (m : PtpMsg) (s : State) : State :=
  rechoose i (modCli i (fun x => { x with cands := hearAnnounce (cliCfg s i) s.clk src m x.cands }) s)

/-- x of a Sync (R353), with a mean path delay. -/
def syncX (s : State) (i : Fin 2) (t1 t2 d : Units) : Units := t1 + d + (cliCfg s i).asymCorrNs * (unitsPerNs : Int) - t2

/-- The cross-references of an instance, in their order (R357). -/
def cliXrefs (i : Fin 2) : List (Fin 13) := [cliSlot (1 - i), 4, 7, 8, 9, 10]

/-- A Sync completed (R353, R357): x is computed, watched against the cross-reference with the live delay, and delivered unless it
is withheld. -/
def completeSync (i : Fin 2) (t1 t2 : Units) (s : State) : State :=
  let c := s.cli[i]
  let s := modCli i (fun c => { c with lastSync := some (t1, t2), waiting := none }) s
  if c.dj.isEmpty && !c.frozen then s
  else
    let x := syncX s i t1 t2 c.mpd
    let live := syncX s i t1 t2 (if c.dj.isEmpty then c.mpd else medianUnits c.dj)
    let z := (crossRef s (cliXrefs i)).map fun k => ((live - (s.refs[k]).x : Units) : Rat)
    let s := modCli i (fun c => { c with offset := x, xAt := some s.clk, watch := asymDiff z c.watch }) s
    let s := tallySample 12 i.val (x / (unitsPerPs : Int)) s
    modRef (cliSlot i) (fun r => { r with delivered := if c.withheld then none else some x }) s

/-- An instant a message gives, with a correction in 2⁻¹⁶ ns. -/
def msgTime (m : PtpMsg) (corr : Int) : Units := ((m.tsSec * unitsPerSec + m.tsNs * unitsPerNs : Nat) : Int) + 125 * corr

/-- The old grants of one former master are cancelled (R352). -/
def cancelMaster (i : Fin 2) (s : State) (o : Nat) : State :=
  let s := modCli i (fun c => { c with grants := c.grants.filter fun g => g.master != o || g.messageType == 0xB }) s
  if (cliCfg s i).cProfile == 2 then
    clientSend i o 0 [{ tlvType := 6, messageType := 0 }, { tlvType := 6, messageType := 9 }] s
  else s

/-- The old grants of every former master are cancelled (R352). -/
def cancelOld (i : Fin 2) (s : State) : State :=
  (s.cli[i]).cancelDue.foldl (cancelMaster i) (modCli i (fun c => { c with cancelDue := [] }) s)

/-- CLIENT_SYNC_RX (R351): a Sync is stamped and stored for a Millstone. -/
def execClientSyncRx (dt : Nat) (i : Fin 2) (src : Nat) (r : RxPoint) (m : PtpMsg) (s : State) :
    Host.Outcome State Fault Refusal :=
  act dt (clientRx i src 0 (some r) m) s

/-- A Sync of the best master processed (R113, R352, R353). A stamp of another step epoch makes no exchange. -/
def takeSync (i : Fin 2) (j : Job) (m : PtpMsg) (s : State) : State :=
  if (s.cli[i]).best = some j.grant then
    let s := cancelOld i (count (0x0D0107 + 16 * i.val) s)
    let s := modCli i (fun c => { c with
      syncHeard := if (cliCfg s i).cProfile == 2 then c.syncHeard else m.logInterval }) s
    if j.stepEpoch != s.tb.stepCount then s
    else if m.twoStep then
      modCli i (fun c => { c with waiting := some (m.seqId, j.t2, m.correction, j.t2Degraded, j.stepEpoch) }) s
    else completeSync i (msgTime m m.correction) j.t2 s
  else s

/-- CLIENT_FOLLOW_UP_RX (R351): a Follow_Up is stored for a Millstone. -/
def execClientFollowUpRx (dt : Nat) (i : Fin 2) (src : Nat) (m : PtpMsg) (s : State) : Host.Outcome State Fault Refusal :=
  act dt (clientRx i src 8 none m) s

/-- The Follow_Up of the Sync that waits processed (R353). Parts of two step epochs make no exchange. -/
def takeFollowUp (i : Fin 2) (src : Nat) (m : PtpMsg) (s : State) : State :=
  match (s.cli[i]).waiting with
  | some (q, t2, corr, _, epoch) =>
    if (s.cli[i]).best = some src && q == m.seqId then
      if epoch = s.tb.stepCount then completeSync i (msgTime m (corr + m.correction)) t2 s
      else modCli i (fun c => { c with waiting := none }) s
    else s
  | none => s

/-- FOLLOW_UP_TIMEOUT (R353): a Sync whose Follow_Up has not arrived within 1 s is discarded. -/
def execFollowUpTimeout (dt : Nat) (i : Fin 2) (s : State) : Host.Outcome State Fault Refusal :=
  act dt (modCli i fun c => { c with waiting := none }) s

/-- An exchange d_j taken (R353, R357): dbar follows unless frozen; a single departure beyond `ASYM_DELAY_NS` withholds x, one not yet
taken with it. -/
def takeExchange (i : Fin 2) (d : Units) (s : State) : State :=
  let c := s.cli[i]
  let out := !c.dj.isEmpty && beyondNs (d - c.mpd) (cliCfg s i).asymDelayNs
  let dj := (d :: c.dj).take 16
  let s := if out && !c.frozen then modRef (cliSlot i) (fun r => { r with delivered := none }) s else s
  modCli i (fun c => { c with
    dj := dj
    mpd := if c.frozen then c.mpd else medianUnits dj
    mpdBefore := if out && !c.frozen then c.mpdBefore.orElse (fun _ => some c.mpd) else c.mpdBefore
    withheld := c.withheld || (out && !c.frozen)
    watch := asymDelay (d : Rat) c.watch }) s

/-- CLIENT_DELAY_RESP_RX (R351): a Delay_Resp is stored for a Millstone. -/
def execClientDelayRespRx (dt : Nat) (i : Fin 2) (src : Nat) (m : PtpMsg) (s : State) : Host.Outcome State Fault Refusal :=
  act dt (clientRx i src 9 none m) s

/-- The answer to a Delay_Req of the instance processed (R353, R355): paired with the latest Sync. -/
def takeDelayResp (i : Fin 2) (src : Nat) (m : PtpMsg) (s : State) : State :=
  let c := s.cli[i]
  if c.best = some src && m.reqClockId == s.cfg.b0D.ptp.clockId && m.reqPort == (cliPort s i).val + 1 then
    match c.dreqs.find? fun d => d.seqId == m.seqId && d.t3.isSome with
    | some d =>
      let s := count (0x0D0108 + 16 * i.val) (modCli i (fun c => { c with dreqs := c.dreqs.erase d, respAt := some s.clk }) s)
      match d.t3, c.lastSync with
      | some t3, some (t1, t2) =>
        if d.stepEpoch = s.tb.stepCount then takeExchange i (((t2 - t1) + (msgTime m (-m.correction) - t3)) / 2) s else s
      | _, _ => s
    | none => s
  else s

/-- One TLV of a master's Signaling answer (R354): a grant, or a denial with a duration of 0. -/
def hearGrant (clk src : Nat) (t : Tlv) (l : List ClientGrant) : List ClientGrant :=
  if t.tlvType == 5 && l.any fun g => g.master == src && g.messageType == t.messageType then
    setClientGrant src t.messageType (fun g =>
      if t.duration = 0 then { g with asked := some clk }
      else { g with duration := some t.duration, grantedAt := clk, asked := none }) l
  else l

/-- CLIENT_SIGNALING_RX (R351): a Signaling message of a master is stored for a Millstone. -/
def execClientSignalingRx (dt : Nat) (i : Fin 2) (src : Nat) (m : PtpMsg) (s : State) : Host.Outcome State Fault Refusal :=
  act dt (clientRx i src 0xC none m) s

/-- The grants and denials of a master processed (R113, R354). -/
def takeGrants (i : Fin 2) (src : Nat) (m : PtpMsg) (s : State) : State :=
  let l := m.tlvs.foldl (fun l t => hearGrant s.clk src t l) (s.cli[i]).grants
  let sync := m.tlvs.find? fun t => t.tlvType == 5 && t.messageType == 0 && t.duration != 0
  modCli i (fun c => { c with
    grants := l
    syncHeard := match sync with
      | some t => if c.best = some src then t.logInterval else c.syncHeard
      | none => c.syncHeard }) s

/-- What a message that a client received does, by its messageType. -/
def takeHeard (j : Job) (s : State) : State :=
  let m := j.req.ptp.getD {}
  match j.k with
  | 0 => takeSync j.client j m s
  | 8 => takeFollowUp j.client j.grant m s
  | 9 => takeDelayResp j.client j.grant m s
  | 0xB => takeAnnounce j.client j.grant m s
  | _ => takeGrants j.client j.grant m s

/-- A Millstone has processed a message that a client received (R351): its cells are free, and its work is done. -/
def clientDone (m : Fin 40) (j : Job) (s : State) : State :=
  takeHeard j (workDone j.cls (jobCost s j) (creditWork 0 j (freeCells j (setFront m none s))))

/-- MS_BUILD_DONE (R272, R351): `BUILD` of a Millstone that has read every cell is complete. -/
def execMsBuildDone (dt : Nat) (m : Fin 40) (s : State) : Host.Outcome State Fault Refusal :=
  act dt (fun s =>
    match (s.core.ms[m]).front with
    | some (_, .cells 0) =>
      let s := chargeMs m s
      match (s.core.ms[m]).front with
      | some (j, _) =>
        if j.kind == .clientRx then clientDone m j s
        else built m j (if j.kind == .clientReq then (some (buildClient s j), s) else buildAnswer j s)
      | none => s
    | _ => s) s

/-- CLIENT_DELAY_REQ_TX (R353): every 2^`C_LOG_DREQ` s a Delay_Req goes to the best master. -/
def execClientDelayReqTx (dt : Nat) (i : Fin 2) (s : State) : Host.Outcome State Fault Refusal :=
  act dt (fun s =>
    match (s.cli[i]).best with
    | some b =>
      if (cliCfg s i).cEn && maySend s then
        let q := (s.cli[i]).dreqSeq
        let s := modCli i (fun c => { c with
          dreqSeq := (q + 1) % 65536
          dreqs := { seqId := q, stepEpoch := s.tb.stepCount } :: c.dreqs.filter fun d => d.seqId != q }) s
        clientSend i b q [] s
      else s
    | none => s) s

/-- The masters of a list of grants, each once. -/
def grantMasters (l : List ClientGrant) : List Nat := (l.map (·.master)).eraseDups

/-- The requests of a list of grants sent again, one Signaling message to each master. -/
def askAgain (i : Fin 2) (l : List ClientGrant) (s : State) : State :=
  (grantMasters l).foldl (fun s a => askGrants i a ((l.filter fun g => g.master == a).map (·.messageType)) s) s

/-- A grant has run half its duration and no request for it is out (R354). -/
def renewalDue (clk : Nat) (g : ClientGrant) : Bool :=
  g.asked.isNone && g.duration.any fun d => decide (g.grantedAt + d * clkPerSec / 2 ≤ clk)

/-- CLIENT_GRANT_RENEWAL (R354): each grant at half its granted duration is requested again. -/
def execClientGrantRenewal (dt : Nat) (i : Fin 2) (s : State) : Host.Outcome State Fault Refusal :=
  act dt (fun s => askAgain i ((s.cli[i]).grants.filter (renewalDue s.clk)) s) s

/-- A request denied or unanswered for 10 s (R354). -/
def retryDue (clk : Nat) (g : ClientGrant) : Bool := g.asked.any fun t => decide (t + 10 * clkPerSec ≤ clk)

/-- CLIENT_REQUEST_RETRY (R354). -/
def execClientRequestRetry (dt : Nat) (i : Fin 2) (s : State) : Host.Outcome State Fault Refusal :=
  act dt (fun s => askAgain i ((s.cli[i]).grants.filter (retryDue s.clk)) s) s

/-- A candidate's last Announce lies `C_ANN_TIMEOUT` intervals back (R355). -/
def announceStale (c : PtpClientRec) (clk : Nat) (x : Candidate) : Bool := decide (x.lastAt + c.cAnnTimeout * annInterval c ≤ clk)

/-- An instant is at least so many seconds back, or there was none. -/
def longAgo (clk secs : Nat) (t : Option Nat) : Bool := t.all fun t => decide (t + secs * clkPerSec ≤ clk)

/-- A loss condition of a PTP slot holds (R355): the client is off or its link is down, no candidate is its master, no x for 2 s, or no
Delay_Resp for 8 s. -/
def clientLost (s : State) (i : Fin 2) : Bool :=
  let c := s.cli[i]
  !(cliCfg s i).cEn || !(s.ports[cliPort s i]).link || c.best.isNone || longAgo s.clk 2 c.xAt || longAgo s.clk 8 c.respAt

/-- CLIENT_NO_MASTER (R355): a loss timer of the slot has run out, or the last qualified candidate is lost, which issues event
0x0D06. -/
def execClientNoMaster (dt : Nat) (i : Fin 2) (s : State) : Host.Outcome State Fault Refusal :=
  act dt (fun s =>
    let c := cliCfg s i
    if !c.cEn then s
    else
      let had := (s.cli[i]).cands.any (·.qualified)
      let none_ := (s.cli[i]).cands.all fun x => !x.qualified || announceStale c s.clk x
      let s := if none_ then modCli i (fun x => { x with
          cands := x.cands.filter fun y => !announceStale c s.clk y
          best := none, waiting := none, lastSync := none, dreqs := [], cancelDue := formerMasters x.best none x.cancelDue }) s
        else s
      let s := if had && none_ then emit 0x0D06 s i.val else s
      if clientLost s i then loseSignal (cliSlot i) s else s) s

/-- CANDIDATE_ANNOUNCE_TIMEOUT (R352, R355): a candidate that has sent no Announce within `C_ANN_TIMEOUT` intervals is dropped while
others remain; the best master may change. -/
def execCandidateAnnounceTimeout (dt : Nat) (i : Fin 2) (src : Nat) (s : State) : Host.Outcome State Fault Refusal :=
  act dt (fun s =>
    let c := cliCfg s i
    let l := (s.cli[i]).cands
    let rest := l.filter fun x => x.src != src
    if (l.any fun x => x.src == src && announceStale c s.clk x) && rest.any (·.qualified) then
      rechoose i (modCli i (fun x => { x with cands := rest }) s)
    else s) s

/-- X_WITHHOLD_TIMEOUT (R357): x has been withheld for 2 s. -/
def execXWithholdTimeout (dt : Nat) (i : Fin 2) (s : State) : Host.Outcome State Fault Refusal :=
  act dt (modCli i fun c => { c with withheld := false }) s

/-- A quarantined client slot is released with the live delay (R359): event 0x0D08. -/
def releaseClient (i : Fin 2) (s : State) : State :=
  if (s.cli[i]).frozen then
    emit 0x0D08 (unquarantine (cliSlot i) (modCli i (fun c => { c with
      frozen := false, mpd := if c.dj.isEmpty then c.mpd else medianUnits c.dj
      watch := { c.watch with pre := none, back := false } }) s)) i.val
  else s

/-- ASYM_RELEASED (R359): D and Z have lain within the thresholds of their means before the change for `QUAL_TIME_S`. -/
def execAsymReleased (dt : Nat) (i : Fin 2) (s : State) : Host.Outcome State Fault Refusal :=
  act dt (fun s => if (s.cli[i]).watch.back then releaseClient i s else s) s

/-- A client instance at a second marker (R357, R358). -/
def clientMarker (i : Fin 2) (s : State) : State :=
  let c := cliCfg s i
  if !c.cEn then s
  else
    let xref := (crossRef s (cliXrefs i)).isSome
    let r := asymSecond true xref ((c.asymDelayNs * unitsPerNs : Nat) : Rat) ((c.asymXstepNs * unitsPerNs : Nat) : Rat) (s.cli[i]).watch
    let before := (s.cli[i]).mpdBefore
    let s := modCli i (fun x => { x with
      watch := r.1, withheld := x.withheld && (!xref || r.1.dOut), mpdBefore := if r.1.dOut then x.mpdBefore else none }) s
    match r.2 with
    | .quiet => s
    | .delayStep => emit 0x0D09 (count 0x0D0011 s) i.val
    | .reroute =>
      emit 0x0D07 (quarantine (cliSlot i) (modCli i (fun x => { x with frozen := true, mpd := before.getD x.mpd }) s)) i.val

end Sys2Proof.Machine
end

