-- ==== Sys2Proof/Machine/Leat.lean ====
section
/-!
DEFINITION. The Leat links: bring-up, lane swaps, time, roots and parents, credit and spilled requests
(15_leat_links_and_chains.md).
-/

namespace Sys2Proof.Machine

/-- The four links in order. -/
def allLinks : List (Fin 4) := List.finRange 4

/-- The slot of a link: `REF7` to `REF10`. -/
def leatSlot (n : Fin 4) : Fin 13 := Fin.ofNat 13 (7 + n.val)

/-- The active record of a link. -/
def leatCfg (s : State) (n : Fin 4) : LeatPortRec := s.cfg.b0F.link[n]

/-- The link of the selected slot (R399): the parent's, none for a root (R403). -/
def parentLink (s : State) : Option (Fin 4) := s.gov.sel.bind fun k => allLinks.find? fun n => leatSlot n == k

/-- `IS_ROOT` (R403). -/
def isRoot (s : State) : Bool := (parentLink s).isNone

/-- The transmit part of the latency of a link's working pair, ps (R393): the design ratio's part of the round trip calibrated last. -/
def leatTxPs (s : State) (n : Fin 4) : Nat :=
  let l := s.leat.link[n]
  let r := l.loopPs[(Fin.ofNat 2 l.pairS.toNat)]
  min r (Config.leatTxPart r)

/-- The receive part: the rest. -/
def leatRxPs (s : State) (n : Fin 4) : Nat := let l := s.leat.link[n]; l.loopPs[(Fin.ofNat 2 l.pairS.toNat)] - leatTxPs s n

/-- The receipt of a Leat frame at the balls (R393, R402): the stamp of the link's timestamp unit, of 1 ps resolution, less the receive
part. -/
def leatStamp (s : State) (n : Fin 4) (refine : Units) : Units :=
  nowUnits s + (refine / (unitsPerPs : Int) - (leatRxPs s n : Int)) * (unitsPerPs : Int)

/-- One picosecond count of an interval. -/
def leatPs (u : Units) : Int := wholeOf ((u : Rat) / (unitsPerPs : Nat))

/-- The asymmetry constant of the pair now working, in units (R401). -/
def asymOf (s : State) (n : Fin 4) : Units :=
  (if (s.leat.link[n]).pairS then (leatCfg s n).leatAsymSPs else (leatCfg s n).leatAsymWPs) * (unitsPerPs : Int)

/-- The frame received last from the parent. -/
def parentFrame (s : State) : Option TimeFrame := (parentLink s).bind fun n => (s.leat.link[n]).rx.map (·.1)

/-- `Ln_WAVE_OK` (R404, cause 5): a wave received within 3 ms. -/
def waveOk (s : State) (n : Fin 4) : Bool := (s.leat.link[n]).waveAt.any fun t => decide (s.clk < t + 3000000 * clkPerNs)

/-- The cause for which the slot of a link is in `NO_SIGNAL` (R394, R404, R412); cause 8 stands for the one tick that finds it. -/
def leatCause (s : State) (n : Fin 4) (tick : Bool) : Option Nat :=
  let l := s.leat.link[n]
  if l.st == .refused then some l.refuseCause
  else if !linkCarries s n || l.holdOver then some 0
  else match l.rx with
    | none => some 5
    | some (f, _, _) =>
      if f.rootId == ownSerial then some 1
      else if f.parentId == ownSerial then some 2
      else if f.rootBudgetUs * 1000000 < l.accRx + 350000 then some 3
      else if f.hops == 65535 then some 4
      else if !waveOk s n then some 5
      else if tick && l.rootBefore.any (fun r => r != f.rootId) then some 8
      else none

/-- The slot of a link judged (R404): event 0x0F05 at each new refusal. One that R412 holds keeps what it was judged. -/
def leatJudge (n : Fin 4) (tick : Bool) (s : State) : State :=
  let l := s.leat.link[n]
  if linkHeld s n && l.st != .refused then s
  else match leatCause s n tick with
  | none => modLink n (fun l => { l with refused := false }) s
  | some c =>
    let s1 := modLink n (fun l => { l with refused := true, refuseCause := c }) s
    if l.refused && l.refuseCause == c then s1 else emit 0x0F05 s1 n.val

/-- The credits of a link cleared, and what is queued for it discarded (R392, R410). -/
def clearLink (n : Fin 4) (s : State) : State :=
  modLeat (fun l => { l with respWait := l.respWait.filter fun w => w.link != n })
    (modLink n (fun l => { l with
      spareOk := false, swapping := false, exchanges := 0, dj := [], rx := none, departures := [], spillCredit := 0
      respCredit := 0, spillReturn := 0, respReturn := 0, suRate := 0, bucket := { level := 0, asOf := s.clk }
      waveAt := none, held := false, holdOver := false, nbrSpillAccept := false, rootBefore := none, txQ := [] }) s)

/-- A link enters `DOWN` (R392): event 0x0F02 from states 4 to 6. -/
def linkDown (n : Fin 4) (s : State) : State :=
  let s1 := clearLink n (modLink n (fun l => { l with st := .down, pairS := false }) s)
  let s1 := if linkMeasures s n then emit 0x0F02 s1 n.val else s1
  let s1 := if parentLink s == some n then modLeat (fun l => { l with parentHeld := false, forward := none }) s1 else s1
  leatJudge n false s1

/-- A link goes to `REFUSED` (R394). -/
def linkRefuse (n : Fin 4) (cause : Nat) (s : State) : State :=
  emit 0x0F05 (clearLink n (modLink n (fun l => { l with st := .refused, refused := true, refuseCause := cause }) s)) n.val

/-- LEAT_BRINGUP_RETRY (R87, R392): an enabled link in `DOWN` restarts bring-up. -/
def execLeatBringupRetry (dt : Nat) (n : Fin 4) (s : State) : Host.Outcome State Fault Refusal :=
  act dt (fun s =>
    if (s.leat.link[n]).st == .down && (leatCfg s n).lpEn && s.pwr.mode != .retain && !s.pll.unfilled.contains .sd then
      modLink n (fun l => { l with st := .calibrating, pairS := false }) s
    else s) s

/-- LEAT_CALIBRATION_DONE (R392, R393): both pairs are calibrated, and training begins on pair W. -/
def execLeatCalibrationDone (dt : Nat) (c : LeatLoop) (s : State) : Host.Outcome State Fault Refusal :=
  act dt (fun s =>
    if (s.leat.link[c.link]).st == .calibrating then
      modLink c.link (fun l => { l with st := .training, pairS := false, loopPs := #v[c.wPs, c.sPs] }) s
    else s) s

/-- A pair of a link is retired (R450, R456): it is off, and never assigned again. -/
def pairRetired (s : State) (n : Fin 4) (pairS : Bool) : Bool :=
  bitAt s.dress.retired[(Fin.ofNat 12 (8 + n.val) : Fin 12)] pairS.toNat

/-- The pair that does not work is retired. -/
def spareRetired (s : State) (n : Fin 4) : Bool := pairRetired s n (!(s.leat.link[n]).pairS)

/-- A `HELLO` frame sent (R394, R398). -/
def sendHello (n : Fin 4) (s : State) : State :=
  if maySend s then
    let f : HelloFrame := { sender := ownSerial, group := s.cfg.b0F.leat.leatGroup, port := n.val
                            pairS := (s.leat.link[n]).pairS, spillAccept := (leatCfg s n).lpSpillEn }
    leatPut n { prio := 5, type := 1, bytes := 28, what := .leatHello n 0 f } s
  else s

/-- LEAT_BLOCK_LOCK (R392, R504): the pair in training, its lanes calibrated and not retired, has block lock; the link enters `HELLO`, and a `HELLO` frame is sent
(R394). -/
def execLeatBlockLock (dt : Nat) (n : Fin 4) (pairS : Bool) (s : State) : Host.Outcome State Fault Refusal :=
  act dt (fun s =>
    let l := s.leat.link[n]
    if l.st == .training && l.pairS == pairS && bitAt s.pwr.lanesCal 11 && !pairRetired s n pairS then sendHello n (modLink n (fun l => { l with st := .hello }) s) else s) s

/-- LEAT_TRAINING_TIMEOUT (R392): after 100 ms both ends move to pair S; with no lock on either pair the link goes `DOWN`. -/
def execLeatTrainingTimeout (dt : Nat) (n : Fin 4) (s : State) : Host.Outcome State Fault Refusal :=
  act dt (fun s =>
    let l := s.leat.link[n]
    if l.st == .training then (if l.pairS then linkDown n s else modLink n (fun l => { l with pairS := true }) s) else s) s

/-- States 3 to 6: `HELLO` to `REMEASURE` (R394). -/
def linkTalks (s : State) (n : Fin 4) : Bool := linkMeasures s n || (s.leat.link[n]).st == .hello

/-- LEAT_HELLO_TX (R394): every 10 ms. -/
def execLeatHelloTx (dt : Nat) (n : Fin 4) (s : State) : Host.Outcome State Fault Refusal :=
  act dt (fun s => if linkTalks s n then sendHello n s else s) s

/-- A valid frame received on the working pair: it completes a swap (R395), with event 0x0F03, and the median delay is rebuilt. -/
def frameSeen (n : Fin 4) (s : State) : State :=
  if (s.leat.link[n]).swapping then
    emit 0x0F03 (count (0x0F0034 + n.val) (modLink n (fun l => { l with
      swapping := false, st := .remeasure, exchanges := 0, dj := [] }) s)) n.val
  else s

/-- LEAT_HELLO_RX (R24, R394, R406): the neighbour's group and identity are judged, and a link in `HELLO` enters `MEASURING` with its
buffer credits. A frame that arrives in LOAD is dropped. -/
def execLeatHelloRx (dt : Nat) (n : Fin 4) (f : HelloFrame) (s : State) : Host.Outcome State Fault Refusal :=
  act dt (fun s =>
    if !maySend s || !linkTalks s n then s
    else
      let s := modLink n (fun l => { l with nbrId := f.sender, nbrSpillAccept := f.spillAccept }) (frameSeen n s)
      if f.group != s.cfg.b0F.leat.leatGroup then linkRefuse n 6 s
      else if f.sender == ownSerial then linkRefuse n 7 s
      else if (s.leat.link[n]).st == .hello then
        modLink n (fun l => { l with st := .measuring, exchanges := 0, dj := [], spillCredit := 32768, respCredit := 32768 }) s
      else s) s

/-- An exchange of R401: th, dj, and whether each end's stamps are of one step epoch. The neighbour's at t2 is the one it had shown before
the departure echoed (DEDUCED, log entry 58). -/
structure Exchange where
  th : Units
  dj : Units
  oneEpoch : Bool
  degraded : Bool
deriving DecidableEq, Repr

/-- The exchange a `TIME` frame received at t4 completes; none where its echo names no departure held (R401). An echo number of
0xFFFF says that there is none. -/
def exchangeOf (s : State) (n : Fin 4) (f : TimeFrame) (t4 : Units) : Option Exchange :=
  let l := s.leat.link[n]
  if f.echoSeq == 0xFFFF then none
  else match l.departures.find? fun d => d.seq == f.echoSeq with
    | none => none
    | some d =>
      let t1 := d.tx
      let y := (s.refs[leatSlot n]).y / 1000000000
      let drift : Rat := y * ((t4 - t1 : Units) : Rat) / 2
      let th : Rat := (((f.echoRx - t1) + (f.txTime - t4) + asymOf s n : Units) : Rat) / 2 + drift
      let dj : Rat := (((t4 - t1) - (f.txTime - f.echoRx) : Units) : Rat) / 2 + drift
      let far := d.far.all fun e => e == f.stepEpoch
      some { th := th.floor, dj := dj.floor, oneEpoch := d.epoch == s.tb.stepCount && far
             degraded := f.tDegraded || d.degraded || degradedNow s }

/-- The cross-references of a Leat slot, in their order (R411). -/
def leatXrefs (n : Fin 4) : List (Fin 13) := [4, 5, 6] ++ (allLinks.filter fun m => m != n).map leatSlot

/-- An exchange taken (R392, R401, R411): the delay, the offset, the 32 exchanges of a measurement, and in `UP` the phase sample, which one
across a step or with a degraded stamp does not give. -/
def takeLeatExchange (n : Fin 4) (e : Exchange) (s : State) : State :=
  let l := s.leat.link[n]
  let dj := (e.dj :: l.dj).take 16
  let s := modLink n (fun l => { l with
    dj := dj, delay := medianUnits dj, offset := e.th, exchanges := l.exchanges + 1
    watch := if l.st == .remeasure then l.watch else asymDelay (e.dj : Rat) l.watch }) s
  let s := tallySample 11 n.val (leatPs e.th) (tallySample 10 n.val (leatPs e.dj) s)
  let s := if l.st == .up && e.oneEpoch && !e.degraded then
      let z := (crossRef s (leatXrefs n)).map fun k => ((e.th - (s.refs[k]).x : Units) : Rat)
      modRef (leatSlot n) (fun r => { r with delivered := some e.th }) (modLink n (fun l => { l with watch := asymDiff z l.watch }) s)
    else s
  if l.st != .up && 32 ≤ l.exchanges + 1 then emit 0x0F01 (modLink n (fun l => { l with st := .up }) s) n.val else s

/-- A_rx (R403): the parent's `ACC_LAT_PS` plus the forward delay of R401, in ps. -/
def accRxOf (s : State) (n : Fin 4) (f : TimeFrame) : Nat :=
  let fwd := leatPs ((s.leat.link[n]).delay + asymOf s n / 2)
  min (2 ^ 32 - 1) ((f.accLatPs : Int) + fwd).toNat

/-- The parent's wave is to be forwarded (R399). -/
def forwards (s : State) (n : Fin 4) (f : TimeFrame) : Bool :=
  let d := (f.wave + 65536 - s.leat.waveLast % 65536) % 65536
  parentLink s == some n && f.waveValid && (s.leat.firstWave || decide (0 < d ∧ d < 32768))

/-- LEAT_TIME_RX (R399, R401, R403, R404, R412): a `TIME` frame is received; an exchange is computed, the frame is judged as a
parent's, and its wave waits to be forwarded. -/
def execLeatTimeRx (dt : Nat) (n : Fin 4) (refine : Units) (f : TimeFrame) (s : State) : Host.Outcome State Fault Refusal :=
  act dt (fun s =>
    if !maySend s || !linkMeasures s n then s
    else
      let t4 := leatStamp s n refine
      let mine := parentLink s == some n
      let s := frameSeen n s
      let back := mine && linkHeld s n
      let s := if back then modLeat (fun l => { l with parentHeld := false, firstWave := true }) s else s
      let e := exchangeOf s n f t4
      let s := modLink n (fun l => { l with
        rx := some (f, t4, degradedNow s), upDispRx := f.upDispNs, nbrId := f.sender, held := false, holdOver := false
        waveAt := if f.waveValid then some s.clk else l.waveAt }) s
      let s := match e with
        | some e => takeLeatExchange n e s
        | none => s
      let s := modLink n (fun l => { l with accRx := accRxOf s n f }) s
      let s := leatJudge n false s
      let s := if (s.leat.link[n]).refused then modRef (leatSlot n) (fun r => { r with delivered := none }) s else s
      if forwards s n f then modLeat (fun l => { l with forward := some (t4, f.wave, f.held) }) s else s) s

/-- `ROOT_QL` of a root (R403). -/
def rootQl (s : State) : Nat :=
  match s.pwr.mode with
  | .locked => timeQl s
  | .holdover => todQl s
  | _ => 15

/-- The header values follow the root, or the parent's last frame, also where its link has gone since (R403): event 0x0F06 where the
`ROOT_ID` sent changes. -/
def refreshHeader (s : State) : State :=
  let s1 := match parentFrame s with
    | some f => modLeat (fun l => { l with
        rootId := f.rootId, rootQlTx := f.rootQl, hopsTx := min 65535 (f.hops + 1), parentId := f.sender
        rootBudget := f.rootBudgetUs }) s
    | none =>
      if isRoot s then modLeat (fun l => { l with rootId := ownSerial, rootQlTx := rootQl s, hopsTx := 0, accLatTx := 0 }) s else s
  if s1.leat.rootId = s.leat.rootId then s1 else emit 0x0F06 s1

/-- `UP_DISP_NS` (R400): the device's D_D. In ACQUIRE, where it has none, the manual gives no value (log entry 16). -/
def upDisp (s : State) : Nat :=
  match rootDisp s with
  | some d => fitU 32 (wholeOf d).toNat
  | none => Config.freeAt 15 s.clk % 2 ^ 32

/-- The wave a `TIME` frame carries: number, validity, `HELD`. -/
structure Wave where
  number : Nat := 0
  valid : Bool := false
  held : Bool := false

/-- A `TIME` frame sent on a link with its departure (R397, R400, R401): a frame the line sends is interrupted for it. -/
def sendTime (n : Fin 4) (w : Wave) (acc : Nat) (tx : Units) (s : State) : State :=
  let l := s.leat.link[n]
  let q := leatSeq s n 2
  let echoDeg := l.rx.any fun r => r.2.2
  let root := isRoot s
  let f : TimeFrame :=
    { sender := ownSerial, seq := q, wave := if w.valid then w.number else 0, waveValid := w.valid, held := w.held
      tValid := timeValid s, tDegraded := degradedNow s || echoDeg, tMode := modeCode s.pwr.mode
      stepEpoch := s.tb.stepCount % 256, rootId := s.leat.rootId
      parentId := if root then ownSerial else s.leat.parentId, rootQl := s.leat.rootQlTx, hops := s.leat.hopsTx
      rootBudgetUs := if root then s.cfg.b0F.leat.leatbudget else s.leat.rootBudget, accLatPs := acc, upDispNs := upDisp s, txTime := tx
      echoSeq := (l.rx.map (·.1.seq)).getD 0xFFFF, echoRx := (l.rx.map (·.2.1)).getD 0 }
  let s := leatSent n 2 (put (.leatTime n f) s)
  let d : LeatDeparture :=
    { seq := q, tx := tx, epoch := s.tb.stepCount, degraded := degradedNow s, far := l.rx.map (·.1.stepEpoch) }
  modLink n (fun l => { l with
    departures := (d :: l.departures).take 4
    lineEnd := if s.clk < l.lineEnd then l.lineEnd + leatLineTime 84 else l.lineEnd }) s

/-- The launch grid of Leat at the balls (R393, R397): 66-bit blocks, 2.56 ns apart, an observed block boundary of the link's transmitter
giving its place. -/
def leatGrid (s : State) (grid : List Units) (n : Fin 4) (t : Units) : Units :=
  gridAfter (grid.getD n.val 0 + (leatTxPs s n : Int) * (unitsPerPs : Int)) ((256 * unitsPerNs / 100 : Nat) : Int) t

/-- A `TIME` frame launched on every link in states 4 to 6, at the first grid point at or after an instant. -/
def launchTime (grid : List Units) (w : Wave) (acc : Units → Nat) (at_ : Units) (s : State) : State :=
  (allLinks.filter (linkMeasures s)).foldl (fun s n =>
    let tx := leatGrid s grid n at_
    sendTime n w (acc tx) tx s) s

/-- One millisecond, in units. -/
def unitsPerMs : Int := ((1000000 * unitsPerNs : Nat) : Int)

/-- The millisecond count of now (R399). -/
def msNow (s : State) : Int := nowUnits s / unitsPerMs

/-- LEAT_WAVE_LAUNCH (R399): a root launches a wave at a whole millisecond. `grid` gives an observed block boundary of each link. -/
def execLeatWaveLaunch (dt : Nat) (grid : List Units) (s : State) : Host.Outcome State Fault Refusal :=
  act dt (fun s =>
    if maySend s && isRoot s then
      launchTime grid { number := (msNow s % 65536).toNat, valid := true } (fun _ => 0) (msNow s * unitsPerMs) (refreshHeader s)
    else s) s

/-- LEAT_WAVE_FORWARD (R399, R403): the parent's wave is launched on every link 300 ns after its receipt. -/
def execLeatWaveForward (dt : Nat) (grid : List Units) (s : State) : Host.Outcome State Fault Refusal :=
  act dt (fun s =>
    match s.leat.forward, parentLink s with
    | some (trx, w, held), some p =>
      if maySend s then
        let a := (s.leat.link[p]).accRx
        let from_ := trx + ((300 * unitsPerNs : Nat) : Int)
        let acc (tx : Units) := min (2 ^ 32 - 1) (a + (leatPs (tx - trx)).toNat)
        let s := refreshHeader s
        let s := modLeat (fun l => { l with
          forward := none, firstWave := false, waveLast := w % 65536
          accLatTx := acc (leatGrid s grid p from_) }) s
        launchTime grid { number := w % 65536, valid := true, held := held } acc from_ s
      else s
    | _, _ => s) s

/-- LEAT_NO_WAVE (R399): a device with a parent has forwarded no wave for 1.1 ms; each launch is counted. -/
def execLeatNoWave (dt : Nat) (grid : List Units) (s : State) : Host.Outcome State Fault Refusal :=
  act dt (fun s =>
    if maySend s && !isRoot s && !s.leat.parentHeld then
      let k := (allLinks.filter (linkMeasures s)).length
      launchTime grid {} (fun _ => s.leat.accLatTx) (nowUnits s) (countBy 0x0F0007 k (refreshHeader s))
    else s) s

/-- LEAT_PROXY_WAVE (R412): while the parent is held, its waves are stood in for at each whole millisecond. -/
def execLeatProxyWave (dt : Nat) (grid : List Units) (s : State) : Host.Outcome State Fault Refusal :=
  act dt (fun s =>
    if maySend s && s.leat.parentHeld then
      launchTime grid { number := (msNow s % 65536).toNat, valid := true, held := true } (fun _ => s.leat.accLatTx)
        (msNow s * unitsPerMs) s
    else s) s

/-- LEAT_WAVE_TIMEOUT (R404): no frame with `WAVE_VALID` = 1 for 3 ms. -/
def execLeatWaveTimeout (dt : Nat) (n : Fin 4) (s : State) : Host.Outcome State Fault Refusal :=
  act dt (fun s => leatJudge n false (modLink n (fun l => { l with waveAt := none }) s)) s

/-- What the working pair of a link carries between frames (R392, R412). -/
inductive LeatIdle
  | off | idle | loadIdle
deriving DecidableEq, Repr

/-- The pairs of a link between frames: LOAD idle during LOAD, ordinary idle in every other state of an enabled link, and nothing while the
port is disabled, unpowered or in reset (R392, R412, R496). -/
def leatIdle (s : State) (n : Fin 4) : LeatIdle :=
  if !(leatCfg s n).lpEn || !bitAt s.pwr.domainOn 11 || s.pwr.resetHeld != .none then .off
  else if s.pwr.mode == .load then .loadIdle
  else .idle

/-- LEAT_LINK_TIMEOUT (R392): no frame and no LOAD idle for 30 ms. -/
def execLeatLinkTimeout (dt : Nat) (n : Fin 4) (s : State) : Host.Outcome State Fault Refusal :=
  act dt (fun s => if linkMeasures s n then linkDown n s else s) s

/-- A swap begun (R24, R395): `SWAP` blocks go out on the spare pair, which becomes the working one. In LOAD and SAFE only idle is sent, and
a swap ends with the time of R395. -/
def beginSwap (n : Fin 4) (s : State) : State :=
  modLink n (fun l => { l with swapping := true, pairS := !l.pairS, spareOk := false, departures := [] })
    (if maySend s then put (.leatSwap n) s else s)

/-- A link leaves its working pair (R395, R413): by a swap, or with no spare it goes `DOWN`. One that swaps already goes on. -/
def leavePair (n : Fin 4) (s : State) : State :=
  if (s.leat.link[n]).swapping then s
  else if (s.leat.link[n]).spareOk then beginSwap n s
  else linkDown n s

/-- LEAT_SWAP_DECIDED (R395, R413): an end decides on a swap. -/
def execLeatSwapDecided (dt : Nat) (n : Fin 4) (s : State) : Host.Outcome State Fault Refusal :=
  act dt (fun s => if linkMeasures s n then leavePair n s else s) s

/-- LEAT_SWAP_RX (R395, R413): a `SWAP` block; the far end does the same, and one that has decided takes it as the answer. A retired pair
receives none (R456). -/
def execLeatSwapRx (dt : Nat) (n : Fin 4) (s : State) : Host.Outcome State Fault Refusal :=
  act dt (fun s => if linkMeasures s n && !(s.leat.link[n]).swapping && !spareRetired s n then beginSwap n s else s) s

/-- LEAT_SWAP_TIMEOUT (R395): a swap has not completed within 5 µs. -/
def execLeatSwapTimeout (dt : Nat) (n : Fin 4) (s : State) : Host.Outcome State Fault Refusal :=
  act dt (fun s => if (s.leat.link[n]).swapping then linkDown n s else s) s

/-- LEAT_SPARE_OK (R395): the other pair has held block lock for 1 s and becomes the spare. -/
def execLeatSpareOk (dt : Nat) (n : Fin 4) (s : State) : Host.Outcome State Fault Refusal :=
  act dt (fun s =>
    if linkTalks s n && !(s.leat.link[n]).swapping && !spareRetired s n then modLink n (fun l => { l with spareOk := true }) s
    else s) s

/-- LEAT_SPARE_CALIBRATION (R393, R395): the spare's loopback calibration gives its round trip; one that fails issues event 0x0F04. -/
def execLeatSpareCalibration (dt : Nat) (n : Fin 4) (loop : Option Nat) (s : State) : Host.Outcome State Fault Refusal :=
  act dt (fun s =>
    if !linkMeasures s n then s
    else match loop with
      | some r => modLink n (fun l => { l with loopPs := l.loopPs.set (Fin.ofNat 2 (!l.pairS).toNat) r }) s
      | none => emit 0x0F04 s n.val) s

/-- LEAT_SPARE_LOCK_TIMEOUT (R395): 10 s after a swap the old pair has not held lock for 1 s. -/
def execLeatSpareLockTimeout (dt : Nat) (n : Fin 4) (s : State) : Host.Outcome State Fault Refusal :=
  act dt (fun s => if linkMeasures s n && !(s.leat.link[n]).spareOk then emit 0x0F04 s n.val else s) s

/-- `C_SU_RATE` (R406): the headroom over the links on which both ends accept spill, 0.1 M SU/s. -/
def suCredit (s : State) (n : Fin 4) : Nat :=
  let m := (allLinks.filter (spillAgreed s)).length
  if spillAgreed s n then s.weir.headroom / m else 0

/-- A `CREDIT` frame sent (R406): the bytes returnable, and the SU credit rate. -/
def sendCredit (n : Fin 4) (s : State) : State :=
  let l := s.leat.link[n]
  modLink n (fun l => { l with spillReturn := 0, respReturn := 0 })
    (leatPut n { prio := 2, type := 5, bytes := 32, what := .leatCredit n 0 l.spillReturn l.respReturn (suCredit s n) } s)

/-- LEAT_CREDIT_TX (R406): 4,096 bytes are returnable, or 1 µs has passed since the first. -/
def execLeatCreditTx (dt : Nat) (n : Fin 4) (s : State) : Host.Outcome State Fault Refusal :=
  act dt (fun s =>
    let l := s.leat.link[n]
    if maySend s && linkCarries s n && (l.spillReturn != 0 || l.respReturn != 0) then sendCredit n s else s) s

/-- LEAT_CREDIT_RX (R406): buffer credit returns, waiting `RESP` frames go, and the SU bucket takes its new rate. -/
def execLeatCreditRx (dt : Nat) (n : Fin 4) (spillRet respRet suRate : Nat) (s : State) : Host.Outcome State Fault Refusal :=
  act dt (fun s =>
    if maySend s && linkMeasures s n then
      let s := frameSeen n s
      let b := bucketNow s n
      let rate := suRate % 65536
      let s := modLink n (fun l => { l with
        spillCredit := min 32768 (l.spillCredit + spillRet), respCredit := min 32768 (l.respCredit + respRet), suRate := rate
        bucket := { b with level := min (rate * 400000 * 24300000) b.level } }) s
      respDrain s.leat.respWait.length n s
    else s) s

/-- LEAT_TELEM_RX (R398, R416): the neighbour's report. -/
def execLeatTelemRx (dt : Nat) (n : Fin 4) (f : TelemFrame) (s : State) : Host.Outcome State Fault Refusal :=
  act dt (fun s =>
    if maySend s && linkMeasures s n then
      modLink n (fun l => { l with
        nbrId := f.sender, nbrMode := f.mode, nbrSelSlot := f.selSlot, nbrSelQl := f.selQl, nbrHoState := f.hoState
        nbrHeadroom := f.headroom, nbrHoRemaining := f.hoRemaining }) (frameSeen n s)
    else s) s

/-- The destination and VID of a spilled request are a serving address of this device, on whatever port (R409). A Delay_Req to a
PTP group, or with no IP header, names none. -/
def spillServed (s : State) (f : Frame) : Bool :=
  match f.ip with
  | none => f.ptp.isSome
  | some h =>
    (f.ptp.isSome && h.dst == ptpGroup h.v6) ||
      s.cfg.b0A.addr.any fun e => e.2.addrV6 == h.v6 && e.2.addrVid == frameVid f && addrOf e.2 == h.dst

/-- A spilled request judged (R380, R408, R409). -/
def judgeSpill (n : Fin 4) (t2l : Units) (f : SpillFrame) (s : State) : State :=
  let job (k : JobKind) : Job :=
    { requestJob s f.port k f.req f.t2 f.degraded s.tb.stepCount with spill := some (n, f.handle, t2l) }
  let refuse := respRefuse n f.handle
  if !spillServed s f.req then refuse s
  else if isPtpFrame f.req then
    match ptpOutcome s f.port f.req with
    | .delayReq =>
      if (ptpPort s f.port).profile == 2 then refuse s
      else if ptpSilent s then refuse (count 0x0D0010 s)
      else letIn (job .delayReq) s
    | .drop a => refuse (count a s)
    | _ => refuse s
  else if f.req.ip.isSome && (f.req.udp.map (·.dstPort)) == some 123 then ntpRequest (job (ntpKind f.req)) s
  else refuse s

/-- LEAT_SPILL_RX (R338, R380, R408, R409): a `SPILL` frame is stamped as T2_L and its request judged. -/
def execLeatSpillRx (dt : Nat) (n : Fin 4) (refine : Units) (f : SpillFrame) (s : State) : Host.Outcome State Fault Refusal :=
  act dt (fun s =>
    if maySend s && linkMeasures s n then
      let t2l := leatStamp s n refine
      let s := count 0x0E001C (count (0x0F004C + n.val) (frameSeen n s))
      judgeSpill n t2l f (modLink n (fun l => { l with spillReturn := l.spillReturn + roundUpTo 8 f.len }) s)
    else s) s

/-- LEAT_RESP_RX (R288, R380, R408, R410): a spilled answer returns as a relay descriptor, or a refusal; either frees the
request's cells. -/
def execLeatRespRx (dt : Nat) (n : Fin 4) (f : RespFrame) (s : State) : Host.Outcome State Fault Refusal :=
  act dt (fun s =>
    if maySend s && linkMeasures s n then
      let s := modLink n (fun l => { l with respReturn := l.respReturn + roundUpTo 8 f.len }) (frameSeen n s)
      match s.core.pendingSpills.find? fun e => e.handle == f.handle && e.link == n with
      | none => emitLimited 0x0F0B n.val (count 0x0F0008 s)
      | some e =>
        let s := modCore (fun c => { c with pendingSpills := c.pendingSpills.erase e }) s
        if f.refused then discard e.job (count 0x0E001E s) else placeJob (relayJob s { e.job with cells := 0 } f) (freeCells e.job s)
    else s) s

/-- LEAT_BAD_FRAME (R391, R396): a frame that fails its CRC, or of another type or version, is discarded and counted. -/
def execLeatBadFrame (dt : Nat) (n : Fin 4) (_ : LeatBad) (s : State) : Host.Outcome State Fault Refusal :=
  act dt (fun s => if linkTalks s n then count (0x0F0038 + n.val) s else s) s

/-- LEAT_LOAD_IDLE_RX (R412): the neighbour is in LOAD: its slot is held, its SU bucket emptied, and a held parent's waves stood in
for, with event 0x0F0A. -/
def execLeatLoadIdleRx (dt : Nat) (n : Fin 4) (s : State) : Host.Outcome State Fault Refusal :=
  act dt (fun s =>
    if maySend s && linkMeasures s n && !(s.leat.link[n]).held then
      let s := modLink n (fun l => { l with held := true, holdOver := false, bucket := { level := 0, asOf := s.clk } }) s
      let s := modRef (leatSlot n) (fun r => { r with delivered := none }) s
      if parentLink s == some n then emit 0x0F0A (modLeat (fun l => { l with parentHeld := true }) s) n.val else s
    else s) s

/-- LEAT_HOLD_TIMEOUT (R412): the slot has been held for 2 s; it is in `NO_SIGNAL` under cause 0. -/
def execLeatHoldTimeout (dt : Nat) (n : Fin 4) (s : State) : Host.Outcome State Fault Refusal :=
  act dt (fun s =>
    if (s.leat.link[n]).held then
      let s := modLink n (fun l => { l with holdOver := true }) s
      leatJudge n false (if parentLink s == some n then modLeat (fun l => { l with parentHeld := false }) s else s)
    else s) s

/-- A quarantined Leat slot is released (R411): event 0x0F09. -/
def releaseLeat (n : Fin 4) (s : State) : State :=
  if (s.leat.link[n]).watch.pre.isSome then
    emit 0x0F09 (unquarantine (leatSlot n) (modLink n (fun l => { l with watch := { l.watch with pre := none, back := false } }) s)) n.val
  else s

/-- LEAT_ASYM_RELEASED (R411): D and Z have lain within the thresholds of their means before the change for `QUAL_TIME_S`. -/
def execLeatAsymReleased (dt : Nat) (n : Fin 4) (s : State) : Host.Outcome State Fault Refusal :=
  act dt (fun s => if (s.leat.link[n]).watch.back then releaseLeat n s else s) s

/-- The `TELEM` frame of a second (R396, R398). -/
def sendTelem (n : Fin 4) (s : State) : State :=
  if maySend s && linkCarries s n then
    let f : TelemFrame :=
      { sender := ownSerial, mode := modeCode s.pwr.mode, selSlot := (s.gov.sel.map (·.val)).getD 15, selQl := selQl s
        hoState := s.ho.st, headroom := s.weir.headroom, hoRemaining := timerShown s }
    leatPut n { prio := 6, type := 6, bytes := 32, what := .leatTelem n 0 f } s
  else s

/-- A Leat port at a second marker (R398, R411). -/
def leatMarker (n : Fin 4) (s : State) : State :=
  let s := sendTelem n s
  if !(leatCfg s n).lpEn then s
  else
    let c := s.cfg.b0F.leat
    let r := asymSecond false (crossRef s (leatXrefs n)).isSome ((c.leatAsymDelayPs * unitsPerPs : Nat) : Rat) ((c.leatAsymXstepPs * unitsPerPs : Nat) : Rat)
      (s.leat.link[n]).watch
    let s := modLink n (fun l => { l with watch := r.1 }) s
    match r.2 with
    | .reroute => emit 0x0F08 (quarantine (leatSlot n) s) n.val
    | _ => s

/-- The Leat slots at a Governor tick (R118, R404): a refused one loses its signal, and a change of root holds for the tick. -/
def leatSlots (s : State) : State :=
  allLinks.foldl (fun s n =>
    let s := leatJudge n true s
    let s := modLink n (fun l => { l with rootBefore := l.rx.map (·.1.rootId) }) s
    if (s.leat.link[n]).refused then loseSignal (leatSlot n) s else s) s

/-- The Leat block after the tick's selection (R399, R403, R412). -/
def leatTick (s : State) : State :=
  let moved := s.gov.sel != s.leat.parentSlot
  let s := if moved then
      modLeat (fun l => { l with parentSlot := s.gov.sel, firstWave := true, forward := none }) s
    else s
  let held := (parentLink s).any (linkHeld s)
  let new := held && !s.leat.parentHeld
  let s := modLeat (fun l => { l with parentHeld := held }) s
  let s := if new then emit 0x0F0A s (((parentLink s).map (·.val)).getD 0xFF) else s
  allLinks.foldl (fun s n => lineNow n s) (refreshHeader s)

/-- The SU credit of a Governor tick (R406). -/
def creditTick (s : State) : State :=
  allLinks.foldl (fun s n => if maySend s && spillAgreed s n then sendCredit n s else s) s

end Sys2Proof.Machine
end

