-- ==== Sys2Proof/Machine/Dresser.lean ====
section
/-!
DEFINITION. The Dresser: wear checks, retirement, known-answer runs, probations and the migration of Garner banks
(17_wear_and_spares.md).
-/

namespace Sys2Proof.Machine

/-- A bit of a map set. -/
def setBit (n k : Nat) : Nat := if bitAt n k then n else n + 2 ^ k

/-- A bit of a map cleared. -/
def clearBit (n k : Nat) : Nat := if bitAt n k then n - 2 ^ k else n

/-- A unit is marked faulted. -/
def markFaulted (k : Fin 12) (u : Nat) : State → State := modDress fun d => { d with faulted := d.faulted.set k (setBit d.faulted[k] u) }

/-- The logical bank a physical bank serves. -/
def bankOf (s : State) (phys : Nat) : Option (Fin 48) := (List.finRange 48).find? fun b => (s.garner.bank[b]).phys == phys

/-- The lowest-numbered free spare bank (R460). -/
def freeBank (s : State) : Option Nat :=
  (List.range 52).find? fun p =>
    !bitAt (retiredMap s 1) p && !s.garner.bank.toList.any fun b => b.phys == p || (b.migrating.map (·.1)) == some p

/-- Every record of a logical bank made invalid (R461); contents stay (R57). -/
def clearBank (b : Fin 48) : State → State := modGarner fun g => { g with
  rate := voidAll {} (fun i r => if rateBank i == b then { r with valid := false } else r) g.rate
  grant := voidAll {} (fun i r => if grantBank i == b then { r with valid := false } else r) g.grant
  calendar := g.calendar.filter fun e => grantBank e.1 != b }

/-- A logical bank switches to a physical one (R460): the old one is retired, and event 0x1108 issued. -/
def switchBank (b : Fin 48) (new : Nat) (s : State) : State :=
  let old := (s.garner.bank[b]).phys
  let s := modBank b (fun k => { k with phys := new, migrating := none, susp := k.susp.filter fun n => n != 40 }) s
  emit 0x1108 (retireUnit 1 old s) 1 old

/-- A bank is being copied. -/
def migrationActive (s : State) : Bool := s.garner.bank.toList.any fun b => b.migrating.isSome

/-- The next migrations (R460, R461): one at a time, in ascending logical bank number. A rate bank that needs no copy is switched at
once with every record invalid; a bank with no spare left stays in service. -/
def startMigrations : Nat → State → State
  | 0, s => s
  | n + 1, s =>
    if migrationActive s then s
    else match s.dress.toMigrate with
      | [] => s
      | (b, urgent) :: r =>
        let s := modDress (fun d => { d with toMigrate := r }) s
        let bank : Fin 48 := Fin.ofNat 48 b
        match freeBank s with
        | none => startMigrations n s
        | some p =>
          let s := emit 0x1107 s 1 (s.garner.bank[bank]).phys
          if b < 32 && (urgent || !(dressCfg s).migrateRate) then startMigrations n (switchBank bank p (clearBank bank s))
          else modBank bank (fun k => { k with migrating := some (p, 0) }) s

/-- See `startMigrations`: at most 48 banks wait. -/
def settleMigrations (s : State) : State := startMigrations 48 s

/-- A bank that must migrate, put into its place. -/
def insertMigrate (b : Nat) (urgent : Bool) : List (Nat × Bool) → List (Nat × Bool)
  | [] => [(b, urgent)]
  | (c, u) :: r => if b < c then (b, urgent) :: (c, u) :: r else if b = c then (c, u || urgent) :: r else (c, u) :: insertMigrate b urgent r

/-- A physical bank is to migrate (R460, R461, R463): it waits its turn. A copy under way goes on, but for that of a rate bank which
faults: that bank switches at once with every record invalid. -/
def queueBank (phys : Nat) (urgent : Bool) (s : State) : State :=
  match bankOf s phys with
  | some b =>
    match (s.garner.bank[b]).migrating with
    | some (p, _) => if urgent && b.val < 32 then resumeBank b (switchBank b p (clearBank b s)) else s
    | none => modDress (fun d => { d with toMigrate := insertMigrate b.val urgent d.toMigrate }) s
  | none => s

/-- A physical bank must migrate, and does where none is before it. -/
def migrateBank (phys : Nat) (urgent : Bool) (s : State) : State := settleMigrations (queueBank phys urgent s)

/-- A role is left without an ADPLL (R87): event 0x040A, and the role reads a retired one; the clock outputs go low, every port and Leat
link goes down, or the timebase runs in DIRECT. -/
def vacateRole (r : Role) (n : Fin 4) (s : State) : State :=
  let s := emit 0x040A (modPll (fun p => { setRole r n p with unfilled := r :: p.unfilled.filter fun x => x != r }) s) n.val (roleCode r)
  match r with
  | .tb => enterDirect s
  | .ck => outputsMode s
  | .sd => allLinks.foldl (fun s l => if (s.leat.link[l]).st == .down then s else linkDown l s)
      ((List.finRange 8).foldl (fun s p => dropLink p s) s)

/-- A role's ADPLL is retired, and none is left for it (R87). -/
def unfillRole (r : Role) (n : Fin 4) (s : State) : State :=
  vacateRole r n (modPll (modAdpll n fun a => { a with st := .retired, held := false, pulling := false }) s)

/-- An ADPLL that is not retired and could be taken for `TB` (R87): that of the lowest role, else one in no role. -/
def liveForTb (s : State) : Option (Fin 4) :=
  let live (n : Fin 4) : Bool := !bitAt s.dress.retired[4] n.val
  let holders := ([Role.ck, .sd].filter (filled s.pll)).map (adpllOf s.pll)
  match holders.find? live with
  | some n => some n
  | none => (List.finRange 4).find? live

/-- `TB` has lost its ADPLL and no spare is free (R87): while any of the four is not retired the role gets one, from the lowest role
that has one, which is then unfilled (DESIGN CHOICE, log entry 88). -/
def refillTb (n : Fin 4) (s : State) : State :=
  match liveForTb s with
  | none => unfillRole .tb n s
  | some m =>
    let s := match roleOf s.pll m with
      | some r => vacateRole r n s
      | none => s
    enterDirect (assignSpare .tb m s)

/-- A role whose ADPLL is retired (R87, R95, R98): the spare takes it over, one still taking over a lower role being withdrawn; with
none the role is unfilled. -/
def replaceAdpll (r : Role) (n : Fin 4) (s : State) : State :=
  match s.pll.spare, s.pll.incoming with
  | some m, _ => assignSpare r m s
  | none, some (r2, m) =>
    if r2 == r then s
    else if roleRank r < roleRank r2 then wordHold r2 (assignSpare r m s)
    else unfillRole r n s
  | none, none => if r == .tb then refillTb n s else unfillRole r n s

/-- An ADPLL retired (R98, R456): one that fills a role and is to be replaced leaves it at the takeover; a role none is left for is
unfilled (R87). -/
def retireAdpll (n : Fin 4) (s : State) : State :=
  let s := retireUnit 4 n.val s
  match roleOf s.pll n with
  | some r => replaceAdpll r n s
  | none =>
    let s1 := modPll (fun p =>
      { modAdpll n (fun a => { a with st := .retired, held := false, pulling := false }) p with
        spare := if p.spare == some n then none else p.spare
        incoming := match p.incoming with
          | some (r, m) => if m == n then none else some (r, m)
          | none => none }) s
    match s.pll.incoming with
    | some (r, m) =>
      if m != n then s1
      else if bitAt s1.dress.retired[4] (adpllOf s1.pll r).val then replaceAdpll r (adpllOf s1.pll r) s1
      else wordHold r s1
    | none => s1

/-- A GNSS channel retired (R187): its satellite is dropped, to be acquired again by a free channel, and a spare joins the pool. -/
def retireChan (n : Fin 32) (s : State) : State := refreshTiming (assignChans (retireUnit 5 n.val (modChan n (fun _ => {}) s)))

/-- A Leat lane pair is retired, 0 for W and 1 for S (R456): the working one is left by a swap, or with no spare the link goes `DOWN`
(R395); the other is a spare no more. -/
def retirePair (n : Fin 4) (u : Nat) (s : State) : State :=
  let s := retireUnit (Fin.ofNat 12 (8 + n.val)) u s
  if u != (s.leat.link[n]).pairS.toNat then modLink n (fun l => { l with spareOk := false }) s
  else if !linkMeasures s n then linkDown n s
  else leavePair n s

/-- A unit is faulted (R453, R456). A lane pair so faulted has lost block lock for 1 µs: the Dresser retires it as well as R395 leaves it
(DEDUCED, log entry 99). -/
def faultUnit (k : Fin 12) (u : Nat) (s : State) : State :=
  match k.val with
  | 0 => removeMs (Fin.ofNat 40 u) s
  | 1 => migrateBank u true (markFaulted 1 u s)
  | 2 => retireUnit 2 u (markFaulted 2 u s)
  | 3 => retireUnit 3 u (markFaulted 3 u s)
  | 4 => retireAdpll (Fin.ofNat 4 u) (markFaulted 4 u s)
  | 5 => retireChan (Fin.ofNat 32 u) (markFaulted 5 u s)
  | 6 | 7 => s
  | v => retirePair (Fin.ofNat 4 (v - 8)) u (markFaulted k u s)

/-- The Millstone is to be replaced already: it waits, or a probation is under way for it. -/
def beingReplaced (s : State) (u : Nat) : Bool :=
  s.dress.toReplace.contains u || s.dress.probations.toList.any fun p => ((p.bind (·.worn)).map (·.val)) == some u

/-- What the Dresser does about a worn unit with `AUTO_RETIRE` (R456): it is replaced, or waits to be, while its kind has a spare. A worn slice goes
with EQ_SLICE_SWAPPED. -/
def replaceWorn (k : Fin 12) (u : Nat) (s : State) : State :=
  if !(dressCfg s).autoRetire || bitAt (retiredMap s k) u then s
  else match k.val with
    | 0 =>
      if (s.core.ms[(Fin.ofNat 40 u : Fin 40)]).st == .inService && !beingReplaced s u then
        modDress (fun d => { d with toReplace := insertNat u d.toReplace }) s
      else s
    | 1 => queueBank u false s
    | 2 | 3 => if 0 < reserveOf s k then retireUnit k u s else s
    | 4 => if 0 < reserveOf s k then retireAdpll (Fin.ofNat 4 u) s else s
    | 5 => if 0 < reserveOf s k then retireChan (Fin.ofNat 32 u) s else s
    | 6 | 7 => s
    | v => if (s.leat.link[(Fin.ofNat 4 (v - 8) : Fin 4)]).spareOk then retirePair (Fin.ofNat 4 (v - 8)) u s else s

/-- Unlock declarations of the last 24 h (R453). -/
def unlocksLately (s : State) (n : Fin 4) : List Nat := (s.pll.adpll[n]).unlocks.filter fun t => decide (s.clk < t + 86400 * clkPerSec)

/-- The unit takes part in a check of its kind (R453): units in service, a GNSS channel that searches, and of a link both pairs. -/
def unitChecked (s : State) (k : Fin 12) (u : Nat) : Bool :=
  decide (u < unitsOf k.val) && !bitAt (retiredMap s k) u &&
  match k.val with
  | 0 => msCounts s.core.ms[(Fin.ofNat 40 u : Fin 40)]
  | 1 => (bankOf s u).isSome
  | 3 => cellHeld s (Fin.ofNat 12 u)
  | 6 | 7 => (s.dress.eqMap[(Fin.ofNat 2 (k.val - 6) : Fin 2)]).toList.contains u
  | 5 => (s.gnss.chan[(Fin.ofNat 32 u : Fin 32)]).role == .search
  | 2 | 4 => true
  | v => linkMeasures s (Fin.ofNat 4 (v - 8))

/-- The test of R453 applies to the unit: of a link's pairs to the working one, while the other's errored blocks are counted (R416). -/
def unitTested (s : State) (k : Fin 12) (u : Nat) : Bool :=
  decide (k.val < 8) || u == (s.leat.link[(Fin.ofNat 4 (k.val - 8) : Fin 4)]).pairS.toNat

/-- A check fails (R453). The measured quantity is the slowdown in 0.01 %, the corrected errors of the period, the margin in 0.1 dB,
the errored blocks of the 10 s, or the correlation loss in 0.1 dB; of an ADPLL the unlocks that the device has counted. -/
def checkFails (s : State) (k : Fin 12) (c : UnitCheck) : Bool :=
  let d := dressCfg s
  match k.val with
  | 0 =>
    decide (100 * d.canaryLimitPct < c.measured) ||
      (decide ((s.core.ms[(Fin.ofNat 40 c.unit : Fin 40)]).rate < 1250) && decide (850 ≤ s.mon.vcore))
  | 1 => decide (d.garnerCeLimit < c.measured)
  | 2 => decide (d.hopperCeLimit ≤ c.measured)
  | 3 => decide (100 * d.canaryLimitPct < c.measured)
  | 4 => decide (d.adpllUnlockLimit < (unlocksLately s (Fin.ofNat 4 c.unit)).length)
  | 5 => decide (10 < c.measured)
  | 6 | 7 => decide (c.measured < d.eqMarginLimit)
  | _ => decide (10 * d.leatErrblkLimit < c.measured)

/-- What a check's measurement is shown in (R465, R416). -/
def recordCheck (k : Fin 12) (c : UnitCheck) (s : State) : State :=
  match k.val with
  | 0 => modDress (fun d => { d with canaryMs := d.canaryMs.set (Fin.ofNat 40 c.unit) c.measured }) s
  | 1 => countBy (0x110050 + c.unit % 52) c.measured s
  | 3 => modDress (fun d => { d with canaryVc := d.canaryVc.set (Fin.ofNat 12 c.unit) c.measured }) s
  | 4 => modPll (modAdpll (Fin.ofNat 4 c.unit) fun a => { a with unlocks := unlocksLately s (Fin.ofNat 4 c.unit) }) s
  | 2 | 5 | 6 | 7 => s
  | v => countBy ((if c.unit = 0 then 0x0F002C else 0x0F0030) + (v - 8)) c.measured s

/-- Consecutive failed checks of a unit. -/
def failsOf (s : State) (k : Fin 12) (u : Nat) : Nat :=
  ((s.dress.fails.find? fun e => e.1 == k.val && e.2.1 == u).map (·.2.2)).getD 0

/-- The failed checks of a unit set. -/
def setFails (k : Fin 12) (u n : Nat) : State → State := modDress fun d => { d with
  fails := (if n = 0 then [] else [(k.val, u, n)]) ++ d.fails.filter fun e => !(e.1 == k.val && e.2.1 == u) }

/-- A unit is found worn (R453): event 0x1101. A partner that is worn gives its probation up (R463). -/
def becomeWorn (k : Fin 12) (u : Nat) (s : State) : State :=
  if bitAt s.dress.worn[k] u then s
  else
    let s := emit 0x1101 (modDress (fun d => { d with worn := d.worn.set k (setBit d.worn[k] u) }) s) k.val u
    if k.val = 0 then repartner (Fin.ofNat 40 u) s else s

/-- One unit's check (R453, R456). -/
def checkUnit (k : Fin 12) (c : UnitCheck) (s : State) : State :=
  if !unitChecked s k c.unit then s
  else
    let fails := checkFails s k c
    let s := recordCheck k c s
    if !unitTested s k c.unit then setFails k c.unit 0 s
    else if c.immediate then faultUnit k c.unit s
    else
      let n := if fails then failsOf s k c.unit + 1 else 0
      let s := setFails k c.unit (min 3 n) s
      let s := if 3 ≤ n then becomeWorn k c.unit s else s
      if bitAt s.dress.worn[k] c.unit then replaceWorn k c.unit s else s

/-- A check put into its place by unit. -/
def insertCheck (c : UnitCheck) : List UnitCheck → List UnitCheck
  | [] => [c]
  | d :: r => if d.unit ≤ c.unit then d :: insertCheck c r else c :: d :: r

/-- WEAR_CHECK (R453, R459, R461, R463): a check of one kind, its units in ascending order; what it finds is then replaced in order. -/
def execWearCheck (dt : Nat) (k : Fin 12) (checks : List UnitCheck) (s : State) : Host.Outcome State Fault Refusal :=
  actPd0 dt (fun s =>
    if !pd4Runs s then s
    else settleMigrations (settleProbations ((checks.foldr insertCheck []).foldl (fun s c => checkUnit k c s) s))) s

/-- A grant record treated as absent (R455), with the second of its pair and its calendar entry; contents stay (R57). -/
def dropGrant (g : Nat) (s : State) : State :=
  let r := grantRec s g
  let s := setGrantRec g { r with valid := false } s
  let s := if r.v6 then setGrantRec (g + 1) { grantRec s (g + 1) with valid := false } s else s
  modGarner (fun k => { k with calendar := k.calendar.filter fun e => e.1 != g }) s

/-- A rate record made invalid (R455); its contents stay (R57). -/
def dropRate (i : Nat) (s : State) : State := setRate i { rateRec s i with valid := false } s

/-- UNCORRECTABLE_ERROR (R453, R455): the answer whose request it strikes is dropped in `BUILD`, or the record is made invalid; the unit
is faulted. -/
def execUncorrectableError (dt : Nat) (t : UeTarget) (s : State) : Host.Outcome State Fault Refusal :=
  actPd0 dt (fun s =>
    if !pd4Runs s then s
    else match t with
    | .hopperRequest m c =>
      let s := faultUnit 2 c.val (count 0x110094 s)
      match (s.core.ms[m]).front with
      | some (_, .cells _) =>
        let s := chargeMs m s
        match (s.core.ms[m]).front with
        | some (j, _) => dropTaken j (setFront m none s)
        | none => s
      | _ => s
    | .hopperCell c => faultUnit 2 c.val (count 0x110094 s)
    | .rateRecord i => faultUnit 1 (s.garner.bank[rateBank i]).phys (dropRate i (count 0x110093 s))
    | .grantRecord g => faultUnit 1 (s.garner.bank[grantBank g]).phys (dropGrant g (count 0x110093 s))) s

/-- A Millstone begins its known-answer run of about 6 µs (R454, log entry 16), in which its time goes to `LG_SELFCHECK` and it takes no
descriptor. -/
def beginKat (m : Fin 40) (s : State) : State :=
  modMs m (fun x => { x with katUntil := s.clk + Config.freeAt 17 s.clk, withheld := false }) (chargeMs m s)

/-- Device time of `KAT_PERIOD_S`. -/
def katPeriod (s : State) : Nat := (dressCfg s).katPeriodS * clkPerSec

/-- The Millstone has run its vectors in this period. -/
def katDone (s : State) (m : Fin 40) : Bool := bitAt s.dress.katRan m.val

/-- Every in-service Millstone below `n` has run its vectors in this period. -/
def katDoneBelow (s : State) (n : Nat) : Bool := allMs.all fun m => (s.core.ms[m]).st != .inService || decide (n ≤ m.val) || katDone s m

/-- The period in which each Millstone runs once (R454): once it has passed and all have run, the next one runs. -/
def katTurn (s : State) : State :=
  if s.dress.katSince + katPeriod s ≤ s.clk && katDoneBelow s 40 then
    modDress (fun d => { d with
      katRan := 0, katSince := if katPeriod s = 0 then s.clk else s.clk - (s.clk - d.katSince) % katPeriod s }) s
  else s

/-- The Millstone may run its vectors now (R454): in service, not yet in this period, next in ascending order, with no answer and no
descriptor to take, or withheld from them. -/
def katReady (s : State) (m : Fin 40) : Bool :=
  let x := s.core.ms[m]
  x.st == .inService && x.front.isNone && x.back.isNone && (x.withheld || (topClass s).isNone) && !katDone s m && katDoneBelow s m.val

/-- KAT_RUN (R454): a Millstone runs its vectors; a mismatch faults it, with event 0x110B. -/
def execKatRun (dt : Nat) (m : Fin 40) (agrees : Bool) (s : State) : Host.Outcome State Fault Refusal :=
  actPd0 dt (fun s =>
    let s := katTurn s
    if !katReady s m then s
    else
      let s := modDress (fun d => { d with katRan := setBit d.katRan m.val }) (beginKat m s)
      if agrees then s else removeMs m (emit 0x110B (count 0x110092 s) 0 m.val)) s

/-- KAT_PERIOD_EXPIRY (R454): a unit that has found no gap in the period is withheld from the dequeue arbiter for its run. -/
def execKatPeriodExpiry (dt : Nat) (m : Fin 40) (s : State) : Host.Outcome State Fault Refusal :=
  act dt (fun s =>
    let s := katTurn s
    if (s.core.ms[m]).st == .inService && !katDone s m && decide (s.dress.katSince + katPeriod s ≤ s.clk) then
      modMs m (fun x => { x with withheld := true }) s
    else s) s

/-- PROBATION_PASSED (R457): the matching comparisons have reached 65,536; event 0x1104. -/
def execProbationPassed (dt : Nat) (k : Fin 4) (s : State) : Host.Outcome State Fault Refusal :=
  act dt (fun s =>
    match s.dress.probations[k] with
    | some p =>
      if p.done == 65536 && !p.passed then emit 0x1104 (modProbation k (some { p with passed := true }) s) 0 p.unit.val else s
    | none => s) s

/-- PROBATION_KAT_SUPPLY (R457, R459): after `PROBATION_MAX_MS` known-answer vectors complete the count; one that does not match
fails the probation. -/
def execProbationKatSupply (dt : Nat) (k : KatSupply) (s : State) : Host.Outcome State Fault Refusal :=
  actPd0 dt (fun s =>
    match s.dress.probations[k.probation] with
    | some p =>
      if p.passed || p.done == 65536 || decide (s.clk < p.since + (dressCfg s).probationMaxMs * 1000000 * clkPerNs) then s
      else if k.agrees then countComparisons k.probation 65536 s
      else failProbation k.probation s
    | none => s) s

/-- SPARE_IN_SERVICE (R457, R458): the spare that has passed joins the arbiters, and the worn unit drains. -/
def execSpareInService (dt : Nat) (k : Fin 4) (s : State) : Host.Outcome State Fault Refusal :=
  actPd0 dt (fun s =>
    match s.dress.probations[k] with
    | some p =>
      if p.passed then
        let s := modMs p.unit (fun x => { x with st := .inService, since := s.clk }) s
        let s := match p.worn with
          | some w =>
            let s := chargeMs w s
            if (s.core.ms[w]).st == .inService then modMs w (fun x => { x with st := .draining, withheld := false }) s else s
          | none => s
        settleProbations (emit 0x1106 (modProbation k none s) 0 p.unit.val)
      else s
    | none => s) s

/-- MS_DRAINED (R295, R457): a draining Millstone has finished its answers. A worn one is retired; one drained for a smaller
`MS_IN_SERVICE` is off. -/
def execMsDrained (dt : Nat) (m : Fin 40) (s : State) : Host.Outcome State Fault Refusal :=
  actPd0 dt (fun s =>
    let x := s.core.ms[m]
    if x.st != .draining || x.front.isSome || x.back.isSome then s
    else
      let s := chargeMs m s
      if msWorn s m then retireUnit 0 m.val (modMs m (fun x => { x with st := .retired }) s)
      else modMs m (fun x => { x with st := .off }) s) s

/-- The Dresser holds a bank, or wins it now (R283, R460). -/
def dresserHolds (s : State) (b : Fin 48) : Bool :=
  match (s.garner.bank[b]).holder with
  | some h => h == 40
  | none => bankNext s b == some (40, .general)

/-- A record that could not be copied (R461): it is invalid in the new bank. -/
def dropCopied (b : Fin 48) (i : Nat) (s : State) : State :=
  if b.val < 32 then (if rateBank i == b then count 0x110095 (dropRate i s) else s)
  else if grantBank i == b then count 0x110095 (dropGrant i s) else s

/-- GARNER_MIGRATION_BEAT (R286, R460, R461): a Dresser grant copies up to 16 beats of the bank that migrates; after the last one the bank
switches. `bad` are the records that returned an uncorrectable error. A PRECEDENCE requester suspends a grant whose beats are not
all made. -/
def execGarnerMigrationBeat (dt beats : Nat) (bad : List Nat) (s : State) : Host.Outcome State Fault Refusal :=
  actPd0 dt (fun s =>
    match (List.finRange 48).find? fun b => (s.garner.bank[b]).migrating.isSome with
    | none => s
    | some b =>
      match (s.garner.bank[b]).migrating with
      | none => s
      | some (phys, done) =>
        if !dresserHolds s b then s
        else
          let k := min 16 beats
          let s := bad.foldl (fun s i => dropCopied b i s) s
          let s := modBank b (fun x => { x with
            migrating := some (phys, min 32768 (done + k)), arb := granted x.arb .general 40, holder := none }) s
          if 32768 ≤ done + k then settleMigrations (resumeBank b (switchBank b phys s))
          else if k < 16 && (bankEligible s b).any fun r => r.2 == .prec then
            count 0x0B0005 (modBank b (fun x => { x with susp := 40 :: x.susp }) s)
          else resumeBank b s) s

/-- RETENTION_HOURLY_WRITE (R452): the maps, the stress age and the counts are rewritten. -/
def execRetentionHourlyWrite (dt : Nat) (s : State) : Host.Outcome State Fault Refusal :=
  actPd0 dt (fun s => if pd4Runs s then keepMaps s else s) s

/-- IC_CELL_SWAP (R210): at a window close or gate end of the channel its retired cell is replaced. -/
def execIcCellSwap (dt : Nat) (ch : IcChan) (s : State) : Host.Outcome State Fault Refusal :=
  actPd0 dt (fun s =>
    match ch with
    | .start => if cellRetired s s.ic.startCell then reserveMoved 3 s (swapStart s) else s
    | .stop n => if cellRetired s (s.ic.stop[n]).cell then reserveMoved 3 s (swapStop n s) else s) s

/-- VC_CALIBRATION (R198, R453): a cell's fine step, calibrated; outside ±10 % of 1 ps the cell is faulted. -/
def execVcCalibration (dt : Nat) (cell : Fin 12) (stepFs : Nat) (s : State) : Host.Outcome State Fault Refusal :=
  actPd0 dt (fun s =>
    if bitAt (retiredCells s) cell.val || !pd4Runs s then s
    else
      let s := modIc (fun i => { i with calFs := i.calFs.set cell stepFs }) s
      if stepFs < 900 || 1100 < stepFs then faultUnit 3 cell.val s else s) s

/-- An ADPLL retries now (R98): it holds its word in its role, or is in none and neither the spare nor taking over. -/
def retries (s : State) (n : Fin 4) : Bool :=
  let a := s.pll.adpll[n]
  s.pll.oscinPresent && a.st != .retired &&
    (a.st == .wordHold || (a.st == .qualifying && a.held) ||
      ((roleOf s.pll n).isNone && s.pll.spare != some n && (s.pll.incoming.map (·.2)) != some n))

/-- ADPLL_RETRY (R96, R98, R453): every 10 ms after its unlock an ADPLL retries; `ADPLL_RETRY_MAX` failed retries in a row fault it. -/
def execAdpllRetry (dt : Nat) (n : Fin 4) (s : State) : Host.Outcome State Fault Refusal :=
  actPd0 dt (fun s =>
    if !retries s n then s
    else if (dressCfg s).adpllRetryMax ≤ (s.pll.adpll[n]).retries then faultUnit 4 n.val s
    else retryAdpll n s) s

end Sys2Proof.Machine
end

