-- ==== Sys2Proof/Machine/Modes.lean ====
section
/-!
DEFINITION. The changes of mode: LOAD entry, SAFE entry, RETAIN and the resets, and what a power domain's blocks start from
(01_architecture.md, 18_power_domains_modes_reset.md, 02_configuration_image.md).
-/

namespace Sys2Proof.Machine

/-- The RTC counts a number of crystal cycles (R476). -/
def rtcAdvance (n : Nat) (s : State) : State :=
  let p := s.pd0
  let t := p.rtcSub + n
  { s with pd0 := { p with
      rtcSec := (p.rtcSec + t / 32768) % 2 ^ 48
      rtcSub := t % 32768
      sinceAlign := p.sinceAlign + n
      rtcRunning := p.rtcRunning || decide (0 < n) } }

/-- `STAT3` to `STAT0` (R20): low in RETAIN and while `RESET_N` is low. -/
def statBalls (s : State) : Nat :=
  if s.pwr.resetHeld != .none then 0
  else (if s.pwr.mode == .locked || s.pwr.mode == .holdover then 8 else 0) + modeCode s.pwr.mode

/-- The device drives `NV_CS0_N`, `NV_CS1_N`, `NV_SCK` and `NV_IO0` to `NV_IO3` (R30): only during LOAD. In every other mode, and while
`RESET_N` is low, they are high-impedance. -/
def nvDriven (s : State) : Bool := s.pwr.mode == .load && s.pwr.resetHeld == .none

/-- Each NVM is released from deep power-down and reset (R28, R51). -/
def nvmWake (s : State) : State :=
  [0, 1].foldl (fun s cs => [0xAB, 0x66, 0x99].foldl (fun s op => put (.nvm cs op 0 0) s) s) s

/-- Every answer and request the serving half holds, each once. -/
def heldJobs (s : State) : List Job :=
  let l := s.core.precQ ++ s.core.assuredQ ++ s.core.generalQ ++ s.core.park ++
    (s.core.ms.toList.flatMap fun x => (x.front.map (·.1)).toList ++ (x.back.map (·.1)).toList) ++
    (s.ports.toList.flatMap fun q => q.book.filterMap (·.job)) ++ s.core.pendingSpills.map (·.job)
  l.foldl (fun l j => if l.any fun k => k.id == j.id then l else l ++ [j]) []

/-- Shadow contents of a bank go back over their records. -/
def restoreBank (b : Fin 48) (s : State) : State :=
  (s.garner.bank[b]).shadow.foldl (fun s e =>
    if b.val < 32 then setRate e.record { e.rate with seq := false } s else setGrantRec e.record { e.grant with seq := false } s)
    (modBank b (fun k => { k with holder := none, susp := [], shadow := [] }) s)

/-- Every answer not yet launched is discarded (R322), and no neighbour is told, since only idle is sent (R24, R26). -/
def discardAnswers (s : State) : State :=
  let s := chargeAll s
  let s := (heldJobs s).foldl (fun s j => discard { j with spill := none } s) s
  let s := modCore (fun c => { c with
    precQ := [], assuredQ := [], generalQ := [], park := [], pendingSpills := [], cellsUsed := 0
    ms := c.ms.map fun x => { x with front := none, back := none, withheld := false } }) s
  let s := { s with ports := s.ports.map fun q => { q with book := [], waiting := [], crossing := none, hold := none, susp := [] } }
  let s := (List.finRange 48).foldl (fun s b => restoreBank b s) s
  modLeat (fun l => { l with respWait := [], forward := none, link := l.link.map fun x => { x with txQ := [] } }) s

/-- Probations are abandoned, their spares given back, to be started again after the apply tick (R452, R463). -/
def abandonProbations (s : State) : State :=
  (List.finRange 4).foldl (fun s k =>
    match s.dress.probations[k] with
    | some p =>
      checkReserve 0 (waitAgain p (modProbation k none (modMs p.unit (fun x => { x with st := .spare }) s)))
    | none => s) s

/-- A migration under way is switched at LOAD entry, every record being invalid (R463). -/
def switchMigrations (s : State) : State :=
  (List.finRange 48).foldl (fun s b =>
    match (s.garner.bank[b]).migrating with
    | some (p, _) => switchBank b p (clearBank b s)
    | none => s) s

/-- Several of a block's counters reset to zero. -/
def clearBlocks (l : List Nat) (s : State) : State := l.foldl (fun s b => note (.clearBlock b) s) s

/-- The serving half is reset at LOAD entry by reload or from SAFE (R24, R57, R441, R463): answers, queues, bookings and the
calendar go, Garner records and key slots are invalid with their contents kept, the ledgers and the counters of blocks 0x0B to 0x0E start from zero, samplers
stop. -/
def resetServing (s : State) : State :=
  let s := switchMigrations (abandonProbations (discardAnswers s))
  let s := modCore (fun c => { c with
    dequeue := {}, cellArb := Vector.replicate 8 {}
    ms := c.ms.map fun x => { x with ledger := Vector.replicate 8 0, since := s.clk } }) s
  let s := modGarner (fun g => { g with
    rate := voidAll {} (fun _ r => { r with valid := false }) g.rate
    grant := voidAll {} (fun _ r => { r with valid := false }) g.grant
    calendar := [], nhMac := [], denyCause := 0
    bank := g.bank.map fun b => { phys := b.phys } }) s
  let s := settleMigrations s
  let s := modWeir (fun w => { capacity := w.capacity }) s
  let s := refreshMint false (modNtp (fun n => { n with key := Vector.replicate 64 .empty }) s)
  let s := { s with cli := s.cli.map fun c => { c with
    grants := [], cancelDue := [], waiting := none, lastSync := none, dreqs := [] } }
  let s := modTele (fun t => { t with
    smpQueue := [], smpGap := true, smpLost := t.smpLost || t.smpQueue.any (·.afterLoss), sampler := t.sampler.map fun x => { x with due := [] } }) s
  clearBlocks [0x0B, 0x0C, 0x0D, 0x0E] s

/-- The slots that arrive through the serving half or Leat are `UNAVAILABLE` during LOAD (R24, R138). -/
def slotsUnavailable (s : State) : State :=
  { s with refs := Vector.ofFn fun n =>
      let r := s.refs[n]
      if servedSlot n && r.st != .disabled && r.st != .unavailable then
        { r with prior := r.st, st := .unavailable, delivered := none, awaited := false, held := false, partner := none }
      else r }

/-- The loader starts (R51): the NVM is woken, and pending sets of an earlier load are gone. Whether the timebase runs now decides what
the load may change (R105). -/
def startLoader (s : State) : State :=
  nvmWake { s with
    pll := { s.pll with oscinFixed := s.tb.running }
    ld := { s.ld with
      stage := 1, entered := s.clk, loadCount := min 0xFFFFFFFF (s.ld.loadCount + 1), second := false, sectionsPending := 0
      opened := none, lastBlock := 0, offset := 0, unknownSeen := false, pendUnchecked := false, verBody := [], verTrailer := []
      hdrA := {}, hdrB := {}, pend := {} } }

/-- LOAD entered from a mode that keeps the hardware running (R24, R25): by reload, or from SAFE. A move to HOLDOVER that was due is
discarded (R22). -/
def reloadEntry (s : State) : State :=
  let kind : LoadKind := if s.pwr.mode == .safe then .safe else .reload
  let s := { s with pwr := { s.pwr with mode := .load, loadKind := kind, modeLeft := s.pwr.mode } }
  let s := emit 0x0201 (startLoader s)
  modGov (fun g => { g with grace := false, oscinLost := false }) (icLoad (slotsUnavailable (resetServing s)))

/-- RELOAD (R22, R52): a low on `RELOAD_N` is recognised. During LOAD, or where the active image forbids it, it is ignored, counted
and reported; in RETAIN and while `RESET_N` is low it is not sampled. At the moment SAFE is entered it ranks below that entry and is
discarded (R22). -/
def execReload (dt : Nat) (s : State) : Host.Outcome State Fault Refusal :=
  actPd0 dt (fun s =>
    let ignored := emit 0x0207 (count 0x02000C s)
    if s.pwr.resetHeld != .none then s
    else match s.pwr.mode with
      | .retain => s
      | .load => ignored
      | .safe => if s.pwr.safeAt == some s.clk then s else reloadEntry s
      | _ => if s.cfg.b02.system.reloadEnable then reloadEntry s else ignored) s

/-- SAFE entered (R21, R26, R157, R322): HOLDOVER ends, nothing is selected, answers are discarded, outputs go low. -/
def enterSafe (s : State) : State :=
  let s := holdoverEndsInSafe (icAfterLoad s)
  let s := { s with pwr := { s.pwr with mode := .safe, safeAt := some s.clk }, ld := { s.ld with
    stage := 0, sectionsPending := 0, opened := none, pend := {} } }
  let s := modGov (fun g => { g with sel := none, b := 0, grace := false, oscinLost := false }) s
  let s := { s with refs := s.refs.map fun r =>
    { (if r.st == .selected then { r with st := .eligible } else r) with awaited := false } }
  let s := allSlots.foldl (fun s n => if (s.refs[n]).st == .unavailable then backFromLoad n s else s) s
  outputsMode (discardAnswers s)

/-- The order in which the domains are powered after PD4 (R471). -/
def powerOrder : List Nat := [1, 2, 10, 7, 5, 6, 11, 3, 8, 9]

/-- The roles at a load with the timebase stopped (R87): the default, or the ADPLLs not retired in the order `TB`, `SD`, `CK`. An
unfilled role reads a retired ADPLL. -/
def defaultRoles (retired : Nat) (p : Pll) : Pll :=
  if retired % 16 = 0 then { p with roleTb := 0, roleCk := 1, roleSd := 2, spare := some 3, unfilled := [], incoming := none }
  else
    let all : List (Fin 4) := List.finRange 4
    let good := all.filter fun n => !bitAt retired n.val
    let bad := (all.find? fun n => bitAt retired n.val).getD 0
    { p with
      roleTb := good.getD 0 bad, roleSd := good.getD 1 bad, roleCk := good.getD 2 bad, spare := good[3]?, incoming := none
      unfilled := rolesByRank.drop good.length }

/-- PD1 starts with the timebase stopped (R66, R87, R104): the time value is seeded from the RTC, W and the fraction are zero, and
the ADPLLs start from their centre words. From here to the first lock of `TB` the timebase counts in `NORMAL` with plain stamps (R104;
DEDUCED, log entry 20). -/
def startTimebase (s : State) : State :=
  let ns := s.pd0.rtcSub * 1000000000 / 32768
  let sec := if s.pd0.rtcValid then s.pd0.rtcSec else 0
  let sub := if s.pd0.rtcValid then ns * (5 * 2 ^ 48 / 4) else 0
  let s := { s with tb := { running := true, sec := sec, sub := sub, markerSec := sec, lastTick := 64 * sec + sub / subPerTick } }
  let retired := s.dress.retired[4]
  let p := defaultRoles retired { s.pll with detectDue := true, savedTb := none, savedSd := none, savedCk := none }
  let p := (List.finRange 4).foldl (fun p n =>
    if bitAt retired n.val then modAdpll n (fun a => { a with st := .retired }) p
    else if (roleOf p n).isNone && !s.cfg.b04.adpll[3].a3Standby then p
    else startAdpll n (targetRole p n) p) p
  let s := { s with pll := p }
  let s := if p.unfilled.contains .tb then enterDirect s else s
  p.unfilled.foldl (fun s r => emit 0x040A s (adpllOf p r).val (roleCode r)) s

/-- The oscillator model restored (R147). `MODEL_RESTORED` then stands until PD2 starts again (DEDUCED, log entry 93). -/
def restoreModel (s : State) : State :=
  match kept s.pd0.model with
  | some m => modHo (fun h => { h with
      restored := true, modelState := 1, y0 := m.y0, a := m.a, sy := m.sy, tFit := m.tFit, age := 0 }) s
  | none => s

/-- The Garner's banks mapped (R276): retired ones are replaced from `GB48` to `GB51` in ascending order. -/
def mapBanks (s : State) : State :=
  let retired := retiredMap s 1
  let bad := (List.range 48).filter (bitAt retired)
  let extra := (List.range' 48 4).filter fun p => !bitAt retired p
  modGarner (fun g => { g with bank := Vector.ofFn fun b =>
    { phys := if bitAt retired b.val then extra.getD (bad.findIdx fun x => x == b.val) b.val else b.val } }) s

/-- What the blocks of a domain start from when it is good, or when it leaves reset. -/
def startDomain (pd : Nat) (s : State) : State :=
  match pd with
  | 1 => if s.tb.running then s else startTimebase s
  | 2 => restoreModel (icPowered s)
  | 3 =>
    let run := s.cfg.b07.gnss.gnssEnable
    let s := modGnss (fun _ => { cn0Table := (kept s.pd0.cn0Table).getD [], startDue := run }) s
    if run then takePosition s else s
  | 10 => mapBanks s
  | 11 => modLeat (fun l => { l with rootId := ownSerial }) s
  | _ => s

/-- The domains that hold SerDes lanes (R468): PD5, PD6 and PD11. -/
def laneDomain (d : Nat) : Bool := d == 5 || d == 6 || d == 11

/-- The lanes of a domain that has powered up are calibrated against `SDCAL` (R504); with it open or shorted there is no calibration. -/
def calibrateLanes (d : Nat) (c : SdCal) (s : State) : State :=
  if laneDomain d then
    { s with pwr := { s.pwr with lanesCal := if c = .fitted then setBit s.pwr.lanesCal d else clearBit s.pwr.lanesCal d } }
  else s

/-- DOMAIN_POWER_GOOD (R471, R472, R504): the domain that is powering up is good; its lanes are calibrated, its blocks start, and the next
one is powered. -/
def execDomainPowerGood (dt rtcCycles : Nat) (p : PowerUp) (s : State) : Host.Outcome State Fault Refusal :=
  actTime dt (fun s =>
    let s := rtcAdvance rtcCycles s
    match s.pwr.powering with
    | d :: r =>
      if d == p.pd.val && s.pwr.mode != .retain && s.pwr.resetHeld == .none then
        startDomain d (calibrateLanes d p.sdcal { s with pwr := { s.pwr with powering := r, domainOn := setBit s.pwr.domainOn d } })
      else s
    | [] => s) s

/-- The copies of a retention item that pass their check (R475). -/
def passing {α : Type} (damaged : List (RetItem × Bool)) (i : RetItem) (k : Kept α) : Kept α :=
  { k with
    copy0 := if damaged.contains (i, false) then none else k.copy0
    copy1 := if damaged.contains (i, true) then none else k.copy1 }

/-- Both copies of an item that was kept fail their check. -/
def lost {α : Type} (damaged : List (RetItem × Bool)) (i : RetItem) (k : Kept α) : Bool :=
  (kept k).isSome && (kept (passing damaged i k)).isNone

/-- The items of which both copies fail their check (R475). -/
def lostItems (damaged : List (RetItem × Bool)) (p : Pd0) : List RetItem :=
  [(.rtc, lost damaged .rtc p.rtcItem), (.model, lost damaged .model p.model), (.almanac, lost damaged .almanac p.almanac),
   (.ephemeris, lost damaged .ephemeris p.ephemeris), (.position, lost damaged .position p.position),
   (.utcParams, lost damaged .utcParams p.utcParams), (.cn0Table, lost damaged .cn0Table p.cn0Table),
   (.maps, lost damaged .maps p.maps), (.retainCnt, lost damaged .retainCnt p.retainCnt)].filterMap
    fun (e : RetItem × Bool) => if e.2 then some e.1 else none

/-- The number of a retention item in the order of R474. -/
def itemIndex (i : RetItem) : Nat :=
  match i with
  | .rtc => 0
  | .model => 1
  | .almanac => 2
  | .ephemeris => 3
  | .position => 4
  | .utcParams => 5
  | .cn0Table => 6
  | .maps => 7
  | .retainCnt => 8

/-- Crystal cycles that the RTC has counted since it showed a second. -/
def rtcSince (p : Pd0) (sec : Nat) : Nat := (p.rtcSec + 2 ^ 48 - sec % 2 ^ 48) % 2 ^ 48 * 32768 + p.rtcSub

/-- The RTC's item as a restore gives it (R475, R476): where the copy written last fails its check and the other passes, the last alignment
and the tolerance are that copy's, and `RTC_VALID` is no better than it. Both copies lost leave `RTC_VALID` 0. The count of the RTC
itself runs on. -/
def restoreRtc (damaged : List (RetItem × Bool)) (p : Pd0) : Pd0 :=
  match kept (passing damaged .rtc p.rtcItem) with
  | some i =>
    if kept p.rtcItem == some i then p
    else { p with rtcValid := p.rtcValid && i.valid, sinceAlign := i.sinceAlign + rtcSince p i.sec, tolPpm := i.tolPpm }
  | none => { p with rtcValid := p.rtcValid && !lost damaged .rtc p.rtcItem }

/-- Retention RAM after the checks of a restore (R475). -/
def checkedPd0 (damaged : List (RetItem × Bool)) (p : Pd0) : Pd0 :=
  { restoreRtc damaged p with
    rtcItem := passing damaged .rtc p.rtcItem
    model := passing damaged .model p.model
    almanac := passing damaged .almanac p.almanac
    ephemeris := passing damaged .ephemeris p.ephemeris
    position := passing damaged .position p.position
    utcParams := passing damaged .utcParams p.utcParams
    cn0Table := passing damaged .cn0Table p.cn0Table
    maps := passing damaged .maps p.maps
    retainCnt := passing damaged .retainCnt p.retainCnt }

/-- The slices that serve the lanes of an equaliser group whose retired ones are known (R262, R456): the lowest-numbered of the others. -/
def slicesFor (retired : Nat) : Vector Nat 4 :=
  let good := (List.range 5).filter fun u => !bitAt retired u
  Vector.ofFn fun i => good.getD i.val i.val

/-- The reserve events that a restored count shows as issued before (R451, R452). -/
def issuedBefore (m : MapsItem) (f : Fin 12 → Nat → Bool) : Nat :=
  (List.finRange 12).foldl (fun n k => if k.val != 0 && f k m.reserves[k] then n + 2 ^ k.val else n) 0

/-- The Dresser's map, stress age and reserve counts restored (R452). Retired slices serve no lane (R456). -/
def restoreMaps (m : MapsItem) (s : State) : State := modDress (fun d => { d with
  retired := m.retired
  stressAge := m.stressAge
  reserveBefore := some m.reserves[0]
  lowIssued := issuedBefore m fun k n => decide (pctOf (sparesMade s k) n ≤ 25)
  exhaustedIssued := issuedBefore m fun _ n => n == 0
  eqMap := Vector.ofFn fun g => slicesFor (m.retired[(Fin.ofNat 12 (6 + g.val) : Fin 12)]) }) s

/-- LOAD entered as from RETAIN (R21, R51, R452, R475, R491): PD4 starts the loader and checks retention RAM. -/
def freshLoad (kind : LoadKind) (damaged : List (RetItem × Bool)) (s : State) : State :=
  let gone := lostItems damaged s.pd0
  let s := { s with
    pd0 := checkedPd0 damaged s.pd0
    avs := { st := .awaiting }
    pwr := { s.pwr with mode := .load, loadKind := kind, modeLeft := .acquire, resetHeld := .none, applied := false } }
  let s := modDress (fun d => { d with mapOk := !gone.contains .maps }) (match kept s.pd0.maps with
    | some m => restoreMaps m s
    | none => s)
  let s := emit 0x0201 (startLoader s)
  let s := if gone.contains .maps then emit 0x110C s 0xFF 0xFF else s
  let s := if s.pd0.rtcValid then s else emit 0x1209 s
  gone.foldl (fun s i => emit 0x120A s (Config.retentionItemNumber (itemIndex i) % 256)) s

/-- RETAIN_EXIT (R21, R471): `STBY_N`, `PGOOD` and `RESET_N` have been high together for 1 ms. PD4 is powered, and the other domains
follow. -/
def execRetainExit (rtcCycles : Nat) (damaged : List (RetItem × Bool)) (s : State) : Host.Outcome State Fault Refusal :=
  actTime 0 (fun s =>
    if s.pwr.mode == .retain then
      let s := rtcAdvance rtcCycles s
      let s := { s with
        pwr := { s.pwr with
          domainOn := 0x11, powering := powerOrder, exitAt := s.clk, pgoodLow := false
          retainS := min 0xFFFFFFFF ((s.pd0.inRetain + rtcCycles) / 32768) }
        pd0 := { s.pd0 with inRetain := s.pd0.inRetain + rtcCycles } }
      freshLoad .retain damaged s
    else s) s

/-- Every block byte with counters. -/
def allBlocks : List Nat := (List.range 0x13).drop 2

/-- The event ring is emptied, `ATTN_N` released, and counters reset. -/
def clearReport (blocks : List Nat) (s : State) : State := note .clearRing (clearBlocks blocks s)

/-- The RTC's item written to retention RAM (R474). -/
def keepRtc (p : Pd0) : Pd0 :=
  { p with rtcItem := keep { sec := p.rtcSec, valid := p.rtcValid, sinceAlign := p.sinceAlign, tolPpm := p.tolPpm } p.rtcItem }

/-- RETAIN entered (R22, R473): frames that cross are cut short, every domain but PD0 is gated; the RTC item and `RETAIN_CNT` are
written. The choice of R498 stands until `PGOOD` falls. -/
def enterRetain (k : RetainCause) (s : State) : State :=
  let s := cutFrames s
  let p := s.pd0
  let pd0 := { keepRtc p with
    inRetain := 0, retainCnt := keep (min 0xFFFF ((kept p.retainCnt).getD 0 + 1)) p.retainCnt }
  clearReport allBlocks
    { pending := s.pending, out := s.out, wire := s.wire, clk := s.clk, pd0 := pd0, otp := s.otp, rep := s.rep
      mon := { vddioB33 := if k == .pgood then none else s.mon.vddioB33 }
      pwr := { resetCause := 1, pgoodLow := k == .pgood } }

/-- RETAIN_ENTRY (R22, R473): `STBY_N` or `PGOOD` is recognised low. In RETAIN it says what `PGOOD` is now, low by `pgood` and high by
`stbyN` (R496, log entry 85). -/
def execRetainEntry (dt : Nat) (k : RetainCause) (rtcCycles : Nat) (s : State) : Host.Outcome State Fault Refusal :=
  actPower dt (fun s => s.pwr.mode != .retain) (fun s => if s.pwr.mode == .retain then
      let s := rtcAdvance rtcCycles s
      { s with
        pd0 := { s.pd0 with inRetain := s.pd0.inRetain + rtcCycles }
        mon := if k == .pgood then { s.mon with vddioB33 := none } else s.mon
        pwr := { s.pwr with pgoodLow := k == .pgood } }
    else enterRetain k (rtcAdvance rtcCycles s)) s

/-- What is left while `RESET_N` is low (R479): PD0, and at a warm reset PD1 with its configuration. The mode is LOAD, to begin at
the release. -/
def resetBlocks (cold : Bool) (s : State) : State :=
  let s0 : State :=
    { pending := s.pending, out := s.out, wire := s.wire, notes := s.notes, clk := s.clk, pd0 := s.pd0, otp := s.otp, rep := s.rep
      ld := { loadCount := s.ld.loadCount }
      mon := { vddioB33 := s.mon.vddioB33 }
      pwr := { mode := .load, loadKind := .resetN, resetHeld := if cold then .cold else .warm, domainOn := s.pwr.domainOn, pgoodLow := false,
               lanesCal := s.pwr.lanesCal, resetCause := if cold then 3 else 2, exitAt := s.pwr.exitAt, retainS := s.pwr.retainS } }
  if cold then clearReport allBlocks s0
  else
    clearReport (allBlocks.filter fun b => b != 3 && b != 4 && b != 9) (outputsMode
      { s0 with tb := s.tb, ts := s.ts, pll := s.pll, outs := s.outs, gov := { needQualify := s.gov.needQualify },
                cfg := { b03 := s.cfg.b03, b04 := s.cfg.b04, b09 := s.cfg.b09 } })

/-- WARM_RESET (R479): `RESET_N` is recognised low; PD2 to PD11 are held in reset. In RETAIN it has no effect (R487). -/
def execWarmReset (dt : Nat) (s : State) : Host.Outcome State Fault Refusal :=
  actPower dt (fun s => s.pwr.mode != .retain && s.pwr.resetHeld == .none)
    (fun s => if s.pwr.mode == .retain || s.pwr.resetHeld != .none then s else resetBlocks false s) s

/-- COLD_RESET (R479): `RESET_N` has been low for 100 ms; PD1 is reset too, and the timebase stops. -/
def execColdReset (dt : Nat) (s : State) : Host.Outcome State Fault Refusal :=
  actPower dt (fun s => s.pwr.resetHeld == .warm) (fun s => if s.pwr.resetHeld == .warm then resetBlocks true s else s) s

/-- The domains that are powered leave reset, and the others are powered in the order of R471. -/
def leaveReset (s : State) : State :=
  let on := powerOrder.filter (bitAt s.pwr.domainOn)
  on.foldl (fun s d => startDomain d s)
    { s with pwr := { s.pwr with powering := powerOrder.filter fun d => !bitAt s.pwr.domainOn d } }

/-- RESET_RELEASE (R478, R479): after `RESET_N` has risen, `STBY_N`, `PGOOD` and `RESET_N` have been high together for 1 ms; LOAD
starts as from RETAIN. -/
def execResetRelease (dt rtcCycles : Nat) (damaged : List (RetItem × Bool)) (s : State) : Host.Outcome State Fault Refusal :=
  actTime dt (fun s =>
    let s := rtcAdvance rtcCycles s
    if s.pwr.resetHeld == .none then s else leaveReset (freshLoad .resetN damaged s)) s

/-- POWER_ON (R479): PD0 gains power after having had neither `VBAT` nor `VDDIO`; everything starts from reset, with `RTC_VALID`
0 and `RESET_CAUSE` 0. -/
def execPowerOn (onVddio : Bool) (s : State) : Host.Outcome State Fault Refusal :=
  actPower 0 (fun s => s.pwr.mode == .retain) (fun s =>
    if s.pwr.mode == .retain then
      clearReport allBlocks { pending := s.pending, clk := s.clk, otp := s.otp, rep := s.rep, pd0 := { onVddio := onVddio } }
    else s) s

/-- PD0_SUPPLY_CHANGEOVER (R469): PD0 changes between `VDDIO` and `VBAT`, and keeps its contents. -/
def execPd0SupplyChangeover (dt : Nat) (toVddio : Bool) (s : State) : Host.Outcome State Fault Refusal :=
  actPd0 dt (fun s => { s with pd0 := { s.pd0 with onVddio := toVddio } }) s

/-- TAP_RESET (R478, R496): `TRST_N` resets the JTAG TAP and nothing else; in RETAIN it is ignored. -/
def execTapReset (dt : Nat) (s : State) : Host.Outcome State Fault Refusal :=
  actOtp dt (fun s => if s.pwr.mode == .retain then s else { s with otp := { s.otp with tapOtpAccess := false } }) s

/-- RTC_CRYSTAL_LOSS (R476): the crystal gives no edge for 250 µs; `RTC_VALID` becomes 0. -/
def execRtcCrystalLoss (dt : Nat) (s : State) : Host.Outcome State Fault Refusal :=
  actPd0 dt (fun s => { s with pd0 := { s.pd0 with rtcValid := false, rtcRunning := false } }) s

end Sys2Proof.Machine
end

