-- ==== Sys2Proof/Machine/Avs.lean ====
section
/-!
DEFINITION. Adaptive voltage and the on-die monitors (18_power_domains_modes_reset.md).
-/

namespace Sys2Proof.Machine

/-- The AVS controller changed. -/
def modAvs (f : Avs → Avs) (s : State) : State := { s with avs := f s.avs }

/-- The active record. -/
def avsCfg (s : State) : AvsConfigRec := s.cfg.b12.avs

/-- A command to the regulator (R480): on `AVS_ADDR`, at the speed and with the error checking of the record, and after `PAGE` unless
`AVS_PAGE` is 0xFF. -/
def pmbusOps (c : AvsConfigRec) (code : Nat) (data : Option Nat) : List Output :=
  let op (code : Nat) (data : Option Nat) : Output :=
    .pmbus { addr := c.avsAddr, fast := c.avsBusFast, pec := c.avsPec, code := code, data := data }
  (if c.avsPage = 0xFF then [] else [op 0x00 (some c.avsPage)]) ++ [op code data]

/-- A command to the regulator put out. -/
def pmbus (code : Nat) (data : Option Nat) (s : State) : State := (pmbusOps (avsCfg s) code data).foldl (fun s o => put o s) s

/-- The loop enters fault (R483): the set point is left as it stands. -/
def avsFault (s : State) : State :=
  if s.avs.st == .fault then s
  else emit 0x1202 (modAvs (fun a => { a with st := .fault, wanted := none, checkDue := false, nakRun := 0 }) s)

/-- A transaction that is acknowledged and passes PEC. -/
def avsAck : State → State := modAvs fun a => { a with nakRun := 0 }

/-- A transaction that is not acknowledged or fails PEC (R483): counted, and three in a row are a fault. A command and the `PAGE` write
before it are judged as one transaction (DEDUCED, log entry 31). -/
def avsNak (s : State) : State :=
  let n := s.avs.nakRun + 1
  let s := count 0x120011 (modAvs (fun a => { a with nakRun := n }) s)
  if 3 ≤ n then avsFault s else s

/-- The exponent N of a linear `VOUT_MODE` (R480), none for another mode. -/
def linearExponent (m : Nat) : Option Int :=
  if bitsOf m 5 3 != 0 then none else some (if bitAt m 4 then (m % 16 : Nat) - 16 else (m % 16 : Nat))

/-- The takeover (R481): `VOUT_MODE` and `READ_VOUT` are read, and the value read is the set point. -/
def avsTakeover (r : AvsTakeover) (s : State) : State :=
  let s := pmbus 0x20 none s
  match r.voutMode with
  | none => avsNak s
  | some m =>
    match linearExponent m with
    | none => avsFault (avsAck s)
    | some e =>
      let s := pmbus 0x8B none s
      match r.voutMv with
      | none => avsNak (avsAck s)
      | some v => emit 0x1201 (modAvs (fun a => { a with
          st := .active, setMv := v, exponent := e, nakRun := 0, wanted := none, checkDue := false, takenAt := some s.clk }) s)

/-- The word `VOUT_COMMAND` carries (R480): round(V × 2^−N). -/
def voutWord (mv : Nat) (e : Int) : Nat :=
  let v : Rat := (mv : Rat) / 1000
  (nearest (if e < 0 then v * (2 ^ e.natAbs : Nat) else v / (2 ^ e.natAbs : Nat))).toNat % 65536

/-- A `VOUT_COMMAND` write of the set point (R480, R482), acknowledged or not; `READ_VOUT` follows 1 ms later. -/
def avsWrite (mv : Nat) (acked : Bool) (s : State) : State :=
  let s := pmbus 0x21 (some (voutWord mv s.avs.exponent)) (modAvs (fun a => { a with lastWrite := some s.clk, wanted := none }) s)
  if acked then count 0x12000F (modAvs (fun a => { a with nakRun := 0, checkDue := true }) s) else avsNak s

/-- `AVS_SETTLE_US` has passed since the last write (R482). -/
def avsSettled (s : State) : Bool :=
  match s.avs.lastWrite with
  | some t => decide (t + (avsCfg s).avsSettleUs * 1000 * clkPerNs ≤ s.clk)
  | none => true

/-- F and U of R482 in 0.01 M SU/s, scaled by 100 and by 10,000; r beside them. -/
structure AvsRates where
  r : Nat
  f : Nat
  u : Nat

/-- The rates by which a tick judges, none with no Millstone in service. -/
def avsRates (s : State) : Option AvsRates :=
  let c := avsCfg s
  ((s.core.ms.toList.filter fun x => x.st == .inService).map (·.rate)).min?.map fun r =>
    { r := r, f := 1250 * (100 + c.avsGuardPct), u := 1250 * (100 + c.avsGuardPct) * (100 + c.avsHystPct) }

/-- The set point a tick asks for (R482), within `AVS_VMIN_MV` to `AVS_VMAX_MV`. One that new limits leave outside comes inside by steps
(R481). -/
def avsTarget (s : State) (x : AvsRates) : Nat :=
  let c := avsCfg s
  let v := s.avs.setMv
  let w :=
    if x.r < 1250 then v + 4 * c.avsStepMv
    else if x.r * 100 < x.f then v + c.avsStepMv
    else if x.u < x.r * 10000 then v - c.avsStepMv
    else v
  if c.avsVmaxMv < v then max c.avsVmaxMv (v - c.avsStepMv)
  else if v < c.avsVminMv then min c.avsVmaxMv (max w (v + c.avsStepMv))
  else max c.avsVminMv (min c.avsVmaxMv w)

/-- `READ_IOUT` of a tick (R480). -/
def avsReadIout (iout : Option Nat) (s : State) : State :=
  let s := pmbus 0x8C none s
  match iout with
  | some i => avsAck (modAvs (fun a => { a with ioutMa := i % 2 ^ 32 }) s)
  | none => avsNak s

/-- The controller on a 64 Hz tick (R480, R482): `READ_IOUT` once the bus is in use, and in the loop the set point and `AVS_AT_MAX`. The
tick of the takeover itself is not yet one of the loop's (R481). -/
def avsTick (iout : Option Nat) (acked : Bool) (s : State) : State :=
  if s.avs.st == .disabled || !s.pwr.applied then s
  else
    let s := avsReadIout iout s
    match s.avs.st == .active && s.avs.takenAt != some s.clk, avsRates s with
    | true, some x =>
      let v := avsTarget s x
      let moved := v != s.avs.setMv
      let s := modAvs (fun a => { a with setMv := v }) s
      let s := if moved then
          (if avsSettled s then avsWrite v acked s else modAvs (fun a => { a with wanted := some v }) s)
        else s
      let top := v == (avsCfg s).avsVmaxMv && decide (x.r * 100 < x.f)
      let rises := top && !s.avs.atMax
      let s := modAvs (fun a => { a with atMax := top }) s
      if rises then emit 0x1203 s else s
    | _, _ => s

/-- AVS_SETTLE_EXPIRY (R482): `AVS_SETTLE_US` after the last write a pending write is made. -/
def execAvsSettleExpiry (dt : Nat) (acked : Bool) (s : State) : Host.Outcome State Fault Refusal :=
  act dt (fun s =>
    match s.avs.wanted with
    | some v => if s.avs.st == .active && pd4Runs s then avsWrite v acked s else s
    | none => s) s

/-- AVS_VOUT_CHECK (R483): 1 ms after a write `READ_VOUT` is compared with the set point. -/
def execAvsVoutCheck (dt : Nat) (voutMv : Option Nat) (s : State) : Host.Outcome State Fault Refusal :=
  act dt (fun s =>
    if s.avs.checkDue && s.avs.st == .active && pd4Runs s then
      let s := pmbus 0x8B none (modAvs (fun a => { a with checkDue := false }) s)
      match voutMv with
      | none => avsNak s
      | some v => if v + 20 < s.avs.setMv || s.avs.setMv + 20 < v then avsFault (avsAck s) else avsAck s
    else s) s

/-- AVS_ALERT (R483, R496): `AVS_ALERT_N` is low; `STATUS_WORD` is read and `CLEAR_FAULTS` written, each judged. Before the takeover of
R481, and with `AVS_EN` = 0, the ball is ignored. -/
def execAvsAlert (dt : Nat) (a : AlertRead) (s : State) : Host.Outcome State Fault Refusal :=
  act dt (fun s =>
    if pd4Runs s && s.pwr.applied && s.avs.st != .disabled then
      let s := pmbus 0x79 none s
      let s := match a.status with
        | some w => avsAck (modAvs (fun a => { a with statusWord := w % 65536 }) s)
        | none => avsNak s
      let s := count 0x120010 (pmbus 0x03 none (emit 0x1205 s))
      if a.cleared then avsAck s else avsNak s
    else s) s

/-- AVS_TAKEOVER_RETRY (R483): in fault, or where the takeover was not acknowledged, it is tried again once per second. -/
def execAvsTakeoverRetry (dt : Nat) (r : AvsTakeover) (s : State) : Host.Outcome State Fault Refusal :=
  act dt (fun s =>
    if pd4Runs s && s.pwr.applied && (s.avs.st == .fault || s.avs.st == .awaiting) then avsTakeover r s else s) s

/-- The maximum junction temperature of the ordering code in °C (R2, R512). -/
def codeMaximum : Nat := if Config.gradeIndustrial then 105 else 100

/-- The alarm threshold in 0.01 °C (R484). -/
def tjLimit (s : State) : Int :=
  ((if s.cfg.b12.power.tjAlarmC = 0 then codeMaximum else s.cfg.b12.power.tjAlarmC) * 100 : Nat)

/-- `VDDIO_B` has its 3.3 V range (R498): by its first measurement since `PGOOD` rose, which is this one where none was before. -/
def vddioBHigh (s : State) (mv : Nat) : Bool := s.mon.vddioB33.getD (decide (2500 ≤ mv))

/-- RAIL_MONITOR_SAMPLE (R477, R484): every rail, in the order of R467, and the junction temperature are measured. -/
def execRailMonitorSample (dt : Nat) (rails : List Nat) (tjCenti : Int) (s : State) : Host.Outcome State Fault Refusal :=
  act dt (fun s =>
    if !pd4Runs s then s
    else
      let v (i : Nat) := rails.getD i 0 % 65536
      let old := s.mon
      let low := decide (v 0 < 1900)
      let alarm := decide (tjLimit s < tjCenti)
      let critical := decide (12500 < tjCenti)
      let s := { s with mon := {
        vbat := v 0, vddio := v 1, vddioB := v 2, vcore := v 3, vtb := v 4, vmem := v 5, vsa := v 6, vsh := v 7,
        tjCenti := tjCenti, vbatLow := low, tjAlarm := alarm, tjCritical := critical,
        vddioB33 := some (vddioBHigh s (v 2)) } }
      let s := if alarm && !old.tjAlarm then emit 0x1207 s else s
      let s := if critical && !old.tjCritical then emit 0x1208 s else s
      let s := if low && !old.vbatLow then emit 0x120B s else s
      tallySample 6 0 tjCenti (tallySample 5 0 (v 3 : Nat) s)) s

/-- The monitor window of a rail in mV (R498), `VDDIO_B` having its 3.3 V range or not. -/
def railWindow (high : Bool) (rail : Fin 8) : Nat × Nat :=
  match rail.val with
  | 0 => (1800, 3600)
  | 1 | 7 => (1710, 1890)
  | 2 => if high then (3135, 3465) else (1710, 1890)
  | 3 => (650, 850)
  | 4 | 5 => (776, 824)
  | _ => (1164, 1236)

/-- RAIL_OUT_OF_RANGE (R484, R498): a rail has been outside its window for 100 µs. -/
def execRailOutOfRange (dt : Nat) (rail : Fin 8) (mv : Nat) (s : State) : Host.Outcome State Fault Refusal :=
  act dt (fun s =>
    if !pd4Runs s then s
    else
      let high := vddioBHigh s mv
      let w := railWindow high rail
      let s := if rail = 2 then { s with mon := { s.mon with vddioB33 := some high } } else s
      if mv < w.1 || w.2 < mv then count 0x120012 (emit 0x1206 s rail.val) else s) s

end Sys2Proof.Machine
end

