-- ==== Sys2Proof/Machine/Marker.lean ====
section
/-!
DEFINITION. The second marker and what is tied to it: UTC sources, markers, the oscillator model, the holdover block, the RTC's
alignment and the watches of a second (03_timescale.md).
-/

namespace Sys2Proof.Machine

/-- The time value moved on to the first advance at or after a time, in units of `sub`; none where it has passed. -/
def advanceTo (target : Nat) (s : State) : State := elapse (advancesTo s (target - (s.tb.sec * subPerSec + s.tb.sub))) s

/-- The week whose low eight bits are given, of those the nearest to a week (PRESUMED, log entry 79). -/
def weekNear (now low : Nat) : Nat := now + 128 - (now + 128 - low % 256) % 256

/-- The end of day DN of week WNLSF as a TAI second (R76): the weeks are counted from the GPS epoch, and a day of UTC ends ΔtLS after that
of GPS time. -/
def leapAtGps (week : Nat) (u : GpsUtc) : Nat := (315964819 + weekNear week u.wnLsf * 604800 + u.dn * 86400 + u.dtLs).toNat

/-- The GNSS source of UTC (R76): GPS UTC parameters, while the consistency checks pass. -/
def utcGnss (s : State) : Option UtcSchedule :=
  if s.gnss.timingState = 3 then none
  else s.gnss.utc.map fun u =>
    let dir := u.dtLsf - u.dtLs
    if dir = 1 ∨ dir = -1 then { offset := u.dtLs + 19, leapDir := dir, leapTime := leapAtGps s.gnss.utcWeek u }
    else { offset := u.dtLs + 19 }

/-- A slot is qualified (R76): it is in `WTR`, `ELIGIBLE` or `SELECTED`; one that is disputed, outvoted or quarantined is not (DESIGN
CHOICE, log entry 79). -/
def slotQualified (s : State) (n : Fin 13) : Bool := (s.refs[n]).st == .wtr || inPlay s n

/-- The Announce by which a PTP slot supplies UTC (R76). -/
def utcAnnounce (s : State) (i : Fin 2) : Option PtpMsg :=
  if slotQualified s (cliSlot i) then ((bestOf s.cli[i]).map (·.msg)).filter (·.utcOffsetValid) else none

/-- The TAI second of the next UTC midnight under an offset. -/
def nextMidnight (tai o : Int) : Nat := (((tai - o) / 86400 + 1) * 86400 + o).toNat

/-- The PTP source of UTC (R76): the selected slot of two, else `REF5`. -/
def utcPtp (s : State) : Option UtcSchedule :=
  let a := utcAnnounce s 0
  let b := utcAnnounce s 1
  let m := if s.gov.sel == some (cliSlot 1) then b.or a else a.or b
  m.map fun m =>
    let t := nextMidnight s.tb.sec m.utcOffset
    if m.leap61 then { offset := m.utcOffset, leapDir := 1, leapTime := t }
    else if m.leap59 then { offset := m.utcOffset, leapDir := -1, leapTime := t }
    else { offset := m.utcOffset }

/-- The valid sources by `UTC_SOURCE`, the highest precedence first (R76). -/
def utcSources (s : State) : List (Nat × UtcSchedule) :=
  ((utcGnss s).map fun u => (2, u)).toList ++ ((utcPtp s).map fun u => (1, u)).toList ++ [(0, imageSchedule s)]

/-- What a source says of the present second: its offset, and a change that is pending. -/
def utcSays (u : UtcSchedule) (sec : Nat) : Int × Int × Nat :=
  if leapPending u sec then (effectiveOffset u sec, u.leapDir, u.leapTime) else (effectiveOffset u sec, 0, 0)

/-- The source of the highest precedence is taken into use, with its present schedule (R76, R77); in a freeze nothing changes
(R78). -/
def utcTake (s : State) : State :=
  if s.ts.leapFrozen then s
  else match utcSources s with
    | [] => s
    | (c, u) :: _ =>
      let s := if c = s.ts.utcSource then s else emit 0x0305 (modTs (fun t => { t with utcSource := c }) s)
      if u = s.ts.utc then s else acceptSchedule u s

/-- Each valid source of lower precedence that differs from the one in use is counted and reported (R77). -/
def utcCompare (s : State) : State :=
  ((utcSources s).filter fun e =>
    decide (e.1 < s.ts.utcSource) && utcSays e.2 s.tb.sec != utcSays s.ts.utc s.tb.sec).foldl
    (fun s _ => emit 0x0306 (count 0x03000F s)) s

/-- The RTC is aligned at a marker, and its item kept (R474, R476). -/
def rtcAlign (s : State) : State :=
  if timeValid s && s.cfg.b12.power.rtcDiscipline then
    { s with pd0 := keepRtc { s.pd0 with rtcSec := s.tb.sec, rtcSub := 0, sinceAlign := 0, rtcValid := true } }
  else s

/-- How many times faster than at 95 °C a junction at a temperature in 0.01 °C ages: the law of Arrhenius with 0.7 eV (R462; log entry
18). One hour at 105 °C counts 1.79 h. -/
def stressRate (tj : Int) : Rat :=
  let kelvin : Rat := (max 1 (tj + 27315) : Int) / 100
  expWide (70000000000000 / 8617333262 * (100 / 36815 - 1 / kelvin))

/-- The stress of a second, in hours at 95 °C (R462). -/
def stressMarker (s : State) : State :=
  modDress (fun d => { d with stressAge := d.stressAge + stressRate s.mon.tjCenti / 3600 }) s

/-- Every once-per-second action, the time having reached the boundary (R69). -/
def markerActions (s : State) : State :=
  let s := { s with tb := { s.tb with markerSec := s.tb.sec } }
  let s := if s.cfg.b03.timescale.secMarkerEn then icMarker false (ringMarkers false s) else s
  let s := synthEdges s
  let s := utcCompare (utcTake (refreshFreeze (refreshOffset s)))
  let s := todLatch (outputsMode (holdoverMarker (modelMarker s)))
  let s := if s.pwr.mode == .load then s else evalKeys false s
  let s := clientMarker 1 (clientMarker 0 s)
  let s := allLinks.foldl (fun s n => leatMarker n s) s
  let s := modNtp (fun n => { n with ptpDiff := (s.refs[(5 : Fin 13)]).x - (s.refs[(6 : Fin 13)]).x }) s
  rtcAlign (stressMarker s)

/-- SECOND_MARKER (R69, R77): the nanoseconds pass from 999,999,999 to 0. The RTC has counted a number of crystal cycles since the
command that last said so. While `RESET_N` is low only the time moves. -/
def execSecondMarker (rtcCycles : Nat) (s : State) : Host.Outcome State Fault Refusal :=
  actTime 0 (fun s =>
    let s := rtcAdvance rtcCycles s
    if !s.tb.running then s
    else
      let s := advanceTo ((s.tb.markerSec + 1) * subPerSec) s
      if s.pwr.resetHeld == .none then markerActions s else { s with tb := { s.tb with markerSec := s.tb.sec } }) s

end Sys2Proof.Machine
end

