-- ==== Sys2Proof/Machine/Fantail.lean ====
section
/-!
DEFINITION. The Fantail's part of the Governor tick (R125, steps 2, 3 and 5): slot states, disagreements, selection, and the entry
to and the exit from HOLDOVER (05_reference_selection.md, 06_holdover.md).
-/

namespace Sys2Proof.Machine

/-- A time or phase slot is farther from the timescale than `INTEGRITY_LIMIT_NS` (R122). -/
def offTime (s : State) (n : Fin 13) : Bool :=
  let lim := s.cfg.b05.fantail.integrityLimitNs
  timeHeld s && lim != 0 && timeOrPhase (refKind s n) && beyondNs (netX s n) lim

/-- The QL of a slot follows its advertised quality (R116), with event 0x0509 at a change. -/
def slotQl (n : Fin 13) (s : State) : State :=
  let q := qlNow s n
  if q = (s.refs[n]).ql then s else emit 0x0509 (modRef n (fun r => { r with ql := q }) s) n.val

/-- The state of a slot with a signal and its QL taken (R117, R119, R120, R122, R154). A quarantined slot is released by its owner
alone. -/
def slotState (n : Fin 13) (s : State) : State :=
  let r := s.refs[n]
  let enter (st : RefState) := modRef n (fun r => { r with st := st, partner := none, jumpRun := 0 })
  if r.st == .quarantined then s
  else if r.ql = 15 then (if r.st == .qlUnusable then s else enter .qlUnusable s)
  else if offTime s n then (if r.st == .offTime then s else emit 0x0504 (enter .offTime s) n.val)
  else match r.st with
    | .qlUnusable | .offTime => enter .qualifying s
    | .wtr => if qualifies s n && !outsideWindow s n then s else enter .qualifying s
    | _ => s

/-- The hold of R154: a slot in `QUALIFYING` outside the return window, counted and reported on the first tick of the hold. -/
def slotHold (n : Fin 13) (s : State) : State :=
  let r := s.refs[n]
  let h := r.st == .qualifying && !r.samples.isEmpty && outsideWindow s n
  if h == r.held then s
  else
    let s := modRef n (fun r => { r with held := h }) s
    if h then emit 0x0607 (count 0x06000E s) n.val else s

/-- A loss condition of R118 that the state itself shows: no timing state, a client's losses (R355), a lane whose group is
off. The others come by REF_SIGNAL_LOSS and the commands of their blocks. -/
def signalGone (s : State) (n : Fin 13) : Bool :=
  match refKind s n with
  | .gnss => s.gnss.timingState == 0
  | .ptp => clientLost s (if n.val = 5 then 0 else 1)
  | .synce => portMode s (Fin.ofNat 8 (s.cfg.b05.slot[n]).synceLane) == 0
  | _ => false

/-- One slot at step 2 of R125: loss, the return of a signal, QL and state. A slot awaited under R138 stands as it is. -/
def slotTick (s : State) (n : Fin 13) : State :=
  let s := if signalGone s n then loseSignal n s else s
  let r := s.refs[n]
  if r.st == .disabled || r.st == .unavailable || r.awaited || (r.st == .noSignal && !r.signal) then s
  else
    let s := if r.st == .noSignal then modRef n (fun r => { r with st := .qualifying }) s else s
    slotHold n (slotState n (slotQl n s))

/-- The Sync log intervals granted or heard come into force (R113). -/
def syncIntervals (s : State) : State := { s with cli := s.cli.map fun c => { c with syncLog := c.syncHeard } }

/-- Step 2 of R125. -/
def fantailSlots (s : State) : State := allSlots.foldl slotTick (leatSlots (syncIntervals (refreshTiming (watchGclko s))))

/-- A `DISPUTED` slot whose partner has left `ELIGIBLE` and `SELECTED`; two that dispute each other wait until they agree. -/
def partnerLeft (s : State) (n : Fin 13) : Bool :=
  (s.refs[n]).st == .disputed &&
  match (s.refs[n]).partner with
  | some p => !inPlay s p && !((s.refs[p]).st == .disputed && (s.refs[p]).partner == some n)
  | none => true

/-- Step 3 of R125, so far as no duration decides it (R129). -/
def fantailDisputes (s : State) : State :=
  (allSlots.filter (partnerLeft s)).foldl (fun s n => restoreAgreement n s) s

/-- The number of the tick at or before now (R514). -/
def tickNow (s : State) : Nat := 64 * s.tb.sec + s.tb.sub / subPerTick

/-- The instant of a Governor tick has come whose GOVERNOR_TICK has not. -/
def tickDue (s : State) : Bool := s.tb.running && s.pwr.resetHeld == .none && decide (s.tb.lastTick < tickNow s)

/-- Step 2 of R125 before a command that is step 3 or 4 of the same tick, so that it sees that step's results. GOVERNOR_TICK then finds it
done (log entry 81). -/
def slotsFirst (s : State) : State :=
  if tickDue s && s.gov.slotsTick != some (tickNow s) then
    modGov (fun g => { g with slotsTick := some (tickNow s) }) (inOrder fantailSlots s)
  else s

/-- Steps 2 and 3 of R125 before a command that is step 4 of the same tick (log entry 81). -/
def disputesFirst (s : State) : State := if tickDue s then inOrder fantailDisputes (slotsFirst s) else s

/-- REF_DISAGREE (R127, R128): a disagreement has persisted for `DISAGREE_TIME_S`; between slots of equal rank it is
resolved by voting. It is step 3 of the tick at whose instant it comes. -/
def execRefDisagree (dt : Nat) (i j : Fin 13) (s : State) : Host.Outcome State Fault Refusal :=
  act dt (fun s =>
    let s := slotsFirst s
    if i != j && inPlay s i && inPlay s j && !slotsAgree s i j then
      let s1 := count 0x050005 (emit 0x0506 s i.val j.val)
      let equalRank := (s.refs[i]).ql == (s.refs[j]).ql &&
        (s.cfg.b05.slot[i]).refPriority == (s.cfg.b05.slot[j]).refPriority
      if !equalRank then s1
      else
        let vs := voters s i j
        let onlyI := vs.any fun k => slotsAgree s k i && !slotsAgree s k j
        let onlyJ := vs.any fun k => slotsAgree s k j && !slotsAgree s k i
        if onlyI && !onlyJ then outvote j s1
        else if onlyJ && !onlyI then outvote i s1
        else if s.gov.sel == some i then dispute j i s1
        else if s.gov.sel == some j then dispute i j s1
        else dispute i j (dispute j i s1)
    else s) s

/-- REF_RESTORED_AGREEMENT (R129): an OUTVOTED slot has agreed with the selected slot, or a DISPUTED one with its partner,
for `DISAGREE_TIME_S`. It is step 3 of the tick at whose instant it comes. -/
def execRefRestoredAgreement (dt : Nat) (n : Fin 13) (s : State) : Host.Outcome State Fault Refusal :=
  act dt (fun s =>
    let s := slotsFirst s
    let r := s.refs[n]
    match r.st with
    | .outvoted =>
      match s.gov.sel with
      | some k => if slotsAgree s n k then restoreAgreement n s else s
      | none => s
    | .disputed =>
      match r.partner with
      | some k => if slotsAgree s n k then restoreAgreement n s else s
      | none => s
    | _ => s) s

/-- The slots the mode admits (R123). -/
def admitsSlot (s : State) (n : Fin 13) : Bool :=
  match s.pwr.mode with
  | .acquire => fullTime (refKind s n)
  | .locked | .holdover => true
  | _ => false

/-- The choice of R124 among some slots: lowest QL, lowest priority, the present one, the lowest index. -/
def chooseAmong (s : State) (l : List (Fin 13)) : Option (Fin 13) :=
  let ql (n : Fin 13) := (s.refs[n]).ql
  let pr (n : Fin 13) := (s.cfg.b05.slot[n]).refPriority
  let a := l.filter fun n => some (ql n) == (l.map ql).min?
  let b := a.filter fun n => some (pr n) == (a.map pr).min?
  match b.find? fun n => s.gov.sel == some n with
  | some n => some n
  | none => b.head?

/-- The slots among which a tick selects (R124). -/
def candidates (s : State) : List (Fin 13) := allSlots.filter fun n => inPlay s n && admitsSlot s n

/-- The slot a tick selects, and the state with what the test of R154 turned back: the chosen slot must lie inside the return window
on the tick it is selected. -/
def choose : Nat → State → Option (Fin 13) × State
  | 0, s => (none, s)
  | k + 1, s =>
    match chooseAmong s (candidates s) with
    | none => (none, s)
    | some n =>
      if outsideWindow s n then choose k (slotHold n (modRef n (fun r => { r with st := .qualifying }) s)) else (some n, s)

/-- The lock in ACQUIRE waits (R134): for the first returned sample of a chosen slot that is awaited after a reload; and with full-time
slots of two or more kinds, until the chosen one agrees in x with another. -/
def lockWaits (s : State) (n : Fin 13) : Bool :=
  let c := candidates s
  (s.refs[n]).awaited ||
  c.any (fun m => refKind s m != refKind s n) &&
  !c.any fun m => m != n && !(s.refs[m]).awaited && !beyondNs ((s.refs[n]).x - (s.refs[m]).x) s.cfg.b05.fantail.disagreeNs

/-- The Governor switches to a slot (R130): its x is latched as the build-out, so that e is zero, and event 0x0501 names it. An error kept
from a holdover ends with a time or phase reference (R156). -/
def switchTo (n : Fin 13) (s : State) : State :=
  let s := { s with refs := s.refs.map fun r => if r.st == .selected then { r with st := .eligible } else r }
  let s := modRef n (fun r => { r with st := .selected, returning := true }) s
  let s := if timeOrPhase (refKind s n) && s.ho.kept then modHo (fun h => { h with e := 0, kept := false }) s else s
  emit 0x0501 (count 0x050004 (modGov (fun g => { g with
    sel := some n, b := (s.refs[n]).x, e := 0, lastFed := 0, switchAt := some s.clk }) s)) n.val

/-- Mean W of the last 64 ticks, in ppb (R149). -/
def meanRate (s : State) : Rat := mean (s.gov.rates.map ppbOfRate)

/-- HOLDOVER entered (R126, R148, R149): events 0x050A, which names the slot lost, where none was left to select, and 0x0601. -/
def enterHoldover (lost : Bool) (s : State) : State :=
  let last := s.gov.sel
  let s := if lost then emit 0x050A s ((last.map (·.val)).getD 0xFF) else s
  let e0 := entryError s
  let now := nowUnits s
  let path := (last.map (pathTerm s)).getD 0
  let s := modHo (fun h => { h with
    st := 1, ql := s.gov.fedQl, lastSlot := last, entryErr := e0, e := e0, kept := false, entry := now, counted := now, elapsed := 0
    entryTj := s.mon.tjCenti, dco := dcoRegime s, entryRate := meanRate s }) s
  let s := modHo (fun h => { h with f := freqUnc s 0 }) s
  let s := { s with
    pwr := { s.pwr with mode := .holdover }
    refs := s.refs.map fun r => if r.st == .selected then { r with st := .eligible } else r }
  let s := modGov (fun g => { g with sel := none, b := 0, lockAfter := none, oscinLost := false }) s
  let s := modNtp (fun t => { t with frozenPath := path }) s
  let s := modHo (fun h => { h with remaining := timerNow s }) s
  outputsMode (emit 0x0601 (count 0x06000C s))

/-- HOLDOVER left by a selection (R156, R157, R72): a switch from no slot, with event 0x0603. -/
def leaveHoldover (n : Fin 13) (s : State) : State :=
  let secs := ((nowUnits s - s.ho.entry) / (unitsPerSec : Nat)).toNat
  let keepsE := !timeOrPhase (refKind s n)
  let ql := s.ho.ql
  let s := switchTo n { s with
    pwr := { s.pwr with mode := .locked }
    refs := s.refs.map fun r => { r with held := false, released := false } }
  let s := modHo (fun h => { h with
    st := 0, elapsed := secs, e := if keepsE then h.e else 0, kept := keepsE, dco := false }) s
  let s := emit 0x0603 (countBy 0x06000D secs s)
  let s := modGov (fun g => { g with lockAfter := none, timeQl := if keepsE then ql else g.timeQl }) s
  let s := if s.ts.stepArmed then emit 0x0302 (modTs (fun t => { t with stepArmed := false }) s) else s
  outputsMode s

end Sys2Proof.Machine
end

