-- ==== Sys2Proof/Machine/Governor.lean ====
section
/-!
DEFINITION. The Governor: the lock and its step, the loop, and the whole of the 64 Hz tick (R125; 03_timescale.md,
05_reference_selection.md, 06_holdover.md, 14_classes_admission_overload.md).
-/

namespace Sys2Proof.Machine

/-- `MAX_FREQ_OFFSET` as a rate word (R74). -/
def offsetLimit (s : State) : Int := ((s.cfg.b03.timescale.maxFreqOffset * 2 ^ 48 / 1000000000 : Nat) : Int)

/-- `MAX_RATE_CHANGE` as a change of the rate word in a tick (R74). -/
def changeLimit (s : State) : Int := ((s.cfg.b03.timescale.maxRateChange * 2 ^ 42 / 100000000000 : Nat) : Int)

/-- A number brought within a bound of a centre. -/
def within (c b v : Int) : Int := max (c - b) (min (c + b) v)

/-- The rate word written toward a demand (R74, R75): limited in offset and then in change, with the flags, `CLAMP_CNT` and event
0x0304. -/
def writeRate (demand : Int) (s : State) : State :=
  let v := within 0 (offsetLimit s) demand
  let w := within s.tb.w (changeLimit s) v
  let clamped := v != demand
  let slewed := w != v
  let rises := (clamped && !s.ts.rateClamped) || (slewed && !s.ts.slewLimited)
  let s := modTs (fun t => { t with rateClamped := clamped, slewLimited := slewed }) { s with tb := { s.tb with w := w } }
  let s := if clamped || slewed then count 0x03000E s else s
  if rises then emit 0x0304 s else s

/-- The change of the time value by a phase in units, in units of `sub` (R65, R73). -/
def subOfUnits (d : Units) : Int := d * 2 ^ 32 / 100

/-- The timebase stepped by a phase, with a rate word (R73). A step that is no whole number of nanoseconds is recorded as one of the two
beside it (log entry 11). -/
def stepTimebase (d : Units) (w : Int) (tb : Timebase) : Timebase :=
  let t := (((tb.sec * subPerSec + tb.sub : Nat) : Int) + subOfUnits d) % ((2 ^ 48 * subPerSec : Nat) : Int)
  let sec := t.toNat / subPerSec
  let sub := t.toNat % subPerSec
  let ns := wholeOf ((d : Rat) / (unitsPerNs : Nat))
  { tb with
    sec := sec
    sub := sub
    w := w
    stepCount := (tb.stepCount + 1) % 256
    lastStepSec := ns.tdiv 1000000000
    lastStepNs := ns.tmod 1000000000
    markerSec := sec
    lastTick := 64 * sec + sub / subPerTick }

/-- What a step adds to the x of a slot (R111): less the step, and for a 1PPS slot taken so that x stays in its range of a second. -/
def stepOfX (s : State) (n : Fin 13) (d : Units) : Units :=
  if refKind s n == .pps then wrapSecond ((s.refs[n]).x - d) - (s.refs[n]).x else -d

/-- Every phase a slot holds moves with the step (R111). -/
def stepRefs (d : Units) (s : State) : State :=
  { s with refs := Vector.ofFn fun n =>
      let r := s.refs[n]
      let c := stepOfX s n d
      { r with
        x := r.x + c
        samples := r.samples.map fun p => (p.1 + d, p.2 + c)
        delivered := r.delivered.map (· + c) } }

/-- A job whose `t2` marks when it was placed, and no stamp of a request: it moves with a step, so that the time since then stays (R360). -/
def placedInstant (j : Job) : Bool :=
  match j.kind with
  | .sync | .followUp | .announce | .sweep | .clientReq => true
  | .clientRx => j.k != 0
  | _ => false

/-- A job at a step (R360). -/
def stepJob (d : Units) (j : Job) : Job := if placedInstant j then { j with t2 := j.t2 + d } else j

/-- Every job of the core at a step (R360). -/
def stepJobs (d : Units) (s : State) : State :=
  let f := stepJob d
  let s := { s with ports := s.ports.map fun q => { q with book := q.book.map fun b => { b with job := b.job.map f } } }
  modCore (fun c => { c with
    precQ := c.precQ.map f, assuredQ := c.assuredQ.map f, generalQ := c.generalQ.map f, park := c.park.map f
    ms := c.ms.map fun m => { m with
      front := m.front.map fun x => (f x.1, x.2)
      back := m.back.map fun x => (f x.1, x.2) } }) s

/-- Instants of the timebase that mark an elapsed time move with the step: pauses, crossings, hold-offs, and the receipts of waves. -/
def stepInstants (d : Units) (s : State) : State :=
  let move (o : Option Units) := o.map (· + d)
  let s := { s with
    ports := s.ports.map fun q => { q with
      pause := move q.pause
      pfc := q.pfc.map move
      lastPause := move q.lastPause
      crossing := move q.crossing }
    cli := s.cli.map fun c => { c with lastSync := none, waiting := none } }
  let s := modCore (fun c => { c with ms := c.ms.map fun m => { m with back := m.back.map fun b =>
    match b.2 with
    | .holdOff t => (b.1, .holdOff (t + d))
    | _ => b } }) s
  modLeat (fun l => { l with forward := l.forward.map fun f => (f.1 + d, f.2) }) s

/-- Every booked slot is missed as `STEP` (R292, R295). -/
def stepSlots (d : Units) (s : State) : State :=
  let s := (List.finRange 8).foldl (fun s p => missSlots .park p (fun _ => true) s) s
  { s with ports := s.ports.map fun q => { q with precDone := q.precDone.map fun e => (e.1 + d, e.2) } }

/-- The pulse outputs whose mute ends at a lock, by the state before the step. -/
def unmuting (s : State) : List (Fin 4) := (List.finRange 4).filter fun n => (s.outs.pps[n]).muted && !ppsMuteWanted s n

/-- The one step of R71 at a lock on a slot (R73, R79, R111, R199, R220, R316, R322, R360): the time and the rate word, markers in
every record stream, and what follows in the other blocks. An output whose mute ends at this lock is unmuted before it. -/
def lockStep (n : Fin 13) (s : State) : State :=
  let d := (s.refs[n]).x
  let w := within 0 (offsetLimit s) (rateOfPpb (ppbOfRate s.tb.w + (s.refs[n]).y))
  let woken := unmuting s
  let s := woken.foldl (fun s n => modPps n (fun p => ppsResume s n { p with muted := false }) s) s
  let s := stepRefs d { s with tb := stepTimebase d w s.tb }
  let s := modGov (fun g => { g with b := 0, e := 0, lastFed := 0, i := ppbOfRate w, yc := ppbOfRate w, stepAt := some s.clk, lockAfter := none }) s
  let s := modTs (fun t => { t with stepArmed := false, rateClamped := false, slewLimited := false }) s
  let s := icStep d s
  let s := if s.cfg.b03.timescale.secMarkerEn then icMarker true (ringMarkers true s) else s
  let s := outputsMode (emit 0x0301 s)
  let s := woken.foldl (fun s n => emit 0x0907 s n.val) s
  let s := evalKeys false (outputsStep d (leapStep s))
  let s := modTele (fun t => { t with monitor := t.monitor.map fun m => { m with live := { m.live with step := true } } }) s
  let s := stepSlots d (stepJobs d (stepInstants d s))
  let s := emit 0x0D0B (modGarner (fun g => { g with calendar := [] }) s)
  modNtp (fun t => { t with refTs := nowUnits s }) s

/-- A slot feeds the Governor on this tick (R24, R121, R138): it is in ELIGIBLE or SELECTED, which in LOAD a selection that stands may
have left. -/
def feedsNow (s : State) (n : Fin 13) : Bool :=
  inPlay s n && !(servedSlot n && s.pwr.mode == .load) && !(s.refs[n]).awaited && (s.refs[n]).jumpRun == 0

/-- The lock of R134 after a reload is due on this tick. -/
def lockDue (s : State) (n : Fin 13) : Bool :=
  s.gov.lockAfter.any (fun t => decide (t < s.tb.lastTick)) && timeOrPhase (refKind s n) && feedsNow s n

/-- The lock after a reload (R71, R134): an armed step is applied, or consumed where the phase error is below `STEP_MIN`. -/
def reloadLock (n : Fin 13) (s : State) : State :=
  let s := modGov (fun g => { g with lockAfter := none }) s
  if !s.ts.stepArmed then s
  else if decide ((s.refs[n]).x.natAbs < s.cfg.b03.timescale.stepMin * unitsPerNs) then
    emit 0x0303 (count 0x03000D (modTs (fun t => { t with stepArmed := false }) s))
  else lockStep n s

/-- The lock in ACQUIRE (R71, R134): the time is stepped, and the slot selected; B is zero after the step. -/
def acquireLock (n : Fin 13) (s : State) : State :=
  switchTo n (lockStep n { s with pwr := { s.pwr with mode := .locked } })

/-- Step 5 of R125 in LOCKED (R21, R126, R130, R134, R135): HOLDOVER is entered where no slot is left, or where OSCIN is lost or was
lost since the last tick. A step of this tick comes before the switch, whose event carries a stamp of the stepped time (R70). -/
def selectLocked (s : State) : State :=
  let c := choose 13 s
  let s := c.2
  match c.1 with
  | none => enterHoldover true s
  | some n =>
    if s.gov.oscinLost || !s.pll.oscinPresent then enterHoldover false s
    else
      let s := if lockDue s n then reloadLock n s else s
      if s.gov.sel == some n then s else switchTo n s

/-- Step 5 of R125: selection, by mode (R123, R124, R23). -/
def select (s : State) : State :=
  match s.pwr.mode with
  | .acquire =>
    match choose 13 s with
    | (some n, s) => if lockWaits s n then s else acquireLock n s
    | (none, s) => s
  | .locked => selectLocked s
  | .holdover =>
    if s.pll.oscinPresent && !s.gov.needQualify then
      match choose 13 s with
      | (some n, s) => leaveHoldover n s
      | (none, s) => s
    else s
  | _ => s

/-- B drains toward zero (R131), with event 0x050B when it reaches it. The flags that make it pause are those the last rate write left
(DEDUCED, log entry 89). -/
def drainBuildout (n : Fin 13) (s : State) : State :=
  let d : Int := ((s.cfg.b05.fantail.buildoutDrain * unitsPerNs / 64 : Nat) : Int)
  if !draining s || s.ts.rateClamped || s.ts.slewLimited then s
  else if s.gov.b.natAbs ≤ d.toNat then emit 0x050B (modGov (fun g => { g with b := 0 }) s) n.val
  else modGov (fun g => { g with b := if g.b < 0 then g.b + d else g.b - d }) s

/-- The loop fed by a slot (R132): I is held while a limit of R74 binds. -/
def feedLoop (n : Fin 13) (s : State) : State :=
  let e := (s.refs[n]).x - s.gov.b
  let en : Rat := (e : Rat) / (unitsPerNs : Nat)
  let f : Rat := min (trackBw s n) 20000 / 10000
  let wn := 2 * piOf * f / (2058 / 1000)
  let i := s.gov.i + wn * wn * en / 64
  let yc := 1414 / 1000 * wn * en + i
  let s := writeRate (rateOfPpb yc) s
  let limited := s.ts.rateClamped || s.ts.slewLimited
  let s := modGov (fun g => { g with e := e, lastFed := e, yc := yc, i := if limited then g.i else i }) s
  if timeOrPhase (refKind s n) then modNtp (fun t => { t with refTs := nowUnits s }) s else s

/-- The rate to which HOLDOVER coasts, in ppb (R149). -/
def coastRate (s : State) : Rat :=
  if s.ho.modelState == 2 || (s.ho.modelState == 1 && decide (64 ≤ s.ho.age)) then modelRate s else s.ho.entryRate

/-- Coasting (R149): I follows the target, and W moves toward it. -/
def coast (s : State) : State :=
  let y := coastRate s
  writeRate (rateOfPpb y) (modGov (fun g => { g with i := y, yc := y }) s)

/-- Step 6 of R125: the rate word, by the selection before step 5 and the number of steps before it. The tick of a step keeps the
rate the step set, and the tick of a switch does not drain. -/
def governRate (sel : Option (Fin 13)) (steps : Nat) (s : State) : State :=
  match s.gov.sel with
  | some n =>
    if s.tb.stepCount ≠ steps then s
    else
      let s := if s.gov.sel == sel then drainBuildout n s else s
      if feedsNow s n then feedLoop n s else writeRate s.tb.w s
  | none => if govMode s == .holdover then coast s else writeRate s.tb.w s

/-- 64 s have passed since an instant of the device clock. -/
def past64 (s : State) (t : Option Nat) : Bool :=
  match t with
  | some t => decide (t + 64 * clkPerSec ≤ s.clk)
  | none => true

/-- The conditions of R145 on this tick. -/
def learns (s : State) : Bool :=
  s.pwr.mode == .locked && s.pll.tbState == .normal && !draining s && !s.ts.rateClamped && !s.ts.slewLimited &&
  past64 s s.gov.switchAt && past64 s s.gov.stepAt

/-- What the tick leaves for the model, for a holdover and for the Tally monitors (R144, R148, R149, R306, R427). The QL kept for
`HO_QL` is that on the last tick the slot stands selected, though in LOAD it may feed no more (DEDUCED, log entry 80). -/
def governNotes (s : State) : State :=
  let ok := learns s
  let s := modGov (fun g => { g with
    learnOk := g.learnOk && ok
    ycSum := g.ycSum + g.yc
    ycTicks := g.ycTicks + 1
    rates := (s.tb.w :: g.rates).take 64 }) s
  let s := match s.gov.sel with
    | some n => modGov (fun g => { g with
        fedQl := (s.refs[n]).ql
        timeQl := if timeOrPhase (refKind s n) then (s.refs[n]).ql else g.timeQl }) s
    | none => s
  tallySample 8 0 (s.gov.e / (unitsPerPs : Nat)) s

/-- The meters of the Weir brought up to now, by the rates of the tick that ends. Before the first tick has found a capacity the KoD
budget stays full (R515). -/
def weirMeters (s : State) : State :=
  modWeir (fun w => { w with
    su := meterUpTo s.clk w.suRate (w.suRate * 12150000) w.su
    kod := if w.capacity = 0 then w.kod else meterUpTo s.clk (kodRate s) (kodDepth s) w.kod
    meterGeneral := meterUpTo s.clk w.rateGeneral (classDepth s) w.meterGeneral
    meterAssured := meterUpTo s.clk w.rateAssured (classDepth s) w.meterAssured }) s

/-- The rates the Millstones measured (R273), and the capacity they make (R298), with event 0x0B05 on every tick that finds it below the
guaranteed one. -/
def capacityTick (rates : List Nat) (s : State) : State :=
  let s := modCore (fun c => { c with ms := Vector.ofFn fun m =>
    let x := c.ms[m]
    if x.st == .inService then { x with rate := rates.getD m.val 0 % 65536 } else x }) s
  let sum := (s.core.ms.toList.filter fun x => x.st == .inService).foldl (fun n x => n + x.rate) 0
  let low := (avsCfg s).avsEn && decide (sum < 1250 * s.cfg.b0B.core.msInService)
  let s := modWeir (fun w => { w with capacity := (wholeOf ((sum : Rat) / 10)).toNat }) s
  if low then emit 0x0B05 s else s

/-- The work counted in the tick that ends becomes the last tick's (R375, R389). -/
def weirTurn : State → State := modWeir fun w => { w with
  lastOffPrec := w.offPrec, lastOffAssured := w.offAssured, lastOffGeneral := w.offGeneral
  lastAdmPrec := w.admPrec, lastAdmAssured := w.admAssured, lastAdmGeneral := w.admGeneral
  lastKod := w.kodSu, lastDone := w.done, lastDonePrec := w.donePrec
  offPrec := 0, offAssured := 0, offGeneral := 0, admPrec := 0, admAssured := 0, admGeneral := 0, kodSu := 0, done := 0, donePrec := 0
  spilling := w.spilled, spilled := false }

/-- A queue wait is at or below `WM_LOW_NS`. -/
def waitLow (s : State) (q : Nat) : Bool :=
  let low := s.cfg.b0E.weir.wmLowNs
  if s.weir.capacity = 0 then decide (Config.freeAt 2 s.clk ≤ low) else decide (q * 2500 ≤ low * s.weir.capacity)

/-- The classes that leave `SHEDDING` at the end of a tick (R376): ASSURED first, and GENERAL only where ASSURED is open. -/
def weirExits (s : State) : State :=
  let w := s.weir
  let s := if w.shedAssured && decide (perSec w.offAssured ≤ w.rateAssured) && waitLow s (workPA s) then
      emit 0x0E02 (modWeir (fun w => { w with shedAssured := false, rateAssured := 0 }) s) 1
    else s
  if w.shedGeneral && !s.weir.shedAssured && decide (perSec w.offGeneral ≤ w.rateGeneral) && waitLow s (workAll s) then
    emit 0x0E02 (modWeir (fun w => { w with shedGeneral := false, rateGeneral := 0 }) s) 0
  else s

/-- P_max − `GRANT_PREC_SU` in quarter SU a second (R370). -/
def suRateNow (s : State) : Nat := 4000000 * msForLimits s - precSu s

/-- H of R381 in 0.1 M SU/s. -/
def headroomNow (s : State) : Nat :=
  if s.weir.shedGeneral || s.weir.shedAssured || waitAtLeast s (workAll s) s.cfg.b0E.weir.spillMarkNs then 0
  else (wholeOf (max 0 ((s.weir.capacity * s.cfg.b0E.weir.spillAcceptPct : Nat) / 100 - (perSec s.weir.lastDone : Nat) / 400000))).toNat

/-- The Weir at a tick (R370, R376, R381, R390). -/
def weirTick (rates : List Nat) (s : State) : State :=
  let s := countIdle s
  let stopped := s.weir.spilling && !s.weir.spilled
  let s := capacityTick rates (weirExits (weirMeters s))
  let s := weirTurn s
  let s := modWeir (fun w => { w with msCap := msCapNow s }) s
  let s := modWeir (fun w => { w with
    suRate := suRateNow s
    rateGeneral := if w.shedGeneral then meterRate s .general else 0
    rateAssured := if w.shedAssured then meterRate s .assured else 0 }) s
  let s := if s.weir.capacity = 0 then s else weirCheck s
  let s := modWeir (fun w => { w with headroom := if s.weir.capacity = 0 then 0 else headroomNow s }) s
  if stopped then emit 0x0E07 s else s

/-- The clockClass advertised follows (R335), with event 0x0D04 at a change. During LOAD it stands. -/
def refreshClass (s : State) : State :=
  let c := clockClassNow s
  if s.pwr.mode == .load || s.ntp.advClockClass = c then s else emit 0x0D04 (modNtp (fun t => { t with advClockClass := c }) s)

/-- What follows the rate word on a tick in the blocks that evaluate themselves on it (R260, R323, R335, R376, R381, R403, R406,
R482). -/
def tickRest (rates : List Nat) (iout : Option Nat) (acked : Bool) (s : State) : State :=
  let s := weirTick rates s
  let s := refreshClass (refreshNtp s)
  let s := (List.finRange 8).foldl (fun s p => sendWaiting p (esmcTick p s)) s
  let s := if bitAt s.pwr.domainOn 11 then creditTick (leatTick s) else s
  avsTick iout acked s

/-- Step 2 of the tick, unless a command of its step 3 or 4 has brought it already. -/
def slotsOnce (s : State) : State :=
  let s1 := if s.gov.slotsTick == some (tickNow s) then s else inOrder fantailSlots s
  modGov (fun g => { g with slotsTick := none }) s1

/-- The tick's steps 2, 3, 5 and 6, each with its events in the order of R423. Step 1 is APPLY_TICK; in step 3 the durations of R127 and
R129 end by REF_DISAGREE and REF_RESTORED_AGREEMENT, and step 4 is INTEGRITY_FAILURE, HO_INTEGRITY_FAILURE and HOLDOVER_EXPIRED, which
come at the tick's instant before it and bring the steps before them (log entry 81). -/
def tickActions (rates : List Nat) (iout : Option Nat) (acked : Bool) (s : State) : State :=
  let s := inOrder fantailDisputes (slotsOnce s)
  let sel := s.gov.sel
  let steps := s.tb.stepCount
  let s := inOrder select s
  let s := inOrder (fun s => followTick (governNotes (governRate sel steps s))) s
  inOrder (tickRest rates iout acked) s

/-- GOVERNOR_TICK (R125, R514): the time reaches the next multiple of 15,625,000 ns. While `RESET_N` is low only the time moves. -/
def execGovernorTick (rates : List Nat) (iout : Option Nat) (acked : Bool) (s : State) : Host.Outcome State Fault Refusal :=
  actTime 0 (fun s =>
    if !s.tb.running then s
    else
      let s := advanceTo ((s.tb.lastTick + 1) * subPerTick) s
      let s := { s with tb := { s.tb with lastTick := 64 * s.tb.sec + s.tb.sub / subPerTick } }
      if s.pwr.resetHeld == .none then tickActions rates iout acked s else s) s

end Sys2Proof.Machine
end

