-- ==== Sys2Proof/Machine/Otp.lean ====
section
/-!
DEFINITION. The OTP and its provisioning over JTAG (02_configuration_image.md, R62 and R63).
-/

namespace Sys2Proof.Machine

/-- `KEY_HASH_SET`. -/
def keyHashSet (o : Otp) : Bool := o.word[16].getLsbD 1

/-- `SEAL_KEY_SET`. -/
def sealKeySet (o : Otp) : Bool := o.word[16].getLsbD 0

/-- `LOCK`. -/
def otpLocked (o : Otp) : Bool := o.word[16].getLsbD 2

/-- The four bytes of an OTP word, byte 0 in bits [7:0] (R62). -/
def wordBytes (w : BitVec 32) : Bytes := (List.range 4).map fun i => BitVec.ofNat 8 (bitsOf w.toNat (8 * i) 8)

/-- `SEAL_KEY` (R62). -/
def sealKey (o : Otp) : Bytes := (o.word.toList.take 8).flatMap wordBytes

/-- `KEY_HASH` (R62). -/
def keyHash (o : Otp) : Bytes := ((o.word.toList.drop 8).take 8).flatMap wordBytes

/-- An `OTP_ACCESS` command is refused: the refused bit is set, and event 0x020A issued (R62). -/
def otpRefuse (s : State) : State :=
  emit 0x020A { s with otp := { s.otp with refused := true, tapOtpAccess := true } }

/-- An `OTP_ACCESS` command is accepted. -/
def otpAccept (o : Otp) : Otp := { o with refused := false, tapOtpAccess := true }

/-- What refuses every `OTP_ACCESS` command: a mode other than SAFE (R62), or one still in progress (log entry 21). -/
def otpClosed (s : State) : Bool := s.pwr.mode != .safe || s.otp.busy

/-- The answer to an `OTP_ACCESS` command that is not carried out: none while PD4, which holds the OTP and the event ring, is off or held
in reset (log entry 21), else a refusal. -/
def otpTurnAway (s : State) : State := if pd4Runs s then otpRefuse s else s

/-- What R62 refuses a `PROGRAM` for. -/
def programRefused (o : Otp) (word : Nat) (data : BitVec 32) : Bool :=
  decide (16 < word) || otpLocked o || (decide (word < 8) && sealKeySet o) ||
  (decide (8 ≤ word ∧ word < 16) && keyHashSet o) || (word == 16 && data >>> 2 != 0)

/-- OTP_PROGRAM (R62): the command is refused, or the word is being programmed until OTP_PROGRAM_DONE. -/
def execOtpProgram (dt word data : Nat) (s : State) : Host.Outcome State Fault Refusal :=
  actOtp dt (fun s =>
    let d := BitVec.ofNat 32 data
    if otpClosed s || programRefused s.otp word d then otpTurnAway s
    else { s with otp := { otpAccept s.otp with busy := true, programming := some (Fin.ofNat 17 word, d) } }) s

/-- OTP_PROGRAM_DONE (R62): the data has been ORed into the word. -/
def execOtpProgramDone (dt : Nat) (s : State) : Host.Outcome State Fault Refusal :=
  actOtp dt (fun s =>
    match s.otp.programming with
    | some (i, d) => { s with otp := { s.otp with
        word := s.otp.word.set i (s.otp.word[i] ||| d), busy := false, programming := none } }
    | none => s) s

/-- OTP_READ (R62): returns the word; words 0 to 7 read zero. A word above 16 is not described (log entry 16). -/
def execOtpRead (dt word : Nat) (s : State) : Host.Outcome State Fault Refusal :=
  actOtp dt (fun s =>
    if otpClosed s then otpTurnAway s
    else { s with otp := { otpAccept s.otp with result :=
      if word < 8 then 0
      else if h : word < 17 then s.otp.word[word] else BitVec.ofNat 32 (Config.unwritten (2 ^ 32 + word)) } }) s

/-- The key check value of R60: the first four bytes of AES-256 of a zero block under `SEAL_KEY`, first byte most
significant. -/
def sealKcv (o : Otp) : BitVec 32 := BitVec.ofNat 32 (beNat ((Config.aes256 (sealKey o) (zeroBytes 16)).take 4))

/-- OTP_KCV (R62): the value `SEAL_KCV` would show for words 0 to 7 as they stand. -/
def execOtpKcv (dt : Nat) (s : State) : Host.Outcome State Fault Refusal :=
  actOtp dt (fun s =>
    if otpClosed s then otpTurnAway s else { s with otp := { otpAccept s.otp with result := sealKcv s.otp } }) s

/-- OTP_LOCK (R62, R63): sets `LOCK`, refused unless `KEY_HASH_SET` = 1. -/
def execOtpLock (dt : Nat) (s : State) : Host.Outcome State Fault Refusal :=
  actOtp dt (fun s =>
    if otpClosed s || !keyHashSet s.otp then otpTurnAway s
    else { s with otp := { otpAccept s.otp with word := s.otp.word.set 16 (s.otp.word[16] ||| 4) } }) s

/-- The 48 bits captured out of the data register of `OTP_ACCESS` (R62): busy, refused, and the result of the previous command. -/
def otpCapture (o : Otp) : BitVec 48 := BitVec.ofNat 48 (o.busy.toNat * 2 ^ 47 + o.refused.toNat * 2 ^ 46 + o.result.toNat)

end Sys2Proof.Machine
end

