-- ==== Sys2Proof/Machine/Section.lean ====
section
/-!
DEFINITION. The checks of a section at its end record that need other records, another section or the device's state (R47, and the
range rules R85, R89, R105, R224, R237, R238, R252, R267, R318, R332 and R443 of the chapters).
-/

namespace Sys2Proof.Machine

/-- A section's records in the order they came: offset, type, payload. -/
abbrev Recs := List (Nat × Nat × Bytes)

/-- The records of a type. -/
def recsOf (type : Nat) (l : Recs) : List Bytes := (l.filter fun r => r.2.1 == type).map (·.2.2)

/-- An `OSCIN_FREQ` in the image differs from the detected frequency (R85). -/
def oscinMismatch (s : State) (l : Recs) : Bool :=
  s.pll.detectValid && (recsOf 0x0401 l).any fun p => (OscinConfigRec.read p).oscinFreq != oscinFreqs.getD s.pll.detected 0

/-- `OSCIN_CONFIG` agrees with the detected frequency, and where the timebase was running when LOAD was entered with the active
values (R85, R105). -/
def oscinFits (s : State) (x : OscinConfigRec) : Bool :=
  !(s.pll.detectValid && x.oscinFreq != oscinFreqs.getD s.pll.detected 0) && (!s.pll.oscinFixed || x == s.pll.oscin)

/-- The `OSCIN_FREQ` that a section 0x04 leaves active (R50). -/
def sectionOscin (s : State) (c : Cfg) : Nat :=
  if c.b04.oscinPresent then c.b04.oscin.oscinFreq
  else if s.pll.oscinFixed then s.pll.oscin.oscinFreq
  else c.b04.oscin.oscinFreq

/-- The configuration of a block absent from the image (R50): kept at a reload, else its defaults. -/
def absentCfg (s : State) : Cfg := if s.pwr.loadKind == .reload then s.cfg else {}

/-- The configuration that will be active at the apply tick: the pending section of the image where there is one. -/
def comingCfg (s : State) : Cfg :=
  (List.range 0x13).foldl (fun c b => if bitAt s.ld.sectionsPending b then copySection b s.ld.pend c else c) (absentCfg s)

/-- A port of a section 0x0A exists in its group mode (R236, R237). -/
def portInCfg (c : Cfg) (p : Nat) : Bool :=
  match (c.b0A.group[Fin.ofNat 2 (p / 4)]).groupMode with
  | 0 => false
  | 2 => p % 2 == 0
  | 3 => p % 4 == 0
  | _ => true

/-- `FEC_MODE` is one of the port mode's (R238). -/
def fecFits (c : Cfg) (p : Nat) (fec : Nat) : Bool :=
  if (c.b0A.group[Fin.ofNat 2 (p / 4)]).groupMode == 5 then decide (fec ≤ 1) else fec == 2

/-- f of a clock output (R222) is a whole number of hertz where it is to be aligned (R224), and lies in its range. -/
def clkoutFits (khz : Nat) (x : ClkoutRec) : Bool :=
  decide (1000 * x.clkDiv ≤ khz * 1000) && decide (khz * 1000 ≤ 156250000 * x.clkDiv) &&
  (!x.clkAlign || khz * 1000 % x.clkDiv == 0)

/-- Two serving addresses collide (R267): the same address and VID on a common port. -/
def addrsCollide (x y : ServingAddrRec) : Bool :=
  x.addrV6 == y.addrV6 && x.addrIp == y.addrIp && x.addrVid == y.addrVid && (x.addrPorts &&& y.addrPorts) != 0

/-- A serving address names no absent port and no address an earlier record has (R237, R267). -/
def servingFits (c : Cfg) (l : Recs) (p : Bytes) : Bool :=
  let x := ServingAddrRec.read p
  (List.range 8).all (fun n => !bitAt x.addrPorts n || portInCfg c n) &&
  (recsOf 0x0A04 l).all fun q => (q.getD 0 0) == (p.getD 0 0) || !addrsCollide x (ServingAddrRec.read q)

/-- A serving address of an IP version is bound to a port (R332, R443). -/
def boundAddr (c : Cfg) (i port : Nat) (v6 : Option Bool) : Bool :=
  match getIndexed i c.b0A.addr with
  | some a => bitAt a.addrPorts port && v6.all fun b => a.addrV6 == b
  | none => false

/-- `CLOCK_ID` is given where a port or a client instance is enabled (R332). -/
def clockIdFits (c : Cfg) : Bool :=
  c.b0D.ptp.clockId != 0 || !(c.b0D.port.toList.any (·.masterEn) || c.b0D.client.toList.any (·.cEn))

/-- A PTP port's record fits the clients and the serving addresses (R332). -/
def ptpPortFits (coming c : Cfg) (p : Nat) (x : PtpPortRec) : Bool :=
  !x.masterEn ||
  (clockIdFits c && !(c.b0D.client.toList.any fun k => k.cEn && k.cPort == p) &&
   (!(x.transport == 1 || x.transport == 3) || boundAddr coming x.srcAddrIdx4 p (some false)) &&
   (!(x.transport == 2 || x.transport == 3) || boundAddr coming x.srcAddrIdx6 p (some true)))

/-- A client instance's record fits the ports and the serving addresses (R332). -/
def ptpClientFits (coming c : Cfg) (x : PtpClientRec) : Bool :=
  !x.cEn ||
  (clockIdFits c && !(c.b0D.port[Fin.ofNat 8 x.cPort]).masterEn &&
   (x.cTransport == 0 || boundAddr coming x.cAddrIdx x.cPort (some (x.cTransport == 2))))

/-- A report's serving address and destination (R443). -/
def telemFits (coming : Cfg) (x : TelemConfigRec) : Bool :=
  x.telemPeriod == 0 || (x.telemDstMac != 0 && boundAddr coming x.telemSrcAddrIdx x.telemPort none)

/-- The range checks of a record that its own fields do not decide (R47, cause 0x14), in the configuration `c` of its image so
far. -/
def recordFits (s : State) (c : Cfg) (l : Recs) (type : Nat) (p : Bytes) : Bool :=
  let i := (p.getD 0 0).toNat
  let coming := comingCfg s
  match type with
  | 0x0401 => oscinFits s (OscinConfigRec.read p)
  | 0x0402 => (AdpllConfigRec.read p).adpllBw != 3 || decide (20000000 ≤ sectionOscin s c)
  | 0x0902 => clkoutFits (coming.b04.adpll[1]).dcoFreqKhz (ClkoutRec.read p)
  | 0x0A02 =>
    let x := PortRec.read p
    portInCfg c i && fecFits c i x.fecMode && !(x.pauseObey && x.pfcObey)
  | 0x0A03 => portInCfg c i
  | 0x0A04 => servingFits c l p
  | 0x0C05 => (recsOf 0x0C05 l).all fun q => q.getD 0 0 == p.getD 0 0 || (NtsKeyRec.read q).keyId != (NtsKeyRec.read p).keyId
  | 0x0D01 => clockIdFits c
  | 0x0D02 => ptpPortFits coming c i (PtpPortRec.read p)
  | 0x0D03 => ptpClientFits coming c (PtpClientRec.read p)
  | 0x1001 => telemFits coming (TelemConfigRec.read p)
  | _ => true

/-- The lane rate a group mode requires (R236). -/
def laneRateFor (mode : Nat) : Nat :=
  match mode with
  | 0 => 0
  | 4 => 2
  | 5 => 3
  | _ => 1

/-- 5.000 × 10⁹ = `OSCIN_FREQ` × (N + num ÷ D), with num < D (R47, R106). -/
def ratioExact (x : OscinConfigRec) : Bool :=
  let n := bitsOf x.adpll0Ratio 32 16
  let num := bitsOf x.adpll0Ratio 16 16
  let d := bitsOf x.adpll0Ratio 0 16
  decide (num < d) && x.oscinFreq * (n * d + num) == 5000000000 * d

/-- The relations of a block's section (R47, cause 0x15), on its whole configuration; that of `TELEM_CONFIG` on every record the
image carries (R436). `MAX_RATE_CHANGE` counts 0.01 ppb/s and `MAX_FREQ_OFFSET` 1 ppb (R80). -/
def relationsHold (b : Nat) (l : Recs) (c : Cfg) : Bool :=
  match b with
  | 0x03 =>
    let t := c.b03.timescale
    let u := c.b03.utcLeap
    (!t.stampFormat || t.secMarkerEn) && decide (t.maxRateChange ≤ 100 * t.maxFreqOffset) &&
    (u.leapTime == 0 || u.leapDir == 1 || u.leapDir == -1)
  | 0x04 => !c.b04.oscinPresent || ratioExact c.b04.oscin
  | 0x05 => (List.finRange 13).all fun n =>
      let r := c.b05.slot[n]
      (!(decide (n.val ≤ 3) && r.refKind == 0) || decide (r.refBw ≤ 7)) &&
      (!r.refEnable || decide (r.refPriority ≤ 15))
  | 0x09 => c.b09.pps.toList.all fun p => p.ppsMode != 2 || decide (p.ppsWidth < p.ppsPeriod)
  | 0x0A => c.b0A.group.toList.all (fun g => g.laneRate == laneRateFor g.groupMode) &&
      c.b0A.addr.all fun a => (List.range 8).all fun n =>
        !bitAt a.2.addrPorts n || (c.b0A.port[Fin.ofNat 8 n]).arpNdEn
  | 0x0B => decide (c.b0B.core.msInService + c.b0B.core.msSpare ≤ 40) && decide (c.b0B.core.msInService ≤ 32)
  | 0x0C => c.b0C.key.all fun k => decide (k.2.keyActivate < k.2.keyRetire)
  | 0x0D => c.b0D.port.toList.all (fun p => domainFits p.profile p.domain) &&
      c.b0D.client.toList.all fun k => domainFits k.cProfile k.cDomain
  | 0x0E => decide (c.b0E.weir.wmLowNs < c.b0E.weir.wmHighNs) && decide (c.b0E.weir.kodBudget ≤ 100)
  | 0x10 => (recsOf 0x1001 l).isEmpty || c.b10.telem.telemPeriod == 0 || c.b10.telem.telemCollector.any (· != 0#8)
  | _ => true
where
  /-- The domains of profiles 1 and 2 (R331). -/
  domainFits (profile domain : Nat) : Bool :=
    match profile with
    | 1 => decide (24 ≤ domain ∧ domain ≤ 43)
    | 2 => decide (44 ≤ domain ∧ domain ≤ 63)
    | _ => true

end Sys2Proof.Machine
end

