-- ==== Sys2Proof/Machine/Loader.lean ====
section
/-!
DEFINITION. The loader and the OTP (02_configuration_image.md): the two passes, the records, the sections and the
fallback. The apply tick is in Machine/Apply.lean.
-/

namespace Sys2Proof.Machine

/-- The image header of R32, with the first check of R35 that fails. -/
def readHeader (raw : Bytes) : SlotHeader :=
  let n := leNat raw
  let len := bitsOf n 96 32
  let cause :=
    if bitsOf n 0 32 != 0x4D494847 then 0x01
    else if bitsOf n 32 16 != 0x0001 then 0x02
    else if raw.length != 64 || leNat (bytesAt raw 60 4) != crc32c (raw.take 60) then 0x03
    else if decide (8388448 < len) || len % 8 != 0 || bitsOf n 49 15 != 0 || bitsOf n 232 24 != 0 then 0x04
    else if bitsOf n 224 8 != 0 && bitsOf n 224 8 != 0xA0 then 0x09
    else 0
  { signed := bitAt n 48, seq := bitsOf n 64 32, len := len, bodyCrc := bitsOf n 128 32, raw := raw, cause := cause }

/-- A device answers Read JEDEC ID (R31): the three bytes are neither all 0x00 nor all 0xFF. -/
def jedecAnswers (id : Nat) : Bool := id % 2 ^ 24 != 0 && id % 2 ^ 24 != 0xFFFFFF

/-- The header of a slot, as read at the start of this LOAD. -/
def slotHeader (sl : Slot) (l : Loader) : SlotHeader := if sl == .a then l.hdrA else l.hdrB

/-- The other slot. -/
def otherSlot (sl : Slot) : Slot := if sl == .a then .b else .a

/-- The chip select a slot is read on (R31): slot B's is `NV_CS1_N` where a device answers there. -/
def slotCs (sl : Slot) (l : Loader) : Nat := if sl == .b && l.nvCs1Present then 1 else 0

/-- The address a slot begins at (R31). -/
def slotBase (sl : Slot) : Nat := if sl == .a then 0 else 0x800000

/-- A Quad Output Fast Read of bytes of a slot (R28). -/
def nvmRead (sl : Slot) (off n : Nat) (s : State) : State := put (.nvm (slotCs sl s.ld) 0x6B (slotBase sl + off) n) s

/-- `SLOT_A_CAUSE` or `SLOT_B_CAUSE` set. -/
def setSlotCause (sl : Slot) (cause : Nat) (l : Loader) : Loader :=
  if sl == .a then { l with causeA := cause } else { l with causeB := cause }

/-- A slot is tried: its verification pass begins, which reads header, body and, of a signed image, trailer (R33, R38). -/
def trySlot (sl : Slot) (second : Bool) (s : State) : State :=
  let h := slotHeader sl s.ld
  nvmRead sl 0 (64 + h.len + (if h.signed then 96 else 0))
    { s with ld := { s.ld with
      stage := 2, trying := sl, second := second, verBody := [], verTrailer := [], offset := 0, parseCrc := BitVec.allOnes 32
      opened := none, lastBlock := 0, pendUnchecked := false, sectionsPending := 0, pend := {} } }

/-- No slot remains: SAFE with event 0x0206 (R37). -/
def noImage (s : State) : State := enterSafe (emit 0x0206 s)

/-- The slot being tried fails with a cause (R37, R48): event 0x0203 names the slot, every pending set is discarded, and
the other slot is tried where its header passed and it was not tried yet. -/
def slotFails (cause : Nat) (s : State) : State :=
  let sl := s.ld.trying
  let s := emit 0x0203 { s with ld := { setSlotCause sl cause s.ld with sectionsPending := 0, pend := {}, opened := none } }
    (if sl == .a then 0 else 1)
  let o := otherSlot sl
  if !s.ld.second && (slotHeader o s.ld).cause == 0 then trySlot o true s else noImage s

/-- A section is discarded (R48): `FAIL_BLOCK`, `FAIL_CAUSE`, `FAIL_OFFSET`, event 0x0204, then the slot fails. -/
def discardSection (block cause offset : Nat) (s : State) : State :=
  slotFails cause (emit 0x0204
    { s with ld := { s.ld with failBlock := block, failCause := cause, failOffset := offset } } block cause)

/-- NVM_WAKE_DONE (R31, R37, R51): the JEDEC IDs and both headers are read, and a slot is chosen. Slot B is read
from the device on `NV_CS1_N` where one answers there, else from the one on `NV_CS0_N`. -/
def execNvmWakeDone (dt jedec0 jedec1 : Nat) (hdrA : Bytes) (hdrB : SlotBHeader) (s : State) : Host.Outcome State Fault Refusal :=
  act dt (fun s =>
    if s.pwr.mode == .load && s.ld.stage == 1 then
      let a := readHeader hdrA
      let b := readHeader (if jedecAnswers jedec1 then hdrB.cs1 else hdrB.cs0)
      let s := { s with ld := { s.ld with
        jedec0 := jedec0 % 2 ^ 24, jedec1 := if jedecAnswers jedec1 then jedec1 % 2 ^ 24 else 0,
        nvCs1Present := jedecAnswers jedec1, hdrA := a, hdrB := b,
        causeA := a.cause, seqA := a.seq, causeB := b.cause, seqB := b.seq } }
      let s := nvmRead .b 0 64 (nvmRead .a 0 64 (put (.nvm 1 0x9F 0 3) (put (.nvm 0 0x9F 0 3) s)))
      if a.cause == 0 && (b.cause != 0 || decide (b.seq ≤ a.seq)) then trySlot .a false s
      else if b.cause == 0 then trySlot .b false s
      else noImage s
    else s) s

/-- VERIFICATION_PASS_DONE (R38): header, body and trailer have been read; `BODY_CRC` is checked (R35, cause 0x05). The
header bytes are those the signature covers. -/
def execVerificationPassDone (dt : Nat) (hdr body trailer : Bytes) (s : State) : Host.Outcome State Fault Refusal :=
  act dt (fun s =>
    if s.pwr.mode == .load && s.ld.stage == 2 then
      let h := slotHeader s.ld.trying s.ld
      if body.length == h.len && crc32c body == h.bodyCrc then
        { s with ld := { s.ld with verBody := hdr ++ body, verTrailer := trailer } }
      else slotFails 0x05 s
    else s) s

/-- The signature rule of R36: none where the image is accepted, or the cause. -/
def signatureCause (o : Otp) (signed : Bool) (covered trailer : Bytes) : Option Nat :=
  if !signed then (if otpLocked o then some 0x06 else none)
  else if !keyHashSet o && !otpLocked o then none
  else if Config.sha256 (trailer.take 32) != keyHash o then some 0x07
  else if !Config.ed25519Verify (trailer.take 32) covered (bytesAt trailer 32 64) then some 0x08
  else none

/-- SIGNATURE_VERIFIED (R36): the signature rule is judged, and the parse pass begins. -/
def execSignatureVerified (dt : Nat) (s : State) : Host.Outcome State Fault Refusal :=
  act dt (fun s =>
    if s.pwr.mode == .load && s.ld.stage == 2 && !s.ld.verBody.isEmpty then
      let h := slotHeader s.ld.trying s.ld
      match signatureCause s.otp h.signed s.ld.verBody s.ld.verTrailer with
      | some c => slotFails c s
      | none =>
        let unchecked := h.signed && !keyHashSet s.otp
        let s := nvmRead s.ld.trying 64 h.len { s with ld := { s.ld with stage := 3, pendUnchecked := unchecked } }
        if unchecked then emit 0x0208 s (if s.ld.trying == .a then 0 else 1) else s
    else s) s

/-- A section of block `b` may hold the next record (R45). -/
def sectionOrderOk (b : Nat) (l : Loader) : Bool :=
  decide (2 ≤ b ∧ b ≤ 0x12) &&
  match l.opened with
  | some o => o.block == b
  | none => decide (l.lastBlock < b)

/-- The section the next record belongs to. -/
def openedFor (b : Nat) (l : Loader) : OpenSection := l.opened.getD { block := b }

/-- The payload of a record, unsealed where `SEALED` is set (R43), or the cause of the failure (R44). -/
def openSealed (o : Otp) (isSealed : Bool) (hdr payload : Bytes) : Except Nat Bytes :=
  if isSealed then
    let n := leNat (payload.take 4)
    if !sealKeySet o || payload.length != (32 + n + 7) / 8 * 8 then .error 0x13
    else match Config.aesGcmOpen (sealKey o) (bytesAt payload 4 12) (hdr ++ payload.take 4)
        (bytesAt payload 16 n) (bytesAt payload (16 + n) 16) with
      | some p => .ok p
      | none => .error 0x13
  else .ok payload

/-- The per-record checks of R41, R42 and R44 on a record that R45 admits: the payload to keep, none where the record is
skipped, or the cause of its failure. A record of an unrecognised type is skipped, or fails with cause 0x12, whatever its `SEALED` bit
and `SEAL_KEY_SET` (DESIGN CHOICE, log entry 32). -/
def checkRecord (o : Otp) (sec : OpenSection) (type flags : Nat) (hdr payload : Bytes) : Except Nat (Option Bytes) :=
  if type % 256 == 0 then .error 0x11
  else if !recordKnown type then (if bitAt flags 1 then .error 0x12 else .ok none)
  else if type == 0x0C05 && otpLocked o && !bitAt flags 0 then .error 0x18
  else match openSealed o (bitAt flags 0) hdr payload with
    | .error c => .error c
    | .ok p =>
      let inst := (p.getD 0 0).toNat
      let lenOk := match recordLen type with
        | some n => p.length == n
        | none => p.length % 8 == 0
      let instOk := match recordInstances type with
        | some n => decide (inst < n) && !sec.recs.any fun r => r.2.1 == type && (r.2.2.getD 0 0).toNat == inst
        | none => !sec.recs.any fun r => r.2.1 == type
      if lenOk && instOk && leNat p &&& reservedBits type == 0 then .ok (some p) else .error 0x11

/-- What every record passes first: a length that is a multiple of 8 inside the body, reserved header fields zero (R41),
and the order of sections (R45); none, or the cause. -/
def framingCause (l : Loader) (record : Bytes) : Option Nat :=
  let n := leNat (record.take 8)
  let len := bitsOf n 16 16
  if len % 8 != 0 || decide ((slotHeader l.trying l).len < l.offset + 8 + len) then some 0x11
  else if bitsOf n 34 6 != 0 || bitsOf n 40 24 != 0 then some 0x11
  else if !sectionOrderOk (bitsOf n 8 8) l then some 0x16
  else none

/-- PARSE_RECORD (R41 to R44): a record other than an end record arrives in the parse pass. Where it is of another block than the open
section (R45), `FAIL_BLOCK` and event 0x0204 take the block byte of the record that arrives (DESIGN CHOICE, log entry 32). -/
def execParseRecord (dt : Nat) (record : Bytes) (s : State) : Host.Outcome State Fault Refusal :=
  act dt (fun s =>
    let n := leNat (record.take 8)
    let type := bitsOf n 0 16
    if s.pwr.mode == .load && s.ld.stage == 3 && type % 256 != 0xFF then
      let b := type / 256
      match framingCause s.ld record with
      | some c => discardSection b c s.ld.offset s
      | none =>
        let sec := openedFor b s.ld
        let payload := bytesAt record 8 (bitsOf n 16 16)
        match checkRecord s.otp sec type (bitsOf n 32 8) (record.take 8) payload with
        | .error c => discardSection b c s.ld.offset s
        | .ok p =>
          let sec' := { sec with
            recs := match p with
              | some p => sec.recs ++ [(s.ld.offset, type, p)]
              | none => sec.recs
            crc := crcBytes sec.crc record, count := sec.count + 1, last := s.ld.offset }
          let skippedFirst := p.isNone && !s.ld.unknownSeen
          let s := { s with ld := { s.ld with
            opened := some sec', offset := s.ld.offset + record.length, parseCrc := crcBytes s.ld.parseCrc record,
            unknownSeen := s.ld.unknownSeen || p.isNone } }
          let s := if p.isNone then count 0x02000D s else s
          if skippedFirst then emit 0x0209 s else s
    else s) s

/-- The end record of R46: the unsealing of one with `SEALED` set (R44), its length and reserved field (R41), then `REC_COUNT` and
`SEC_CRC`; none, or the cause. A sealed end record is unsealed first, with R41's length and R44's cause 0x13, and R46's length is that of
its plaintext (DESIGN CHOICE, log entry 103). -/
def endRecordCause (o : Otp) (sec : OpenSection) (record : Bytes) : Option Nat :=
  let n := leNat (record.take 8)
  match openSealed o (bitAt n 32) (record.take 8) (bytesAt record 8 (bitsOf n 16 16)) with
  | .error c => some c
  | .ok p =>
    let m := leNat p
    if p.length != 8 || bitsOf m 16 16 != 0 then some 0x11
    else if bitsOf m 0 16 != sec.count || bitsOf m 32 32 != (~~~ sec.crc).toNat then some 0x10
    else none

/-- SECTION_END_RECORD (R46, R47): the section is checked for ranges and relations and committed to its pending set. -/
def execSectionEndRecord (dt : Nat) (record : Bytes) (s : State) : Host.Outcome State Fault Refusal :=
  act dt (fun s =>
    let type := bitsOf (leNat (record.take 8)) 0 16
    if s.pwr.mode == .load && s.ld.stage == 3 && type % 256 == 0xFF then
      let b := type / 256
      let sec := openedFor b s.ld
      match (framingCause s.ld record).or (endRecordCause s.otp sec record) with
      | some c => discardSection b c s.ld.offset s
      | none =>
        let cfg := sec.recs.foldl (fun c r => putRecord r.2.1 r.2.2 c) (copySection b {} s.ld.pend)
        let s := if oscinMismatch s sec.recs then emit 0x040B s else s
        match sec.recs.find? (fun r => !(recordInRange r.2.1 r.2.2 && recordFits s cfg sec.recs r.2.1 r.2.2)) with
        | some r => discardSection b 0x14 r.1 s
        | none =>
          if !relationsHold b sec.recs cfg then discardSection b 0x15 s.ld.offset s
          else
            { s with ld := { s.ld with
              pend := cfg, sectionsPending := s.ld.sectionsPending ||| 2 ^ b, opened := none, lastBlock := b,
              offset := s.ld.offset + record.length, parseCrc := crcBytes s.ld.parseCrc record } }
    else s) s

/-- The lowest required section the image lacks (R50, R59), by its own `SYSTEM_CONFIG`. -/
def missingSection (l : Loader) : Option Nat :=
  let req := if bitAt l.sectionsPending 2 then l.pend.b02.system.requiredSections else 0
  (List.range 19).find? fun b => bitAt req b && !bitAt l.sectionsPending b

/-- PARSE_PASS_DONE (R38, R45, R48, R50): the body ends; the image is complete, or it is abandoned. A section left open (0x16) ranks
before a `BODY_CRC` that differs (0x05), and that before a missing section (0x17) (DESIGN CHOICE, log entry 32). -/
def execParsePassDone (dt : Nat) (s : State) : Host.Outcome State Fault Refusal :=
  act dt (fun s =>
    if s.pwr.mode == .load && s.ld.stage == 3 then
      let h := slotHeader s.ld.trying s.ld
      match s.ld.opened with
      | some o => discardSection o.block 0x16 o.last s
      | none =>
        if (~~~ s.ld.parseCrc).toNat != h.bodyCrc || s.ld.offset != h.len then slotFails 0x05 s
        else match missingSection s.ld with
          | some b => slotFails 0x17
              { s with ld := { s.ld with failBlock := b, failCause := 0x17, failOffset := h.len } }
          | none =>
            let s := { s with ld := { setSlotCause s.ld.trying 0 s.ld with stage := 4 } }
            if s.ld.second then emit 0x0205 s else s
    else s) s

end Sys2Proof.Machine
end

