-- ==== Sys2Proof/Machine/Flags.lean ====
section
/-!
DEFINITION. The status words of the Window (R60, R82, R108, R142, R161, R192, R206, R214, R234, R269, R298, R329, R365, R389,
R416, R422, R424, R434, R448, R465, R490): words made of several flags and codes, and the records of the rings.
-/

namespace Sys2Proof.Machine

/-- A value in the bits of a word from `lo`, `w` bits wide. -/
def fld (lo w v : Nat) : Nat := v % 2 ^ w * 2 ^ lo

/-- A flag at a bit of a word. -/
def flg (lo : Nat) (b : Bool) : Nat := b.toNat * 2 ^ lo

/-- A map of flags: bit n for the n-th. -/
def flgs {n : Nat} (f : Fin n → Bool) : Nat := (List.finRange n).foldl (fun k i => k + flg i.val (f i)) 0

/-- A signed real quantity in a register of `w` bits (R7, log entry 11). -/
def regS (w : Nat) (q : Rat) : Nat := fitS w (wholeOf q)

/-- An unsigned real quantity in a register of `w` bits (log entry 11). -/
def regU (w : Nat) (q : Rat) : Nat := fitU w (wholeOf q).toNat

/-- An interval of the timescale in ps. -/
def inPs (u : Units) : Rat := (u : Rat) / (unitsPerPs : Nat)

/-- A number limited to ±2,147,483,647 (R142). -/
def clamp31 (v : Int) : Int := max (-2147483647) (min 2147483647 v)

/-- A register value by which a field shows something the manual leaves open (log entry 16). -/
def openBits (addr w : Nat) : Nat := Config.unwritten addr % 2 ^ w

/-- `TB_STATE` (R93). -/
def tbStateCode (t : TbState) : Nat :=
  match t with
  | .normal => 0
  | .direct => 1
  | .dcoHold => 2
  | .freeRun => 3

/-- `ADPLLn_STATE` (R108). -/
def adpllCode (t : AdpllState) : Nat :=
  match t with
  | .off => 0
  | .acquiring => 1
  | .qualifying => 2
  | .locked => 3
  | .wordHold => 4
  | .dcoHold => 5
  | .retired => 6

/-- `REFn_STATE` (R117). -/
def refCode (t : RefState) : Nat :=
  match t with
  | .disabled => 0
  | .noSignal => 1
  | .qualifying => 2
  | .wtr => 3
  | .eligible => 4
  | .selected => 5
  | .disputed => 6
  | .outvoted => 7
  | .quarantined => 8
  | .unavailable => 9
  | .qlUnusable => 10
  | .offTime => 11

/-- `PPSn_STATE` (R234). -/
def ppsCode (t : PpsState) : Nat :=
  match t with
  | .off => 0
  | .armed => 1
  | .done => 2
  | .periodic => 3
  | .lateNotFired => 4

/-- `MSn_STATE` (R298). -/
def msCode (t : MsState) : Nat :=
  match t with
  | .off => 0
  | .spare => 1
  | .probation => 2
  | .inService => 3
  | .draining => 4
  | .retired => 5
  | .faulted => 6

/-- `KEYn_STATE` (R329). -/
def keyCode (t : KeyState) : Nat :=
  match t with
  | .empty => 0
  | .pending => 1
  | .active => 2
  | .retired => 3

/-- `Ln_STATE` (R392). -/
def leatCode (t : LeatState) : Nat :=
  match t with
  | .down => 0
  | .calibrating => 1
  | .training => 2
  | .hello => 3
  | .measuring => 4
  | .up => 5
  | .remeasure => 6
  | .refused => 7

/-- `AVS_STATE` (R490). -/
def avsCode (t : AvsState) : Nat :=
  match t with
  | .disabled => 0
  | .awaiting => 1
  | .active => 2
  | .fault => 3

/-- `GCn_ROLE` (R192): a retired channel, a spare one, or its role. -/
def chanCode (s : State) (n : Fin 32) : Nat :=
  if bitAt (retiredChans s) n.val then 5
  else if !chanServes s n then 4
  else match (s.gnss.chan[n]).role with
    | .idle => 0
    | .search => 1
    | .track => 2
    | .shadow => 3

/-- The loader's status (R60). -/
def loadStatus (s : State) : Nat :=
  fld 0 4 s.ld.stage + flg 4 (s.ld.activeSlot == .b) + flg 5 s.ld.fallbackUsed + flg 6 s.ld.sigUnchecked + flg 7 s.ld.nvCs1Present

/-- The timescale's status (R82). -/
def timeStatus (s : State) : Nat :=
  flg 0 (timeValid s) + flg 1 s.ts.stepArmed + flg 2 s.ts.rateClamped + flg 3 s.ts.slewLimited + fld 4 2 s.ts.utcSource +
  fld 6 2 (leapState s) + flg 8 s.ts.leapFrozen + flg 9 s.cfg.b03.timescale.stampFormat

/-- The timebase's status (R108). -/
def pllStatus (s : State) : Nat :=
  fld 0 2 (tbStateCode s.pll.tbState) + flg 2 s.pll.oscinPresent + flg 3 s.pll.oscFault + flg 4 s.pll.detectValid +
  fld 5 3 s.pll.detected

/-- The roles (R108). -/
def roleStatus (s : State) : Nat :=
  fld 0 2 s.pll.roleTb.val + fld 4 2 s.pll.roleCk.val + fld 8 2 s.pll.roleSd.val +
  fld 12 2 ((s.pll.spare.map (·.val)).getD (openBits 0x040001 2)) + flg 14 s.pll.spare.isNone

/-- `ADPLLn_STATUS` (R108). -/
def adpllStatus (a : Adpll) : Nat := fld 0 3 (adpllCode a.st) + fld 3 3 a.windows + fld 16 16 (fitS 16 a.countDev)

/-- The selection's status (R142). -/
def selStatus (s : State) : Nat :=
  let r := s.gov.sel.map fun n => s.cfg.b05.slot[n]
  fld 0 4 ((s.gov.sel.map (·.val)).getD 15) + fld 4 4 (selQl s) +
  fld 8 4 ((r.map (·.refPriority)).getD (openBits 0x050000 4)) + flg 12 (draining s) +
  flg 13 (s.gov.grace && s.pwr.mode != .load && s.refs.toList.any (·.awaited)) +
  fld 16 5 ((r.map (·.refBw)).getD (openBits 0x050000 5))

/-- Seconds of wait-to-restore remaining (R120, R142). -/
def wtrRemaining (s : State) (n : Fin 13) : Nat :=
  let r := s.refs[n]
  if r.st == .wtr then
    regU 12 ((((s.cfg.b05.slot[n]).refWtrS * clkPerSec - (s.clk - r.wtrSince) : Nat) : Rat) / (clkPerSec : Nat))
  else 0

/-- `REFn_STATUS` (R142). -/
def refStatus (s : State) (n : Fin 13) : Nat :=
  let r := s.refs[n]
  fld 0 4 (refCode r.st) + fld 4 4 r.ql + fld 8 4 (fitU 4 (s.cfg.b05.slot[n]).refPriority) +
  fld 12 4 ((r.partner.map (·.val)).getD 15) + fld 16 12 (wtrRemaining s n)

/-- The holdover block's status (R161). -/
def hoStatus (s : State) : Nat :=
  fld 0 2 s.ho.modelState + flg 2 s.ho.restored + fld 3 3 s.ho.st + flg 6 s.ho.dco + flg 7 s.ho.learnPaused + fld 8 4 s.ho.ql +
  fld 12 4 ((s.ho.lastSlot.map (·.val)).getD 15)

/-- The baseband's status (R192). -/
def gnssStatus (s : State) : Nat :=
  let g := s.gnss
  fld 0 3 (gnssState s) + fld 3 2 g.timingState + fld 5 2 g.startType + flg 7 g.spoof + flg 8 g.jamming + flg 9 g.xcheck +
  flg 10 g.antFault + flg 11 g.sampleLoss + fld 12 2 g.posSource + flg 14 g.utc.isSome + flg 15 (jamReady g)

/-- The numbers of satellites (R192). -/
def satCounts (s : State) : Nat :=
  fld 0 5 (trackedChans s).length + fld 8 5 (usedChans s).length +
  fld 16 5 ((trackedChans s).filter fun n => (s.gnss.chan[n]).excl != 0).length

/-- `GCn_STATUS` (R192). -/
def chanStatus (s : State) (n : Fin 32) : Nat :=
  let c := s.gnss.chan[n]
  fld 0 8 c.prn + fld 8 3 (chanCode s n) + flg 11 c.used + fld 12 4 c.excl + fld 16 8 (regU 8 ((c.cn0 : Rat) / 10)) +
  fld 24 8 (fitU 8 c.elev)

/-- The interval counter's status (R214). -/
def icStatus (s : State) : Nat := fld 0 2 s.cfg.b08.ic.armMode + flg 2 s.ic.windowOpen + fld 3 4 (spareCells s).length

/-- The number of a channel's cell; for a channel without one the manual gives none (log entry 16). -/
def cellCode (addr : Nat) (c : Option (Fin 12)) : Nat := (c.map (·.val)).getD (openBits addr 4)

/-- `CELL_MAP` (R214). -/
def cellMap (s : State) : Nat :=
  (List.finRange 8).foldl (fun k n => k + fld (4 * n.val) 4 (cellCode 0x080002 (s.ic.stop[n]).cell)) 0

/-- `START_CELL`, `SPARE_MAP` and `RETIRED_MAP` (R214). -/
def cellStatus (s : State) : Nat :=
  fld 0 4 (cellCode 0x080003 s.ic.startCell) + fld 4 12 (flgs fun c : Fin 12 => (spareCells s).contains c) +
  fld 16 12 (retiredCells s)

/-- `STn_STATUS` (R214). -/
def stopStatus (s : State) (n : Fin 8) : Nat :=
  let c := s.ic.stop[n]
  fld 0 2 (icCfg s n).stopMode + fld 2 5 c.stops + flg 7 c.fault + fld 16 16 (fitU 16 ((c.gate.map (·.stamps.length)).getD 0))

/-- `PPSn_STATUS` (R234). -/
def ppsStatus (p : PpsOut) : Nat := fld 0 3 (ppsCode p.st) + flg 3 p.pulseLate + flg 4 p.lateFired + flg 5 p.muted

/-- `CLKn_STATUS` (R234). -/
def clkStatus (c : ClkOut) : Nat := flg 0 c.running + flg 1 c.muted + flg 2 c.aligned + fld 8 24 c.divAct

/-- The $GHTOD sentence is being sent every second (R226, R234). -/
def todActive (s : State) : Bool := s.cfg.b09.tod.todEn && !todLow s

/-- The port groups' status (R269). -/
def portsStatus (s : State) : Nat :=
  fld 0 3 (s.cfg.b0A.group[0]).groupMode + fld 4 3 (s.cfg.b0A.group[1]).groupMode +
  fld 8 8 (flgs fun p : Fin 8 => (s.ports[p]).link) + fld 16 8 (flgs (portPresent s))

/-- The equaliser maps (R269). -/
def eqStatus (s : State) : Nat :=
  let m (g : Fin 2) := (List.range 4).foldl (fun k i => k + fld (3 * i) 3 ((s.dress.eqMap[g]).toList.getD i 0)) 0
  fld 0 12 (m 0) + flg 12 (reserveOf s 6 != 0) + fld 16 12 (m 1) + flg 28 (reserveOf s 7 != 0)

/-- A pause in force now. -/
def inForce (s : State) (o : Option Units) : Bool := o.any fun t => decide (nowUnits s < t)

/-- `Pn_STATUS` (R269). -/
def portStatus (s : State) (p : Fin 8) : Nat :=
  let q := s.ports[p]
  flg 0 q.link + flg 1 q.phy.blockLock + flg 2 (q.phy.fecLock || !usesFec s p) + flg 3 (inForce s q.pause) + fld 4 8 (flgs fun i : Fin 8 => inForce s q.pfc[i]) +
  fld 12 4 q.ssm + fld 16 8 q.essm + flg 24 q.dnu

/-- Millstones in a state. -/
def msIn (s : State) (t : MsState) : Nat := (allMs.filter fun m => (s.core.ms[m]).st == t).length

/-- The core's status (R298). -/
def coreStatus (s : State) : Nat :=
  fld 0 6 (msIn s .inService) + fld 6 6 (msIn s .spare) + fld 12 6 (popCount 40 s.dress.retired[0]) + flg 18 (decide (4096 ≤ parked s))

/-- `MSn_STATUS` (R298). -/
def msStatus (m : Millstone) : Nat := fld 0 3 (msCode m.st) + flg 3 (m.front.isSome || m.back.isSome) + fld 16 16 m.rate

/-- `LBk_STATUS` (R298). -/
def bankStatus (b : Bank) : Nat := fld 0 6 b.phys + flg 6 b.migrating.isSome + fld 8 6 b.shadow.length

/-- `Pn_BOOK_AHEAD` (R298): the end of the last booked frame less now. -/
def bookAhead (s : State) (p : Fin 8) : Nat :=
  let last := (s.ports[p]).book.foldl (fun t b => max t (b.stop - 12 * byteTime s p)) (nowUnits s)
  regU 16 (((last - nowUnits s : Units) : Rat) / (unitsPerNs : Nat))

/-- `Pn_PREC_SHARE` (R290, R298): over the commitments of the last second. -/
def precShare (s : State) (p : Fin 8) : Nat :=
  let l := (s.ports[p]).precDone.filter fun e => decide (nowUnits s - (unitsPerSec : Int) ≤ e.1)
  regU 16 (((l.foldl (fun n e => max n (precIn l e.1)) 0 : Units) : Rat) / (unitsPerNs : Nat))

/-- The NTP block's status (R329). -/
def ntpStatus (s : State) : Nat :=
  fld 0 2 s.ntp.serveState + flg 2 (s.cfg.b0C.ntp.ntsEn && decide (2 ≤ s.ntp.serveState)) + fld 3 2 s.ntp.advLi +
  fld 5 5 s.ntp.advStratum + fld 10 6 s.ntp.mintSlot + flg 16 s.ntp.mintNone

/-- `KEYn_ID` and `KEYn_STATE` (R329). -/
def keyStatus (s : State) (n : Fin 64) : Nat :=
  let k := s.ntp.key[n]
  (if k == .empty then 0 else fld 0 16 (((keyRec s n).map (·.keyId)).getD 0)) + fld 16 2 (keyCode k)

/-- The PTP block's status (R365). -/
def ptpStatus (s : State) : Nat :=
  fld 0 8 (clockClassNow s) + fld 8 8 (clockAccuracyNow s) + fld 16 8 (timeSourceNow s) + fld 24 4 s.garner.denyCause

/-- `Cn_STATUS` (R365): a client without a best master listens, one whose Sync or Delay_Resp grant is still to come
negotiates. -/
def clientState (s : State) (i : Fin 2) : Nat :=
  let c := s.cli[i]
  let has (t : Nat) := c.grants.any fun g => some g.master == c.best && g.messageType == t && g.duration.isSome
  if !(cliCfg s i).cEn then 0
  else if c.best.isNone then 1
  else if c.frozen then 4
  else if (cliCfg s i).cProfile == 2 && !(has 0 && has 9) then 2
  else 3

/-- The best master's last Announce. -/
def bestAnnounce (c : Client) : Option PtpMsg := (c.cands.find? fun x => some x.src == c.best).map (·.msg)

/-- The word of `Cn_STATUS`, `Cn_ASYM_NO_XREF` and `Cn_GM_CLASS` (R365). -/
def clientStatus (s : State) (i : Fin 2) : Nat :=
  let c := s.cli[i]
  fld 0 3 (clientState s i) + flg 3 c.watch.noXref +
  fld 8 8 (((bestAnnounce c).map (·.gmClass)).getD (openBits (0x0D0100 + 16 * i.val) 8))

/-- The Weir's status (R389). -/
def weirStatus (s : State) : Nat :=
  flg 0 s.weir.shedGeneral + flg 1 s.weir.shedAssured + flg 2 s.weir.spilling + flg 3 (kodEmpty s)

/-- Work of a tick in 0.1 M SU/s (R389), from quarter SU. -/
def msusTick (q : Nat) : Nat := regU 16 (((perSec q : Nat) : Rat) / 400000)

/-- A rate in quarter SU per second in 0.1 M SU/s. -/
def msusRate (q : Nat) : Nat := regU 16 ((q : Rat) / 400000)

/-- The Leat block's status (R416). -/
def leatStatus (s : State) : Nat :=
  flg 0 (isRoot s) + flg 1 s.leat.parentHeld + fld 4 4 s.leat.rootQlTx + fld 8 4 (((parentLink s).map (·.val)).getD 15)

/-- `Ln_STATUS` (R416). -/
def linkStatus (s : State) (n : Fin 4) : Nat :=
  let l := s.leat.link[n]
  fld 0 3 (leatCode l.st) + flg 3 l.pairS + flg 4 l.spareOk + flg 5 l.refused + fld 6 4 l.refuseCause + flg 10 (waveOk s n) +
  flg 11 l.watch.noXref + fld 12 3 l.nbrMode + fld 16 4 l.nbrSelQl

/-- Reports are being sent (R436, R448). -/
def telemActive (s : State) : Bool :=
  s.cfg.b10.telem.telemPeriod != 0 && s.cfg.b10.telem.telemCollector.any (· != 0#8) &&
  (maySend s || s.pwr.mode == .safe)

/-- `TMn_STATUS` (R448), of the published set. -/
def tallyStatus (s : State) (n : Fin 24) : Nat :=
  let m := s.tele.monitor[n]
  let cum := (s.cfg.b10.tally[n]).tallyMode
  let set := if cum then (if (s.cfg.b10.tally[n]).tallySrc == 0 then none else some m.live) else m.published
  match set with
  | none => flg 2 cum
  | some a => 1 + flg 1 a.sat + flg 2 cum + flg 3 a.step + flg 4 a.isPartial + fld 16 16 m.setSeq

/-- The Dresser's status (R465). -/
def dressStatus (s : State) : Nat :=
  flg 0 (dressCfg s).autoRetire + flg 1 s.dress.mapOk + fld 2 3 (probationsRunning s) + flg 5 (migrationActive s)

/-- The power block's status (R490). -/
def powerStatus (s : State) : Nat :=
  fld 0 3 (avsCode s.avs.st) + flg 3 s.avs.atMax + flg 4 s.pd0.rtcValid + flg 5 s.mon.vbatLow + flg 6 s.pd0.onVddio +
  flg 7 s.mon.tjAlarm + fld 8 3 s.pwr.resetCause

/-- A stamp's three or four words (R67, R68, R206): seconds high, seconds low, nanoseconds, fraction. -/
def stampWords (compact : Bool) (t : Stamp) : Nat × Nat × Nat × Nat :=
  if compact then (0, 0, compactOf t, 0) else (t.sec / 2 ^ 32, t.sec % 2 ^ 32, t.ns, t.frac)

/-- The four words of an event entry (R424). -/
def eventWords (e : EvEntry) : List Nat :=
  let w := stampWords (e.compact && !e.marker) e.stamp
  let c := compactOf e.stamp
  [if e.marker then c else fld 16 16 e.code + fld 0 8 e.inst1 + fld 8 8 e.inst2,
   fld 0 16 w.1 + fld 16 8 e.stepEpoch + flg 24 e.marker + flg 25 e.masked + flg 26 e.valid + flg 27 e.stepMarker,
   w.2.1, w.2.2.1]

/-- The eight words of a sample record (R434). A marker has no Millstone, kind or latency. -/
def sampleWords (r : SampleRec) : List Nat :=
  let w := stampWords (r.compact && !r.marker) r.stamp
  [fld 0 4 r.idx + fld 4 6 r.ms + fld 10 3 r.port + fld 13 2 r.cls + fld 15 3 r.kind + flg 24 r.marker + flg 25 r.valid +
     flg 26 r.stepMarker + flg 27 r.gap + flg 28 r.degraded,
   fld 0 8 r.src + fld 8 8 r.stepEpoch + fld 16 16 w.1, w.2.1, w.2.2.1, if r.marker then compactOf r.stamp else w.2.2.2,
   r.latencyPs, fitU 32 r.queueNs, fld 0 12 r.tag]

/-- `REC_CH` (R206). -/
def recCh (k : IcRecKind) : Nat :=
  match k with
  | .stop n => n.val
  | .start => 8
  | .marker => 9
  | .freq _ => 10

/-- The eight words of a capture record (R206, R207). -/
def captureWords (r : IcRec) : List Nat :=
  match r.kind with
  | .marker =>
    [fld 0 4 9 + fld 8 8 r.stepEpoch + flg 19 r.gap + flg 21 r.step + flg 23 r.valid, r.stamp.sec / 2 ^ 32,
     r.stamp.sec % 2 ^ 32, r.stamp.ns, compactOf r.stamp, 0, 0, 0]
  | k =>
    let w := stampWords r.compact r.stamp
    let ch := match k with
      | .freq n => n.val
      | _ => 0
    let isFreq := recCh k == 10
    let f := fitS 64 r.freqResult
    [fld 0 4 (recCh k) + fld 4 4 r.index + fld 8 8 r.stepEpoch + flg 16 r.coincident + flg 17 r.overflow + flg 18 r.spacing +
       flg 19 r.gap + flg 20 r.degraded + flg 21 r.step + flg 22 r.synth + flg 23 r.valid + fld 24 4 ch,
     w.1, w.2.1, w.2.2.1, w.2.2.2 + fld 16 16 (r.interval / 2 ^ 32),
     if isFreq then fld 0 16 r.freqN else r.interval % 2 ^ 32,
     if isFreq then f / 2 ^ 32 else r.window % 2 ^ 32, if isFreq then f % 2 ^ 32 else 0]

/-- The two words of a navigation entry (R192). -/
def navWords (e : NavEntry) : List Nat :=
  [e.word.toNat + flg 30 e.parityOk, fld 0 8 e.prn + fld 8 3 e.subframe + fld 11 4 e.wordNum + fld 15 17 e.tow]

end Sys2Proof.Machine
end

