-- ==== Sys2Proof/Machine/Operands.lean ====
section
/-!
DEFINITION. What a word address of the Window names: the live value of every register (R60, R82, R108, R142, R161, R192, R214,
R234, R269, R298, R329, R365, R389, R416, R422, R448, R465, R490), the entries of the rings, and the words each latching word
latches. A word that is unassigned, or reserved, reads zero (R420).
-/

namespace Sys2Proof.Machine

/-- The offset of an address in a run of `n` registers from `lo`. -/
def idx (n lo a : Nat) : Option (Fin n) := if h : lo ≤ a ∧ a - lo < n then some ⟨a - lo, h.2⟩ else none

/-- The upper 32 bits, or 16, of a number. -/
def hi32 (v : Nat) : Nat := v / 2 ^ 32

/-- The lower 32 bits of a number. -/
def lo32 (v : Nat) : Nat := v % 2 ^ 32

/-- The upper half at even offsets, the lower at odd ones. -/
def hiLo (i v : Nat) : Nat := if i % 2 = 0 then hi32 v else lo32 v

/-- The entry a ring holds at an index of its addresses: the newest is index (head − 1) modulo the ring's length. -/
def ringEntry {α : Type} (size head k : Nat) (ring : List α) : Option α := ring[(head + 2 * size - 1 - k) % size]?

/-- A word of a ring: of entry (a − base) ÷ width. The fields of an entry never written read as the manual does not say (log entry 14),
its reserved bits as zero (R9): `fields` has the bits that are fields, word by word. -/
def ringWord {α : Type} (size width base head : Nat) (fields : List Nat) (words : α → List Nat) (ring : List α) (a : Nat) : Nat :=
  let k := (a - base) % width
  match ringEntry size (head % size) ((a - base) / width) ring with
  | some e => (words e).getD k 0
  | none => Config.unwritten a &&& fields.getD k 0xFFFFFFFF

/-- The fields of a sample record (R434), word by word. -/
def sampleFields : List Nat := [0x1F03FFFF, 0xFFFFFFFF, 0xFFFFFFFF, 0xFFFFFFFF, 0xFFFFFFFF, 0xFFFFFFFF, 0xFFFFFFFF, 0xFFF]

/-- Block 0x00 (R422). -/
def word00 (s : State) (a : Nat) : Nat :=
  match a with
  | 0x000000 => 0x47480800
  | 0x000001 => 0xA0
  | 0x000002 => hi32 ownSerial
  | 0x000003 => lo32 ownSerial
  | 0x000004 => fld 0 3 (modeCode s.pwr.mode) + flg 3 (timeValid s)
  | 0x000005 => min 0xFFFFFFFF ((s.clk - s.pwr.exitAt) / clkPerSec)
  | 0x000006 => 0xA5C35A3C
  | _ => 0

/-- Block 0x02 (R60), its RC fields apart. -/
def word02 (s : State) (a : Nat) : Nat :=
  match a with
  | 0x020000 => loadStatus s
  | 0x020001 => lo32 s.ld.activeSeq
  | 0x020002 => fld 0 8 s.ld.causeA
  | 0x020003 => lo32 s.ld.seqA
  | 0x020004 => fld 0 8 s.ld.causeB
  | 0x020005 => lo32 s.ld.seqB
  | 0x020006 => fld 8 8 s.ld.failBlock + fld 0 8 s.ld.failCause
  | 0x020007 => lo32 s.ld.failOffset
  | 0x020008 => s.ld.sectionsActive / 4 % 2 ^ 17 * 4
  | 0x020009 => s.ld.sectionsPending / 4 % 2 ^ 17 * 4
  | 0x02000A => fitU 32 s.ld.loadTimeUs
  | 0x02000B => fitU 32 s.ld.loadCount
  | 0x02000E => s.otp.word[16].toNat % 8
  | 0x02000F => if sealKeySet s.otp then (sealKcv s.otp).toNat else 0
  | 0x020020 => fld 0 24 s.ld.jedec0
  | 0x020021 => fld 0 24 s.ld.jedec1
  | _ =>
    match idx 8 0x020010 a, idx 8 0x020018 a with
    | some k, _ => ((s.otp.word.toList).getD (8 + k.val) 0).toNat
    | _, some k => beNat (bytesAt s.cfg.b02.label (4 * k.val) 4)
    | _, _ => 0

/-- Block 0x03 (R82), its RC fields apart. -/
def word03 (s : State) (a : Nat) : Nat :=
  match a with
  | 0x030000 => timeStatus s
  | 0x030001 => hi32 (stampNow s).sec
  | 0x030002 => lo32 (stampNow s).sec
  | 0x030003 => (stampNow s).ns
  | 0x030004 => (stampNow s).frac
  | 0x030005 => fitS 16 s.ts.utcOffsetNow
  | 0x030006 => hi32 (leapTimeShown s)
  | 0x030007 => lo32 (leapTimeShown s)
  | 0x030008 => hi32 (s.tb.w % 2 ^ 48).toNat
  | 0x030009 => lo32 (s.tb.w % 2 ^ 48).toNat
  | 0x03000A => fld 0 8 s.tb.stepCount
  | 0x03000B => fitS 32 s.tb.lastStepSec
  | 0x03000C => fitS 32 s.tb.lastStepNs
  | _ => 0

/-- Block 0x04 (R108), its RC fields apart. -/
def word04 (s : State) (a : Nat) : Nat :=
  match a with
  | 0x040000 => pllStatus s
  | 0x040001 => roleStatus s
  | 0x040016 => fitU 32 s.pll.measHz
  | 0x040017 => fitU 32 (dcoHoldSec s)
  | _ =>
    match idx 4 0x040002 a, idx 4 0x040006 a, idx 4 0x04000A a with
    | some n, _, _ => adpllStatus s.pll.adpll[n]
    | _, some n, _ => fitS 32 (s.pll.adpll[n]).phaseErr
    | _, _, some n => fld 0 24 (s.pll.adpll[n]).tune
    | _, _, _ => 0

/-- Block 0x05 (R142), its RC fields apart. -/
def word05 (s : State) (a : Nat) : Nat :=
  match a with
  | 0x050000 => selStatus s
  | 0x050001 => fitS 32 (clamp31 (wholeOf (inPs s.gov.e)))
  | 0x050002 => regS 32 (s.gov.i * 1000)
  | 0x050003 => fitS 32 (clamp31 (wholeOf (inPs s.gov.b)))
  | 0x050007 => fld 0 8 s.gov.integrityCause
  | _ =>
    match idx 13 0x050010 a, idx 13 0x050020 a, idx 13 0x050030 a with
    | some n, _, _ => refStatus s n
    | _, some n, _ => fitS 32 (clamp31 (wholeOf (inPs (s.refs[n]).x)))
    | _, _, some n => regS 32 ((s.refs[n]).y * 1000)
    | _, _, _ => 0

/-- A quantity in ns that saturates at 0xFFFF_FFFF (R161). -/
def nsReg (q : Rat) : Nat := min 0xFFFFFFFF (wholeOf q).toNat

/-- Block 0x06 (R161), its RC fields apart. -/
def word06 (s : State) (a : Nat) : Nat :=
  match a with
  | 0x060000 => hoStatus s
  | 0x060001 => fitU 32 (timerShown s)
  | 0x060002 => nsReg s.ho.e
  | 0x060003 => fitU 32 s.ho.elapsed
  | 0x060004 => regS 32 (modelRate s * 1000)
  | 0x060005 => regS 32 (s.ho.a * 86400000)
  | 0x060006 => regU 32 (s.ho.sy * 1000)
  | 0x060007 => if s.ho.st = 0 then 0 else regU 32 (s.ho.f * 1000)
  | 0x060008 => fitU 32 s.ho.age
  | 0x060009 => nsReg s.ho.entryErr
  | 0x06000A => flgs fun n : Fin 13 => (s.refs[n]).held
  | 0x06000B => fld 0 2 s.ho.integrityCause
  | _ => 0

/-- The position of POS_X_CM to POS_Z_CM (R192): held, or surveyed so far, in mm. -/
def shownPosition (s : State) : Int × Int × Int := s.gnss.held.getD (surveyMean s.gnss)

/-- Block 0x07 (R192), its RC fields apart. -/
def word07 (s : State) (a : Nat) : Nat :=
  match a with
  | 0x070000 => gnssStatus s
  | 0x070001 => satCounts s
  | 0x070002 => fitS 32 (clamp31 (wholeOf (inPs s.gnss.clockBias)))
  | 0x070003 => fitU 32 s.gnss.rmsPs
  | 0x070004 => fitU 16 s.gnss.week
  | 0x070005 => fitU 32 s.gnss.towMs
  | 0x070006 => regS 32 (((shownPosition s).1 : Rat) / 10)
  | 0x070007 => regS 32 (((shownPosition s).2.1 : Rat) / 10)
  | 0x070008 => regS 32 (((shownPosition s).2.2 : Rat) / 10)
  | 0x070009 => fitU 32 s.gnss.surveyN
  | 0x07000A => regU 32 (sqrtOf (surveySeSq s.gnss))
  | 0x07000B => fitS 16 s.gnss.jamLevel
  | 0x07000C => fitU 32 (sleepRemaining s)
  | 0x07000D => fitU 32 s.gnss.startTimeMs
  | 0x070100 => fld 0 16 s.gnss.navHead
  | _ =>
    match idx 32 0x070020 a, idx 32 0x070040 a, idx 32 0x070060 a with
    | some n, _, _ => chanStatus s n
    | _, some n, _ => regS 32 (inPs (s.gnss.chan[n]).resid)
    | _, _, some n => fld 0 16 (fitS 16 (s.gnss.chan[n]).doppResid) + fld 16 16 (fitU 16 (s.gnss.chan[n]).metric)
    | _, _, _ =>
      if 0x071000 ≤ a ∧ a < 0x071400 then ringWord 512 2 0x071000 s.gnss.navHead [0x7FFFFFFF] navWords s.gnss.navRing a else 0

/-- Block 0x08 (R214), its RC fields apart. -/
def word08 (s : State) (a : Nat) : Nat :=
  match a with
  | 0x080000 => icStatus s
  | 0x080001 => lo32 s.ic.windowSeq
  | 0x080002 => cellMap s
  | 0x080003 => cellStatus s
  | 0x080004 => fld 0 16 s.ic.head
  | _ =>
    match idx 12 0x080010 a, idx 8 0x080020 a, idx 16 0x080030 a, idx 8 0x080040 a with
    | some c, _, _, _ => fitU 20 s.ic.calFs[c]
    | _, some n, _, _ => stopStatus s n
    | _, _, some k, _ => hiLo k.val (fitS 64 (s.ic.stop[k.val / 2]'(by omega)).freqResult)
    | _, _, _, some n => min 0xFFFFFFFF (s.ic.stop[n]).freqErr
    | _, _, _, _ =>
      if 0x088000 ≤ a ∧ a < 0x08C000 then ringWord 2048 8 0x088000 s.ic.head [0x0FFFFFFF, 0xFFFF] captureWords s.ic.ring a else 0

/-- Block 0x09 (R234), its RC fields apart. -/
def word09 (s : State) (a : Nat) : Nat :=
  match a with
  | 0x09001B => flg 0 (gclkoRunning s) + flg 1 (todActive s)
  | _ =>
    match idx 4 0x090000 a, idx 4 0x090004 a, idx 4 0x090008 a, idx 4 0x09000C a, idx 2 0x090018 a with
    | some n, _, _, _, _ => ppsStatus s.outs.pps[n]
    | _, some n, _, _, _ => fld 0 16 (hi32 ((s.outs.pps[n]).next.getD 0 / 1000000000))
    | _, _, some n, _, _ => lo32 ((s.outs.pps[n]).next.getD 0 / 1000000000)
    | _, _, _, some n, _ => (s.outs.pps[n]).next.getD 0 % 1000000000
    | _, _, _, _, some n => clkStatus s.outs.clk[n]
    | _, _, _, _, _ => 0

/-- The port an address of R269 or R298 belongs to: the `Pn` registers, eight to a row. -/
def portOfAddr (a : Nat) : Option (Fin 8) :=
  if (0x0A0010 ≤ a ∧ a < 0x0A00A0) ∨ (0x0B0070 ≤ a ∧ a < 0x0B00A0) then some (Fin.ofNat 8 (a % 8)) else none

/-- The register is one of a port that does not exist, and reads zero (R269, R298). -/
def absentPort (s : State) (a : Nat) : Bool := (portOfAddr a).any fun p => !portPresent s p

/-- Block 0x0A (R269), its RC fields apart. -/
def word0A (s : State) (a : Nat) : Nat :=
  match a with
  | 0x0A0000 => portsStatus s
  | 0x0A0001 => hopperFree s
  | 0x0A0002 => 0
  | 0x0A0003 => reserveOf s 2
  | 0x0A0005 => eqStatus s
  | _ =>
    match idx 8 0x0A0010 a, idx 8 0x0A0018 a, idx 8 0x0A0020 a, idx 8 0x0A0098 a with
    | some p, _, _, _ => portStatus s p
    | _, some p, _, _ => fitS 32 (latRx s p)
    | _, _, some p, _ => fitS 32 (latTx s p)
    | _, _, _, some p => fld 0 8 (s.ports[p]).refuseCause
    | _, _, _, _ => 0

/-- Block 0x0B (R298), its RC fields apart. -/
def word0B (s : State) (a : Nat) : Nat :=
  match a with
  | 0x0B0000 => coreStatus s
  | 0x0B0001 => fitU 16 s.weir.capacity
  | 0x0B0002 => msusTick s.weir.lastDone
  | 0x0B0003 => msusTick s.weir.lastDonePrec
  | 0x0B0004 => fld 0 13 (parked s)
  | _ =>
    match idx 40 0x0B0010 a, idx 48 0x0B0040 a, idx 8 0x0B0070 a, idx 8 0x0B0078 a with
    | some m, _, _, _ => msStatus s.core.ms[m]
    | _, some b, _, _ => bankStatus s.garner.bank[b]
    | _, _, some p, _ => bookAhead s p
    | _, _, _, some p => precShare s p
    | _, _, _, _ => 0

/-- Block 0x0C (R329), its RC fields apart. -/
def word0C (s : State) (a : Nat) : Nat :=
  match a with
  | 0x0C0000 => ntpStatus s
  | 0x0C0001 => lo32 s.ntp.advRefid
  | 0x0C0002 => lo32 s.ntp.advRootDelay
  | 0x0C0003 => lo32 s.ntp.advRootDisp
  | 0x0C0004 => hi32 s.ntp.advRefTs
  | 0x0C0005 => lo32 s.ntp.advRefTs
  | _ =>
    match idx 64 0x0C0100 a with
    | some n => keyStatus s n
    | none => 0

/-- Block 0x0D (R365), its RC fields apart. -/
def word0D (s : State) (a : Nat) : Nat :=
  let client (i : Fin 2) (k : Nat) : Nat :=
    let c := s.cli[i]
    match k with
    | 0 => clientStatus s i
    | 1 => ((bestAnnounce c).map fun m => hi32 m.clockId).getD (openBits a 32)
    | 2 => ((bestAnnounce c).map fun m => lo32 m.clockId).getD (openBits a 32)
    | 3 => regS 32 (inPs c.mpd)
    | 4 => regS 32 (inPs c.offset)
    | 5 => regS 32 (c.watch.delayStep / (unitsPerNs : Nat))
    | 6 => regS 32 (c.watch.asymEst / (unitsPerNs : Nat))
    | _ => 0
  match a with
  | 0x0D0000 => ptpStatus s
  | 0x0D0001 => fld 0 21 (grantsActive s)
  | 0x0D0002 => regU 32 ((totalSu s : Rat) / 4)
  | 0x0D0003 => regU 32 ((precSu s : Rat) / 4)
  | 0x0D0004 => fld 0 13 s.garner.nhMac.length
  | 0x0D0012 => regS 32 (inPs s.ntp.ptpDiff)
  | _ =>
    match idx 8 0x0D0020 a, idx 7 0x0D0100 a, idx 7 0x0D0110 a with
    | some p, _, _ => regU 16 ((precLine s p.val : Rat) * 100000 / ((portRate s p * 1000000000 : Nat) : Rat))
    | _, some k, _ => client 0 k.val
    | _, _, some k => client 1 k.val
    | _, _, _ => 0

/-- Block 0x0E (R389), its RC fields apart. -/
def word0E (s : State) (a : Nat) : Nat :=
  let w := s.weir
  match a with
  | 0x0E0000 => weirStatus s
  | 0x0E0001 => fitU 32 (waitNs s (workAll s))
  | 0x0E0002 => (if w.shedGeneral then msusRate w.rateGeneral else 0) +
      (if w.shedAssured then msusRate w.rateAssured else 0) * 2 ^ 16
  | 0x0E0003 => fitU 16 w.headroom
  | 0x0E0004 => msusTick w.lastOffPrec
  | 0x0E0005 => msusTick w.lastOffAssured
  | 0x0E0006 => msusTick w.lastOffGeneral
  | 0x0E0007 => msusTick w.lastAdmPrec
  | 0x0E0008 => msusTick w.lastAdmAssured
  | 0x0E0009 => msusTick w.lastAdmGeneral
  | _ => 0

/-- Block 0x0F (R416), its RC fields apart. -/
def word0F (s : State) (a : Nat) : Nat :=
  match a with
  | 0x0F0000 => leatStatus s
  | 0x0F0001 => hi32 s.leat.rootId
  | 0x0F0002 => lo32 s.leat.rootId
  | 0x0F0003 => fld 0 16 s.leat.hopsTx
  | 0x0F0004 => lo32 s.leat.accLatTx
  | 0x0F0005 => fld 0 16 s.leat.waveLast
  | 0x0F0006 => fld 0 13 s.core.pendingSpills.length
  | _ =>
    match idx 32 0x0F0010 a, idx 12 0x0F003C a with
    | some k, _ =>
      let n : Fin 4 := Fin.ofNat 4 k.val
      let l := s.leat.link[n]
      match k.val / 4 with
      | 0 => linkStatus s n
      | 1 => hi32 l.nbrId
      | 2 => lo32 l.nbrId
      | 3 => regU 32 (inPs l.delay)
      | 4 => regS 32 (inPs l.offset)
      | 5 => lo32 l.accRx
      | 6 => fld 0 16 ((l.rx.map (·.1.hops)).getD 0)
      | _ => 0
    | _, some k =>
      let n : Fin 4 := Fin.ofNat 4 k.val
      let l := s.leat.link[n]
      match k.val / 4 with
      | 0 => fitU 16 l.suRate
      | 1 => regS 32 (2 * l.watch.asymEst / (unitsPerPs : Nat))
      | _ => regS 32 (l.watch.delayStep / (unitsPerPs : Nat))
    | _, _ => 0

/-- The set a monitor's block shows (R429). -/
def tallyShown (s : State) (n : Fin 24) : TallyAcc :=
  let m := s.tele.monitor[n]
  if (s.cfg.b10.tally[n]).tallyMode then m.live else m.published.getD {}

/-- sum ÷ count, rounded toward zero; 0 without samples (R429). -/
def tallyMean (a : TallyAcc) : Int := if a.count = 0 then 0 else a.sum.tdiv a.count

/-- A word of a monitor's block after its first (R448). -/
def tallyWord (c : TallyAcc) (k : Nat) : Nat :=
  match k with
  | 1 => hi32 c.count
  | 2 => lo32 c.count
  | 3 => hi32 (fitS 64 c.sum)
  | 4 => lo32 (fitS 64 c.sum)
  | 5 => fitS 32 c.min
  | 6 => fitS 32 c.max
  | 7 => fitS 32 (tallyMean c)
  | 8 => c.neg
  | k => if 0x40 ≤ k then cntGet (k - 0x40) c.bins else 0

/-- A ledger of a Millstone, its time brought up to now, in ns modulo 2⁴⁸ (R431, R432). -/
def ledgerNs (s : State) (m : Fin 40) (k : Fin 8) : Nat := (((chargeMs m s).core.ms[m]).ledger[k]) / clkPerNs % 2 ^ 48

/-- `SMPn_REMAIN` (R435): the count as it stands now. -/
def remainNow (s : State) (n : Fin 16) : Nat := ((countIdle s).tele.sampler[n]).remain

/-- Block 0x10 (R448), its RC fields apart. -/
def word10 (s : State) (a : Nat) : Nat :=
  match a with
  | 0x100000 => flg 0 s.rep.attnLow + flg 1 (telemActive s)
  | 0x100001 => s.rep.attnPending
  | 0x100002 => fld 0 16 s.rep.evHead
  | 0x100003 => fld 0 16 s.tele.smpHead
  | 0x100004 => lo32 s.tele.telemSeq
  | _ =>
    match idx 16 0x100010 a, idx 640 0x100100 a, idx 3072 0x101000 a with
    | some n, _, _ => if (s.cfg.b10.sampler[n]).smpSrc = 0 then 0 else lo32 (remainNow s n)
    | _, some k, _ => hiLo k.val (ledgerNs s (Fin.ofNat 40 (k.val / 16)) (Fin.ofNat 8 (k.val % 16 / 2)))
    | _, _, some k =>
      let n : Fin 24 := Fin.ofNat 24 (k.val / 128)
      if k.val % 128 = 0 then tallyStatus s n else tallyWord (tallyShown s n) (k.val % 128)
    | _, _, _ =>
      if 0x104000 ≤ a ∧ a < 0x105000 then ringWord 1024 4 0x104000 s.rep.evHead [0xFFFFFFFF, 0x0FFFFFFF] eventWords s.rep.ring a
      else if 0x108000 ≤ a ∧ a < 0x10A000 then ringWord 1024 8 0x108000 s.tele.smpHead sampleFields sampleWords s.tele.smpRing a
      else 0

/-- Block 0x11 (R465), its RC fields apart. -/
def word11 (s : State) (a : Nat) : Nat :=
  match a with
  | 0x110000 => dressStatus s
  | 0x110001 => fitU 32 s.dress.stressAge.floor.toNat
  | 0x110002 => fitU 16 (s.dress.stressAge * 1000 / 175320).floor.toNat
  | _ =>
    match idx 12 0x110010 a, idx 40 0x110020 a, idx 4 0x110048 a, idx 4 0x11004C a, idx 12 0x1100A0 a with
    | some k, _, _, _, _ => fld 0 16 (reserveOf s k) + fld 16 8 (reservePct s k)
    | _, some m, _, _, _ => fld 0 16 (fitU 16 s.dress.canaryMs[m]) + flg 16 (msWorn s m)
    | _, _, some k, _, _ =>
      let p := s.dress.probations[k]
      fld 0 6 ((p.map (·.unit.val)).getD 63) + fld 6 6 ((p.map (·.partner.val)).getD 63) + flg 12 p.isSome
    | _, _, _, some k, _ => fld 0 17 ((s.dress.probations[k].map (·.done)).getD 0)
    | _, _, _, _, some c => fitU 16 s.dress.canaryVc[c]
    | _, _, _, _, _ => 0

/-- Block 0x12 (R490), its RC fields apart. -/
def word12 (s : State) (a : Nat) : Nat :=
  match a with
  | 0x120000 => powerStatus s
  | 0x120001 => fld 0 12 s.pwr.domainOn
  | 0x120002 => fld 0 16 (fitU 16 s.mon.vcore) + fld 16 16 (fitU 16 s.avs.setMv)
  | 0x120003 => fitS 16 s.mon.tjCenti
  | 0x120004 => fld 0 16 (fitU 16 s.mon.vtb) + fld 16 16 (fitU 16 s.mon.vmem)
  | 0x120005 => fld 0 16 (fitU 16 s.mon.vsa) + fld 16 16 (fitU 16 s.mon.vsh)
  | 0x120006 => fld 0 16 (fitU 16 s.mon.vddio) + fld 16 16 (fitU 16 s.mon.vddioB)
  | 0x120007 => fitU 16 s.mon.vbat
  | 0x120008 => fitU 32 s.avs.ioutMa
  | 0x120009 => fld 0 16 s.avs.statusWord
  | 0x12000A => hi32 s.pd0.rtcSec
  | 0x12000B => lo32 s.pd0.rtcSec
  | 0x12000C => match rtcUncUs s with
    | some u => regU 32 u
    | none => 0xFFFFFFFF
  | 0x12000D => fitU 32 s.pwr.retainS
  | 0x12000E => fitU 16 ((kept s.pd0.retainCnt).getD 0)
  | _ => 0

/-- The live value of the word at an address. -/
def liveWord (s : State) (a : Nat) : Nat :=
  if absentPort s a then 0
  else if rcMax a != 0 then cntGet a s.rep.cnt
  else match a / 2 ^ 16 with
    | 0x00 => word00 s a
    | 0x02 => word02 s a
    | 0x03 => word03 s a
    | 0x04 => word04 s a
    | 0x05 => word05 s a
    | 0x06 => word06 s a
    | 0x07 => word07 s a
    | 0x08 => word08 s a
    | 0x09 => word09 s a
    | 0x0A => word0A s a
    | 0x0B => word0B s a
    | 0x0C => word0C s a
    | 0x0D => word0D s a
    | 0x0E => word0E s a
    | 0x0F => word0F s a
    | 0x10 => word10 s a
    | 0x11 => word11 s a
    | 0x12 => word12 s a
    | _ => 0

/-- `n` addresses from `lo`. -/
def span (lo n : Nat) : List Nat := (List.range n).map (lo + ·)

/-- The words a read of an address latches (R82, R108, R142, R161, R188, R192, R205, R214, R234, R329, R365, R389, R416, R422,
R424, R429, R432, R434, R465, R490). -/
def latchedBy (a : Nat) : List Nat :=
  match a with
  | 0x000002 => [0x000003]
  | 0x030001 => span 0x030002 3
  | 0x030008 => [0x030009]
  | 0x060000 => [0x060001, 0x060002, 0x060003, 0x060007]
  | 0x070000 => span 0x070001 5
  | 0x0C0000 => span 0x0C0001 5
  | 0x0D0100 => span 0x0D0101 8
  | 0x0D0110 => span 0x0D0111 8
  | 0x0E0000 => span 0x0E0001 9
  | 0x0F0001 => [0x0F0002]
  | 0x12000A => [0x12000B]
  | _ =>
    if 0x040002 ≤ a ∧ a < 0x040006 then [a + 4]
    else if 0x050010 ≤ a ∧ a < 0x05001D then [a + 0x10, a + 0x20]
    else if 0x071000 ≤ a ∧ a < 0x071400 then (if a % 2 = 0 then [a + 1] else [])
    else if 0x080030 ≤ a ∧ a < 0x080040 then (if a % 2 = 0 then [a + 1, 0x080040 + (a - 0x080030) / 2] else [])
    else if 0x088000 ≤ a ∧ a < 0x08C000 then (if a % 8 = 0 then span (a + 1) 7 else [])
    else if 0x090000 ≤ a ∧ a < 0x090004 then [a + 4, a + 8, a + 12]
    else if 0x0F0014 ≤ a ∧ a < 0x0F0018 then [a + 4]
    else if 0x100100 ≤ a ∧ a < 0x100380 then (if a % 2 = 0 then [a + 1] else [])
    else if 0x101000 ≤ a ∧ a < 0x101C00 then (if a % 128 = 0 then span (a + 1) 127 else [])
    else if 0x104000 ≤ a ∧ a < 0x105000 then (if a % 4 = 0 then span (a + 1) 3 else [])
    else if 0x108000 ≤ a ∧ a < 0x10A000 then (if a % 8 = 0 then span (a + 1) 7 else [])
    else if 0x110048 ≤ a ∧ a < 0x11004C then [a + 4]
    else []

end Sys2Proof.Machine
end

