-- ==== Sys2Proof/Machine/Telemetry.lean ====
section
/-!
DEFINITION. Tally monitors, samplers and the in-band reports (R427 to R439, R442).
-/

namespace Sys2Proof.Machine

/-- TALLY_INTERVAL_END (R429): the completed interval becomes the published set, and accumulation restarts from empty. -/
def execTallyIntervalEnd (dt : Nat) (n : Fin 24) (s : State) : Host.Outcome State Fault Refusal :=
  act dt (fun s =>
    let r := s.cfg.b10.tally[n]
    if r.tallySrc == 0 || r.tallyMode || s.pwr.mode == .retain then s
    else modMonitor n (fun m => { live := {}, published := some m.live, setSeq := (m.setSeq + 1) % 65536 }) s) s

/-- SAMPLER_FIRED (R433): the count has reached zero; the record is queued, and event 0x1003 issued where asked for. -/
def execSamplerFired (dt : Nat) (n : Fin 16) (s : State) : Host.Outcome State Fault Refusal :=
  act dt (fun s =>
    let s := countIdle s
    match (s.tele.sampler[n]).due with
    | [] => s
    | r :: rest =>
      let s := smpQueue r (modSampler n (fun x => { x with due := rest }) s)
      if (s.cfg.b10.sampler[n]).smpAttn then emit 0x1003 s n.val else s) s

/-- SAMPLE_RING_WRITE (R434): the oldest queued record enters the ring; one after a loss issues event 0x1005. -/
def execSampleRingWrite (dt : Nat) (s : State) : Host.Outcome State Fault Refusal :=
  act dt (fun s =>
    match s.tele.smpQueue with
    | [] => s
    | r :: q =>
      let s := modTele (fun t => { t with
        smpQueue := q, smpRing := (r :: t.smpRing).take 1024, smpHead := (t.smpHead + 1) % 65536
        smpUnsent := t.smpUnsent + 1 }) s
      if r.afterLoss then emit 0x1005 s else s) s

/-- TALLY_US_SAMPLE (R427): the microsecond's sample of the Hopper cells in use, or of the queue wait Q. -/
def execTallyUsSample (dt : Nat) (n : Fin 24) (s : State) : Host.Outcome State Fault Refusal :=
  act dt (fun s =>
    let r := s.cfg.b10.tally[n]
    if r.tallySrc == 3 || r.tallySrc == 4 then
      let v : Int := if r.tallySrc == 3 then s.core.cellsUsed else waitNs s (workAll s)
      tallyLimit n v (modMonitor n (fun m => { m with live := tallyAdd r.tallyShift v m.live }) s)
    else s) s

/-- A report being packed (R437): the datagrams full so far, and the one being filled; each with its `TM_GAP`. -/
structure Pack where
  full : List (Bytes × Bool) := []
  cur : Bytes := []
  gap : Bool := false
deriving DecidableEq, Repr

/-- Bytes of sections in a datagram: 1,400 less the header of 32. -/
def packRoom : Nat := 1368

/-- The present datagram is full, and the next begins. -/
def packNext (p : Pack) : Pack := { full := p.full ++ [(p.cur, p.gap)] }

/-- A section's header; `SEC_INST` of a section without an instance the manual leaves open (log entry 16). -/
def secHeader (type : Nat) (inst : Option Nat) (body : Nat) : Bytes :=
  beBytes 1 type ++ beBytes 1 (inst.getD (Config.freeNat 23) % 256) ++ beBytes 2 (body + 4)

/-- A section that is never divided. -/
def packSection (type : Nat) (inst : Option Nat) (body : Bytes) (p : Pack) : Pack :=
  let p := if p.cur.length + 4 + body.length ≤ packRoom then p else packNext p
  { p with cur := p.cur ++ secHeader type inst body.length ++ body }

/-- The records of a stream, as many as the 64 datagrams of a report hold (R437, R438), and the number left over. `gap` is the
`TM_GAP` of the first datagram that carries the stream. -/
def packRecords (type size : Nat) : Nat → Bool → List Bytes → Pack → Pack × Nat
  | 0, _, l, p => (p, l.length)
  | fuel + 1, gap, l, p =>
    if l.isEmpty then (p, 0)
    else
      let k := (packRoom - p.cur.length - 4) / size
      if k = 0 then (if p.full.length + 1 < 64 then packRecords type size fuel gap l (packNext p) else (p, l.length))
      else
        let body := (l.take k).flatten
        packRecords type size fuel false (l.drop k)
          { p with cur := p.cur ++ secHeader type none body.length ++ body, gap := p.gap || gap }

/-- 32-bit words in network order. -/
def wordBytesBe (l : List Nat) : Bytes := l.flatMap (beBytes 4)

/-- The body of the status section (R437). -/
def statusBody (s : State) : Bytes :=
  beBytes 1 (modeCode s.pwr.mode) ++ beBytes 1 ((s.gov.sel.map (·.val)).getD 15) ++
  beBytes 1 (fld 0 4 (selQl s) + fld 4 3 s.ho.st) ++
  beBytes 1 (flg 0 (timeValid s) + flg 1 s.pll.oscFault + flg 2 s.weir.shedGeneral + flg 3 s.weir.shedAssured) ++
  wordBytesBe [liveWord s 0x060001, liveWord s 0x060002, liveWord s 0x050001] ++
  beBytes 2 (liveWord s 0x0B0001) ++ beBytes 2 (liveWord s 0x0B0002) ++ beBytes 4 (liveWord s 0x0E0001) ++
  beBytes 1 (flgs fun p : Fin 8 => (s.ports[p]).link) ++ [0x00#8] ++ beBytes 2 (fitU 16 s.mon.vcore) ++
  beBytes 2 (regS 16 ((s.mon.tjCenti : Rat) / 10)) ++ [0x00#8, 0x00#8]

/-- The body of a Tally summary (R437). -/
def tallyBody (s : State) (n : Fin 24) : Bytes :=
  let a := tallyShown s n
  beBytes 4 (tallyStatus s n) ++ beBytes 8 a.count ++ beBytes 8 (fitS 64 a.sum) ++ beBytes 4 (fitS 32 a.min) ++
  beBytes 4 (fitS 32 a.max) ++ beBytes 4 a.neg

/-- The body of a Tally histogram (R437). -/
def histBody (s : State) (n : Fin 24) : Bytes := wordBytesBe ((List.range 64).map fun b => cntGet b (tallyShown s n).bins)

/-- Sections 1 to 3 of a report (R437). -/
def packFixed (s : State) : Pack :=
  let all := List.finRange 24
  let p := packSection 1 none (statusBody s) {}
  let p := (all.filter fun n => (s.cfg.b10.tally[n]).tallyTx && (s.cfg.b10.tally[n]).tallySrc != 0).foldl
    (fun p n => packSection 2 (some n.val) (tallyBody s n) p) p
  (all.filter fun n => (s.cfg.b10.tally[n]).tallyHistTx && (s.cfg.b10.tally[n]).tallySrc != 0).foldl
    (fun p n => packSection 3 (some n.val) (histBody s n) p) p

/-- A record stream of a report: whether it is sent, its entries since the last report as the ring still holds them, how many
there have been, and the size of its ring. -/
structure Stream where
  on : Bool
  recs : List Bytes
  unsent : Nat
  size : Nat
  gap : Bool

/-- Entries were overwritten before they were sent, or left unsent in a period without a report (R438, R439). -/
def Stream.gapDue (x : Stream) : Bool := x.gap || decide (x.size < x.unsent)

/-- A stream packed: the entries it leaves for the next report, and whether its `TM_GAP` is still owed. -/
def packStream (type width : Nat) (x : Stream) (p : Pack) : Pack × Nat × Bool :=
  if !x.on then (p, 0, false)
  else
    let r := packRecords type width 130 x.gapDue x.recs p
    (r.1, r.2, x.gapDue && r.2 == x.recs.length)

/-- The newest entries of a ring, oldest first, as bytes. -/
def ringBytes {α : Type} (words : α → List Nat) (n : Nat) (ring : List α) : List Bytes :=
  (ring.take n).reverse.map fun e => wordBytesBe (words e)

/-- The header of a datagram (R437). -/
def telemHeader (seq frame : Nat) (last gap : Bool) (start : Units) : Bytes :=
  let t := stampOf start false
  [0x47#8, 0x48#8, 0x54#8, 0x4D#8, 0x01#8] ++ beBytes 1 (flg 0 (frame == 0) + flg 1 last + flg 2 gap) ++ beBytes 2 frame ++
  beBytes 8 ownSerial ++ beBytes 4 seq ++ beBytes 6 t.sec ++ beBytes 4 t.ns ++ beBytes 2 t.frac

/-- The frame of a datagram (R436). The IP fields the manual does not give are open (log entry 16). -/
def telemFrame (s : State) (payload : Bytes) : Frame :=
  let c := s.cfg.b10.telem
  let p : Fin 8 := Fin.ofNat 8 c.telemPort
  let a := (getIndexed c.telemSrcAddrIdx s.cfg.b0A.addr).getD {}
  { len := frameLen true (a.addrVid != 0) a.addrV6 payload.length
    dst := c.telemDstMac
    src := (portCfg s p).portMac
    tags := addrTags a
    etherType := if a.addrV6 then 0x86DD else 0x0800
    ip := some { v6 := a.addrV6, src := addrOf a, dst := addrNat a.addrV6 c.telemCollector, dscp := Config.freeNat 4 % 64,
                 flowLabel := if a.addrV6 then Config.freeNat 5 % 2 ^ 20 else 0 }
    udp := some { srcPort := c.telemUdpPort, dstPort := c.telemUdpPort }
    payload := payload }

/-- The start of the period a report at this boundary describes (R436, R442): the one that has just ended. -/
def periodStart (s : State) : Units :=
  let n := s.cfg.b10.telem.telemPeriod * 1000000
  (((nowNs s / n - 1) * n * unitsPerNs : Nat) : Int)

/-- Entries left unsent by a LOAD or a skipped period owe a gap to their stream (R439). -/
def oweGaps (s : State) : State :=
  let c := s.cfg.b10.telem
  modTele (fun t => { t with
    evGap := t.evGap || (c.telemEvEn && s.rep.unsent != 0)
    smpStreamGap := t.smpStreamGap || (c.telemSmpEn && t.smpUnsent != 0)
    icGap := t.icGap || (c.telemIcEn && t.icUnsent != 0) }) s

/-- A report is built and sent (R436 to R438). -/
def sendReport (s : State) : State :=
  let c := s.cfg.b10.telem
  let p : Fin 8 := Fin.ofNat 8 c.telemPort
  let ev : Stream := { on := c.telemEvEn, recs := ringBytes eventWords s.rep.unsent s.rep.ring, unsent := s.rep.unsent,
                       size := 1024, gap := s.tele.evGap }
  let smp : Stream := { on := c.telemSmpEn, recs := ringBytes sampleWords s.tele.smpUnsent s.tele.smpRing,
                        unsent := s.tele.smpUnsent, size := 1024, gap := s.tele.smpStreamGap }
  let ic : Stream := { on := c.telemIcEn, recs := ringBytes captureWords s.tele.icUnsent s.ic.ring,
                       unsent := s.tele.icUnsent, size := 2048, gap := s.tele.icGap }
  let a := packStream 4 16 ev (packFixed s)
  let b := packStream 5 32 smp a.1
  let d := packStream 6 32 ic b.1
  let grams := (packNext d.1).full
  let start := periodStart s
  let seq := s.tele.telemSeq
  let s := (grams.zipIdx).foldl (fun s g =>
    let f := telemFrame s (telemHeader seq g.2 (g.2 + 1 == grams.length) g.1.2 start ++ g.1.1)
    sendBeside p (framePrio s p f) (some 0x100005) (.frame p f none) s) s
  let s := note (.reported a.2.1) (modTele (fun t => { t with
    smpUnsent := b.2.1, icUnsent := d.2.1, evGap := a.2.2, smpStreamGap := b.2.2, icGap := d.2.2 }) s)
  let left := a.2.1 + b.2.1 + d.2.1
  if left = 0 then s else emitLimited 0x1002 0xFF (countBy 0x100007 left s)

/-- TELEM_REPORT (R436): at a period's boundary its report is built and sent, or skipped where the port is absent or its link is
down. -/
def execTelemReport (dt : Nat) (s : State) : Host.Outcome State Fault Refusal :=
  act dt (fun s =>
    if telemActive s then
      let p : Fin 8 := Fin.ofNat 8 s.cfg.b10.telem.telemPort
      let s := modTele (fun t => { t with telemSeq := (t.telemSeq + 1) % 2 ^ 32 }) s
      if portPresent s p && (s.ports[p]).link then sendReport s
      else oweGaps (emitLimited 0x1001 0xFF (count 0x100006 s))
    else s) s

end Sys2Proof.Machine
end

