-- ==== Sys2Proof/Machine/Apply.lean ====
section
/-!
DEFINITION. The apply tick (R49): every pending set becomes active and the serving half is released. Each block takes its section
as its own chapter says.
-/

namespace Sys2Proof.Machine

/-- A load that ends in ACQUIRE (R21): from RETAIN, from `RESET_N` or from SAFE. -/
def endsInAcquire (k : LoadKind) : Bool := k != .reload

/-- A load at which the Dresser assigns the Millstones anew (R271): from RETAIN or from `RESET_N`. -/
def assignsAnew (k : LoadKind) : Bool := k == .retain || k == .resetN

/-- The loader at the apply tick (R49, R60). -/
def applyLoader (s : State) : State :=
  { s with ld := { s.ld with
      stage := 0
      activeSlot := s.ld.trying
      fallbackUsed := s.ld.second
      sigUnchecked := s.ld.pendUnchecked
      activeSeq := (slotHeader s.ld.trying s.ld).seq
      sectionsActive := s.ld.sectionsPending
      sectionsPending := 0
      loadTimeUs := (s.clk - s.ld.entered) / (1000 * clkPerNs)
      pend := {} } }

/-- The timescale at the apply tick (R55, R72, R78, R79, R134): the step is armed or an armed one cancelled, and the image's offset
and schedule are taken where the image is the source and nothing is frozen. -/
def applyTimescale (k : LoadKind) (sections : Nat) (s : State) : State :=
  let armed := endsInAcquire k || (bitAt sections 3 && s.cfg.b03.timescale.stepAtLoad)
  let s := modTs (fun t => { t with stepArmed := armed }) s
  let s := modGov (fun g => { g with lockAfter := some (64 * s.tb.sec + s.tb.sub / subPerTick) }) s
  if s.ts.utcSource != 0 || s.ts.leapFrozen || imageSchedule s == s.ts.utc then s else acceptSchedule (imageSchedule s) s

/-- The spare as `A3_STANDBY` has it wait (R99, R100, R104). -/
def applyStandby (s : State) : State :=
  match s.pll.spare with
  | none => s
  | some n =>
    let holds := s.pll.tbState == .dcoHold || s.pll.tbState == .freeRun
    if !s.cfg.b04.adpll[3].a3Standby then modPll (modAdpll n fun a => { a with st := .off, windows := 0 }) s
    else if (s.pll.adpll[n]).st != .off then s
    else if holds then modPll (fun p => modAdpll n (fun a => { a with
        st := .dcoHold, windows := 0, tune := (savedWord p .tb).getD (Config.centreWord n.val % 2 ^ 24) }) p) s
    else modPll (startAdpll n .tb) s

/-- The ADPLL that runs at the `CK` ratio acquires again at a changed frequency (R105). -/
def retuneAdpll (n : Fin 4) (s : State) : State :=
  let st := (s.pll.adpll[n]).st
  if st == .locked || st == .qualifying then modPll (modAdpll n fun a => { a with st := .acquiring, windows := 0 }) s else s

/-- A changed `DCO_FREQ_KHZ` (R104, R105): the `CK` role locks anew, and where an image was active before on this timebase its outputs
are muted until then, with event 0x040C. -/
def applyCk (old : Cfg) (fixed : Bool) (s : State) : State :=
  if old.b04.adpll[1].dcoFreqKhz = s.cfg.b04.adpll[1].dcoFreqKhz then s
  else
    let s := retuneAdpll (adpllOf s.pll .ck) s
    let s := match s.pll.incoming with
      | some (.ck, n) => retuneAdpll n s
      | _ => s
    if fixed then emit 0x040C (modPll (fun p => { p with ckRetune := true }) s) else s

/-- The clock block at the apply tick (R50, R104, R105). With the timebase running, an image without section 0x04 leaves the active
OSCIN values (DEDUCED, log entry 92). -/
def applyPll (old : Cfg) (sections : Nat) (s : State) : State :=
  let fixed := s.pll.oscinFixed
  let present := bitAt sections 4 && s.cfg.b04.oscinPresent
  let s := modPll (fun p => { p with
    oscin := if present || !fixed then s.cfg.b04.oscin else p.oscin }) s
  applyCk old fixed (applyStandby s)

/-- The domains an image needs gated or powered by its configuration (R468), with whether it needs each. -/
def domainNeeds (s : State) : List (Nat × Bool) :=
  let g (i : Fin 2) := (s.cfg.b0A.group[i]).groupMode != 0
  [(7, g 0 || g 1), (5, g 0), (6, g 1), (11, s.cfg.b0F.link.toList.any (·.lpEn)), (3, s.cfg.b07.gnss.gnssEnable)]

/-- A domain gated, or its power-up begun (R471, R472). -/
def applyDomain (e : Nat × Bool) (s : State) : State :=
  let p := s.pwr
  if e.2 then
    if bitAt p.domainOn e.1 || p.powering.contains e.1 then s else { s with pwr := { p with powering := p.powering ++ [e.1] } }
  else
    { s with pwr := { p with
        domainOn := clearBit p.domainOn e.1
        lanesCal := clearBit p.lanesCal e.1
        powering := p.powering.filter fun d => d != e.1 } }

/-- The domains at the apply tick. -/
def applyDomains (s : State) : State := (domainNeeds s).foldl (fun s e => applyDomain e s) s

/-- The GNSS baseband at the apply tick; one whose domain is not yet good starts when it is (R472). -/
def applyGnss (old : Cfg) (k : LoadKind) (s : State) : State :=
  let s := gnssApply old.b07 (assignsAnew k) s
  if bitAt s.pwr.domainOn 3 then s else modGnss (fun g => { g with startDue := false }) s

/-- A port at the apply tick (R237, R239, R250, R263, R515): a port that is gone, disabled or in a group whose mode changed loses its
link; pauses no longer obeyed end; its meters start full. -/
def applyPort (old : Cfg) (s : State) (p : Fin 8) : State :=
  let g : Fin 2 := Fin.ofNat 2 (p.val / 4)
  let retrain := (old.b0A.group[g]).groupMode != (s.cfg.b0A.group[g]).groupMode ||
    (old.b0A.group[g]).laneRate != (s.cfg.b0A.group[g]).laneRate
  let c := s.cfg.b0A.port[p]
  let s := if retrain || !c.portEn || !portPresent s p then dropLink p s else s
  let last := lastInForce s p
  modPort p (fun q => { q with
    pause := if c.pauseObey then q.pause else none
    pfc := if c.pfcObey then q.pfc else Vector.replicate 8 none
    lastPause := last
    resp := { level := c.respRate * clkPerSec, asOf := s.clk }
    echo := { level := c.echoRate * clkPerSec, asOf := s.clk }
    line := { level := 19440000, asOf := s.clk } }) s

/-- The addresses this tick binds to a port are announced (R248, R249, R263): an address that was bound there in its VID already is
not. -/
def announceAdded (old : Cfg) (s : State) (p : Fin 8) : State :=
  let had := (old.b0A.addr.filter fun e => bitAt e.2.addrPorts p.val).map fun e => (e.2.addrV6, e.2.addrVid, addrOf e.2)
  announceAddrs p ((boundAddrs s p).filter fun a => !had.contains (a.addrV6, a.addrVid, addrOf a)) s

/-- The level of a KoD budget that starts full (R377, R515): no depth exceeds it. -/
def kodFull : Nat := 2 ^ 18 * 4000 * 121500000

/-- The Weir at the apply tick (R515): both classes `OPEN`, the meters full. -/
def applyWeir (s : State) : State :=
  let s := modWeir (fun w => { w with msCap := msCapNow s }) s
  let r := suRateNow s
  modWeir (fun w => { w with
    shedGeneral := false, shedAssured := false, suRate := r
    su := { level := r * 12150000, asOf := s.clk }
    kod := { level := kodFull, asOf := s.clk } }) s

/-- The Millstones assigned anew (R271), those in service ungated one at a time, 1.5 µs apart (R471, R499). -/
def assignMs (s : State) : State :=
  let good := allMs.filter fun m => !bitAt s.dress.retired[0] m.val
  let n := s.cfg.b0B.core.msInService
  let k := s.cfg.b0B.core.msSpare
  let unit (m : Fin 40) : Millstone :=
    if bitAt s.dress.retired[0] m.val then { st := .retired }
    else
      let i := good.findIdx fun x => x == m
      { st := if i < n then .inService else if i < n + k then .spare else .off, since := s.clk, joinsAt := s.clk + i * 1500 * clkPerNs }
  modCore (fun c => { c with inService := n, spares := k, ms := Vector.ofFn unit }) s

/-- A changed `MS_IN_SERVICE` (R295): the highest-numbered surplus units drain, and the rest is added through probation. -/
def countInService (s : State) : State :=
  let have_ := allMs.filter fun m => (s.core.ms[m]).st == .inService
  let n := s.cfg.b0B.core.msInService
  let extra := (have_.reverse.take (have_.length - n)).map (·.val)
  let unit (m : Fin 40) : Millstone :=
    let x := s.core.ms[m]
    if extra.contains m.val then { x with st := .draining } else x
  let s := modCore (fun c => { c with ms := Vector.ofFn unit }) s
  let gone := (s.dress.toReplace.filter fun u => (s.core.ms[(Fin.ofNat 40 u : Fin 40)]).st == .faulted).take (n - have_.length)
  modDress (fun d => { d with
    toAdd := n - have_.length - gone.length
    toReplace := d.toReplace.filter fun u =>
      gone.contains u || (s.core.ms[(Fin.ofNat 40 u : Fin 40)]).st == .inService }) s

/-- A changed `MS_SPARE` (R271, R295): the lowest-numbered units that are off become spares, and the highest-numbered spares too many
are off. -/
def countSpares (s : State) : State :=
  let spare := allMs.filter fun m => (s.core.ms[m]).st == .spare
  let off := allMs.filter fun m => (s.core.ms[m]).st == .off
  let k := s.cfg.b0B.core.msSpare
  let more := off.take (k - spare.length)
  let fewer := spare.reverse.take (spare.length - k)
  let unit (m : Fin 40) : Millstone :=
    let x := s.core.ms[m]
    if more.contains m then { x with st := .spare } else if fewer.contains m then { x with st := .off } else x
  modCore (fun c => { c with ms := Vector.ofFn unit }) s

/-- The reserve events of the Millstones that a restored count shows as issued before, by the active `MS_SPARE` (R451, R452). -/
def msReserveBefore (s : State) : State :=
  match s.dress.reserveBefore with
  | some n => modDress (fun d => { d with
      lowIssued := d.lowIssued - d.lowIssued % 2 + (if pctOf s.cfg.b0B.core.msSpare n ≤ 25 then 1 else 0)
      exhaustedIssued := d.exhaustedIssued - d.exhaustedIssued % 2 + (if n = 0 then 1 else 0)
      reserveBefore := none }) s
  | none => s

/-- The Millstones at the apply tick (R271, R295, R454, R463): assigned anew, with a new known-answer period, kept, or changed by what the
counts changed; their time runs from now, and probations that were abandoned start again. -/
def applyMs (k : LoadKind) (s : State) : State :=
  if assignsAnew k then
    checkReserve 0 (modDress (fun d => { d with katRan := 0, katSince := s.clk }) (msReserveBefore (assignMs s)))
  else
    let c := s.cfg.b0B.core
    let s := chargeAll s
    let s1 := if c.msInService = s.core.inService then s else countInService s
    let s1 := if c.msSpare = s.core.spares then s1 else countSpares s1
    let s1 := settleProbations (modCore (fun x => { x with
      inService := c.msInService, spares := c.msSpare }) s1)
    reserveMoved 0 s s1

/-- The Garner hash key (R278): the image's, or a fresh draw. -/
def applyHash (s : State) : State :=
  let g := s.cfg.b0B.garner
  if g.hashFixed then modGarner (fun x => { x with hashKey := g.hashKey }) s
  else
    let d := draw 16 s
    modGarner (fun x => { x with hashKey := d.1 }) d.2

/-- A client instance whose identity the new section changes starts anew (R351, R352); else it keeps its delay, its best master and
any quarantine (R360). -/
def applyClient (old : Cfg) (s : State) (i : Fin 2) : State :=
  let a := old.b0D.client[i]
  let b := s.cfg.b0D.client[i]
  let same := a.cEn == b.cEn && a.cProfile == b.cProfile && a.cTransport == b.cTransport && a.cDomain == b.cDomain &&
    a.cPort == b.cPort && a.cAddrIdx == b.cAddrIdx && a.cMasterCnt == b.cMasterCnt && a.cMasterAddr == b.cMasterAddr
  if same then s else modCli i (fun _ => {}) s

/-- The grants a client asks for anew (R57, R352, R354): Announce of every configured master, Sync and Delay_Resp of the best one. -/
def applyAsk (s : State) (i : Fin 2) : State :=
  let s := askAnnounces i s
  match (s.cli[i]).best with
  | some a => if (cliCfg s i).cEn && (cliCfg s i).cProfile == 2 then askGrants i a [0, 9] s else s
  | none => s

/-- A Leat link at the apply tick (R392, R413): a changed `LP_EN` takes it down, and so does `REFUSED`. -/
def applyLink (old : Cfg) (s : State) (n : Fin 4) : State :=
  if (old.b0F.link[n]).lpEn != (leatCfg s n).lpEn || (s.leat.link[n]).st == .refused then linkDown n s else s

/-- A reference slot at the apply tick (R137, R138): disabled, enabled, back from LOAD, or restarted by a change of its source. A slot
of a reload that was in `ELIGIBLE` or `SELECTED` is awaited, and a quarantine its owner keeps stands. `REFn_QL` keeps what it showed
(R116); a release from the return window lasts until the holdover ends (R155). The code heard on the old lane stands after a change
of `SYNCE_LANE`, until a frame on the new one or the time of R116 (DEDUCED, log entry 91). -/
def applySlot (old : Cfg) (k : LoadKind) (s : State) (n : Fin 13) : State :=
  let a := old.b05.slot[n]
  let b := s.cfg.b05.slot[n]
  let changed := decide (n.val ≤ 3) && a.refKind != b.refKind || a.synceLane != b.synceLane || a.refFreqHz != b.refFreqHz
  let kept_ := match refKind s n with
    | .ptp => (s.cli[(Fin.ofNat 2 (n.val - 5))]).frozen
    | .leat => (s.leat.link[(Fin.ofNat 4 (n.val - 7))]).watch.pre.isSome
    | _ => false
  let r := s.refs[n]
  let fresh (st : RefState) (r : RefSlot) : RefSlot :=
    { r with st := st, signal := false, samples := [], jumpRun := 0, partner := none, held := false, awaited := false, delivered := none }
  if !b.refEnable then modRef n (fresh .disabled) s
  else if r.st == .disabled then modRef n (fresh .noSignal) s
  else if r.st == .unavailable then
    if k == .reload && (r.prior == .eligible || r.prior == .selected) then modRef n (fun r => { r with st := r.prior, awaited := true }) s
    else if k == .reload && r.prior == .quarantined && kept_ then modRef n (fun r => { r with st := .quarantined }) s
    else backFromLoad n s
  else if changed && r.st != .noSignal then
    modRef n (fun r => { r with st := .qualifying, samples := [], jumpRun := 0, partner := none, held := false }) s
  else s

/-- The reference slots at the apply tick (R138). -/
def applySlots (old : Cfg) (k : LoadKind) (s : State) : State :=
  let s := allSlots.foldl (fun s n => applySlot old k s n) s
  modGov (fun g => { g with grace := s.refs.toList.any (·.awaited) }) s

/-- Quarantines whose correction the section changes are released (R359, R411). -/
def applyReleases (old : Cfg) (s : State) : State :=
  let s := (List.finRange 2).foldl (fun s i =>
    if (old.b0D.client[i]).asymCorrNs != (cliCfg s i).asymCorrNs then releaseClient i s else s) s
  allLinks.foldl (fun s n =>
    let a := old.b0F.link[n]
    let b := leatCfg s n
    if a.leatAsymWPs != b.leatAsymWPs || a.leatAsymSPs != b.leatAsymSPs then releaseLeat n s else s) s

/-- A Tally interval would be cut short by a start now (R429): now is not one of its boundaries. -/
def insideInterval (s : State) (ms : Nat) : Bool := nowNs s % (max 1 ms * 1000000) != 0

/-- A Tally monitor at the apply tick (R429, R430, R441): one whose record changed restarts with no published set; one of the sources 1
to 4 restarts, its interval in progress published in part. -/
def applyMonitor (old : Cfg) (k : LoadKind) (s : State) (n : Fin 24) : State :=
  let a := old.b10.tally[n]
  let b := s.cfg.b10.tally[n]
  let start : TallyAcc := { isPartial := !b.tallyMode && insideInterval s b.tallyIntervalMs }
  if assignsAnew k || a != b then modMonitor n (fun _ => { live := start }) s
  else if decide (1 ≤ b.tallySrc ∧ b.tallySrc ≤ 4) then
    modMonitor n (fun m =>
      if b.tallyMode then { m with live := {} }
      else { live := start, published := some { m.live with isPartial := true }, setSeq := (m.setSeq + 1) % 65536 }) s
  else s

/-- Telemetry at the apply tick (R433, R439, R441). -/
def applyTele (old : Cfg) (k : LoadKind) (s : State) : State :=
  let s := (List.finRange 24).foldl (fun s n => applyMonitor old k s n) s
  oweGaps (modTele (fun t => { t with sampler := Vector.ofFn fun n => { remain := max 1 (s.cfg.b10.sampler[n]).smpPreset } }) s)

/-- A pulse output at the apply tick (R217 to R219): a changed record replaces the schedule, and after a reset of PD1 every record
starts one. -/
def applyPps (old : Cfg) (s : State) (n : Fin 4) : State :=
  let off := (s.outs.pps[n]).st == .off && (s.cfg.b09.pps[n]).ppsMode != 0
  if old.b09.pps[n] != s.cfg.b09.pps[n] || off then ppsApply n s else s

/-- A clock output at the apply tick (R223): an output that does not run takes its divider at once. -/
def applyClk (s : State) (n : Fin 2) : State :=
  modClk n (fun c => if c.running then c else { c with divAct := (s.cfg.b09.clk[n]).clkDiv }) s

/-- The AVS controller at the apply tick (R481, R487). -/
def applyAvs (first : Bool) (r : AvsTakeover) (s : State) : State :=
  if !(avsCfg s).avsEn then modAvs (fun a => { a with st := .disabled, wanted := none, checkDue := false, atMax := false }) s
  else if first || s.avs.st == .disabled then
    avsTakeover r (modAvs (fun a => { a with st := .awaiting, nakRun := 0 }) s)
  else s

/-- The mode LOAD ends in (R21). -/
def applyMode (k : LoadKind) (s : State) : State :=
  { s with pwr := { s.pwr with mode := if endsInAcquire k then .acquire else s.pwr.modeLeft, applied := true } }

/-- The holdover block at the apply tick (R159), the mode being that in which LOAD ends: in HOLDOVER the timer is set anew by the new
section, whose other values count from the next second; in LOCKED all of them wait for the next model update. -/
def applyHo (sections : Nat) (s : State) : State :=
  let s1 := modHo (fun h => { h with par := s.cfg.b06 }) s
  match s.pwr.mode with
  | .holdover => if s.ho.st = 1 && bitAt sections 6 then modHo (fun h => { h with remaining := timerNow s1 }) s else s
  | .locked => s
  | _ => s1

/-- The half of the device that ran on (R49, R55, R104, R138, R211, R217, R263, R472). -/
def applyTimeHalf (old : Cfg) (k : LoadKind) (sections : Nat) (s : State) : State :=
  let s := applyPll old sections (applyTimescale k sections s)
  let s := applyDomains s
  let s := (List.finRange 8).foldl (fun s p => applyPort old s p) s
  let s := (List.finRange 2).foldl (fun s i => applyClient old s i) s
  let s := allLinks.foldl (fun s n => applyLink old s n) s
  let s := applyReleases old (applySlots old k s)
  let s := icApply old.b08 (applyGnss old k s)
  let s := (List.finRange 2).foldl (fun s n => applyClk s n) s
  { s with pd0 := { s.pd0 with tolPpm := s.cfg.b12.power.rtcTolPpm } }

/-- The serving half released (R49, R271, R278, R316, R323, R515), once the mode has left LOAD. -/
def applyServing (old : Cfg) (k : LoadKind) (s : State) : State :=
  let s := applyWeir (applyHash (applyMs k s))
  let s := evalKeys (endsInAcquire k) s
  let s := refreshClass (refreshNtp s)
  let s := (List.finRange 8).foldl (fun s p => announceAdded old s p) s
  (List.finRange 2).foldl (fun s i => applyAsk s i) s

/-- Step 1 of R125 at the tick that ends LOAD. A load from SAFE before any image was active is a load as from RETAIN (R21, R471). -/
def applyActions (r : AvsTakeover) (s : State) : State :=
  let k := if !s.pwr.applied && s.pwr.loadKind == .safe then .retain else s.pwr.loadKind
  let old := s.cfg
  let sections := s.ld.sectionsPending
  let first := !s.pwr.applied
  let s := applyLoader { s with cfg := comingCfg s }
  let s := applyTimeHalf old k sections (emit 0x0202 s)
  let s := outputsMode (applyHo sections (applyMode k s))
  let s := (List.finRange 4).foldl (fun s n => applyPps old s n) s
  applyAvs first r (applyTele old k (applyServing old k s))

/-- APPLY_TICK (R49, R51, R125): on the first Governor tick after the last section commits, every pending set becomes active and
LOAD ends. The rest of that tick is the GOVERNOR_TICK that follows at the same instant. -/
def execApplyTick (r : AvsTakeover) (s : State) : Host.Outcome State Fault Refusal :=
  actTime 0 (fun s =>
    if s.pwr.mode == .load && s.pwr.resetHeld == .none && s.ld.stage == 4 && s.tb.running then
      inOrder (applyActions r) (advanceTo ((s.tb.lastTick + 1) * subPerTick) s)
    else s) s

end Sys2Proof.Machine
end

