-- ==== Sys2Proof/Machine/Integrity.lean ====
section
/-!
DEFINITION. Step 4 of the Governor tick: the expiry of a holdover, the failures of time integrity, and the move to SAFE (R125, R136, R152,
R158).
-/

namespace Sys2Proof.Machine

/-- A cause of R158 holds now; in RETAIN there is none (R21). -/
def hoFails (s : State) (cause : Nat) : Bool :=
  let lim := s.cfg.b05.fantail.integrityLimitNs
  s.pwr.mode != .retain && lim != 0 && decide (1 ≤ s.ho.st) &&
    ((cause == 1 && s.ho.par.hoExhaustSafe && decide ((lim : Rat) < s.ho.e)) ||
     (cause == 2 && decide (3600 < dcoHoldSec s)))

/-- A failure of R158 reported. The cause stands until PD2 starts again (DEDUCED, log entry 94). -/
def reportHoFailure (cause : Nat) (s : State) : State := emit 0x0606 (modHo (fun h => { h with integrityCause := cause }) s)

/-- INTEGRITY_FAILURE (R136): a time-integrity failure moves the device to SAFE, with its cause. A failure of R158 that holds on
the same tick is reported after it, cause 1 where both of R158 hold (DESIGN CHOICE, log entry 94). The event names the
slots concerned: of cause 1 the first two that agree, of cause 2 the selected one (log entry 73). -/
def execIntegrityFailure (dt cause : Nat) (s : State) : Host.Outcome State Fault Refusal :=
  act dt (fun s =>
    let s := disputesFirst s
    let holds := s.pwr.mode != .retain && s.cfg.b05.fantail.integrityLimitNs != 0 &&
      ((cause == 1 && timeHeld s && timescaleOutvoted s) || (cause == 2 && govMode s == .locked && untrackable s))
    if holds then
      let named := if cause == 1 then agreeingOff s else s.gov.sel.map fun n => (n.val, 0xFF)
      let s := emit 0x050C (modGov (fun g => { g with integrityCause := cause }) s) ((named.map (·.1)).getD 0xFF)
        ((named.map (·.2)).getD 0xFF)
      enterSafe (if hoFails s 1 then reportHoFailure 1 s else if hoFails s 2 then reportHoFailure 2 s else s)
    else s) s

/-- HOLDOVER_EXPIRED (R152, R153): E exceeds `HO_BUDGET_NS` at a second marker; the expired state is set by the category of
F. -/
def execHoldoverExpired (dt : Nat) (s : State) : Host.Outcome State Fault Refusal :=
  act dt (fun s =>
    let s := disputesFirst s
    if s.ho.st == 1 && decide (((s.ho.par.hoBudgetNs : Nat) : Rat) < s.ho.e) then
      outputsMode (emit 0x0602 (modHo (fun h => { h with st := category s, remaining := 0 }) s))
    else s) s

/-- HO_INTEGRITY_FAILURE (R158): a failure detected in holdover moves the device to SAFE, with its cause. -/
def execHoIntegrityFailure (dt cause : Nat) (s : State) : Host.Outcome State Fault Refusal :=
  act dt (fun s =>
    let s := disputesFirst s
    if hoFails s cause then enterSafe (reportHoFailure cause s) else s) s

end Sys2Proof.Machine
end

