-- ==== Sys2Proof/Machine/Window.lean ====
section
/-!
DEFINITION. The Window (R418 to R421, R425). The words of one transaction are all captured at the command's instant (log entry
25).
-/

namespace Sys2Proof.Machine

/-- The Window answers (R418): from LOAD entry until RETAIN, and not while `RESET_N` is low. -/
def windowAnswers (s : State) : Bool := s.pwr.mode != .retain && s.pwr.resetHeld == .none

/-- The state with what has been noted so far reported, as a read sees it. -/
def settled (s : State) : State := { s with rep := applyNotes s.notes s.rep }

/-- The word captured at an address (R420, R421): a latched value, or the live one. -/
def capture (s : State) (a : Nat) : Nat := (getIndexed a s.tele.latches).getD (liveWord (settled s) a)

/-- On the capture edge of a latching word its latches are loaded (R420). -/
def loadLatches (a : Nat) (s : State) : State :=
  modTele (fun t => { t with latches := (latchedBy a).foldl (fun l b => putIndexed b (liveWord (settled s) b) l) t.latches }) s

/-- A latched word of the timescale is given up when it is read (R82); every other keeps its value until its latching word is read again
(R421), one that the read clears among them: the clear acts on the live field alone (DEDUCED, log entry 101). -/
def givesUpLatch (a : Nat) : Bool := a / 2 ^ 16 == 0x03

/-- The 32nd bit of a word has been sampled (R420): an RC field loses the captured value. -/
def wordDone (a v : Nat) (s : State) : State :=
  let s := if givesUpLatch a then modTele (fun t => { t with latches := t.latches.filter fun e => e.1 != a }) s else s
  if a = 0x100001 then note (.attnTaken v) s
  else if rcMax a != 0 then note (.taken a v) s
  else s

/-- A transaction's words from an address, the last one cut off before its 32nd bit where `cut` (R419, R420): the words
captured whole, and the state after. -/
def readWords (cut : Bool) : Nat → Nat → State → List (BitVec 32) × State
  | 0, _, s => ([], s)
  | n + 1, a, s =>
    let v := capture s a
    let s := loadLatches a s
    if cut && n == 0 then ([], s)
    else
      let r := readWords cut n ((a + 1) % 2 ^ 24) (wordDone a v s)
      (BitVec.ofNat 32 v :: r.1, r.2)

/-- Words as they appear on `WIN_MISO`, each most significant byte first (R8). -/
def misoBytes (ws : List (BitVec 32)) : Bytes :=
  ws.flatMap fun w => [w.extractLsb' 24 8, w.extractLsb' 16 8, w.extractLsb' 8 8, w.extractLsb' 0 8]

/-- The Window shifts words out. -/
def shiftOut (r : List (BitVec 32) × State) : State := { r.2 with out := r.2.out ++ [.window (misoBytes r.1)] }

/-- WINDOW_READ (R419, R420). -/
def execWindowRead (dt : Nat) (addr : BitVec 24) (words : Nat) (lastCut : Bool) (s : State) : Host.Outcome State Fault Refusal :=
  act dt (fun s => if windowAnswers s then shiftOut (readWords lastCut words addr.toNat s) else s) s

/-- WINDOW_READ_ID (R419): `DEVICE_ID` and the word at 0x00_0001, repeated. -/
def execWindowReadId (dt words : Nat) (s : State) : Host.Outcome State Fault Refusal :=
  act dt (fun s =>
    if windowAnswers s then
      shiftOut ((List.range words).map fun k => BitVec.ofNat 32 (liveWord s (k % 2)), s)
    else s) s

/-- WINDOW_UNKNOWN_OPCODE (R419): the rest of the transaction is ignored. -/
def execWindowUnknownOpcode (dt : Nat) (_ : Byte) (s : State) : Host.Outcome State Fault Refusal := act dt (fun s => s) s

/-- One word read by itself. -/
def readOne (a : Nat) (complete : Bool) (s : State) : State := shiftOut (readWords (!complete) 1 a s)

/-- RC_FIELD_READ (R10, R420): the captured value is returned and, when the 32nd bit is sampled, subtracted. -/
def execRcFieldRead (dt : Nat) (addr : BitVec 24) (complete : Bool) (s : State) : Host.Outcome State Fault Refusal :=
  act dt (fun s =>
    if windowAnswers s && (rcMax addr.toNat != 0 || addr == 0x100001#24) then readOne addr.toNat complete s else s) s

/-- LATCHING_READ (R420, R421): the capture edge loads the latches of the word's associated words. -/
def execLatchingRead (dt : Nat) (addr : BitVec 24) (complete : Bool) (s : State) : Host.Outcome State Fault Refusal :=
  act dt (fun s => if windowAnswers s && !(latchedBy addr.toNat).isEmpty then readOne addr.toNat complete s else s) s

/-- ATTN_PENDING_READ (R425): the captured value is subtracted, and `ATTN_N` is released when that leaves zero. -/
def execAttnPendingRead (dt : Nat) (complete : Bool) (s : State) : Host.Outcome State Fault Refusal :=
  act dt (fun s => if windowAnswers s then readOne 0x100001 complete s else s) s

end Sys2Proof.Machine
end

