-- ==== Sys2Proof/Machine/Dispatch.lean ====
section
/-!
DEFINITION. One arm for each command of Instr: a direct call of its meaning, which works on everything but the queue.
-/

namespace Sys2Proof.Machine

/-- The effect of a command. -/
def exec (i : Instr) (s : State) : Host.Outcome State Fault Refusal :=
  match i with
  | .powerOn onVddio => Sys2Proof.Machine.execPowerOn onVddio s
  | .retainExit rtcCycles damaged => Sys2Proof.Machine.execRetainExit rtcCycles damaged s
  | .retainEntry dt cause rtcCycles => Sys2Proof.Machine.execRetainEntry dt cause rtcCycles s
  | .warmReset dt => Sys2Proof.Machine.execWarmReset dt s
  | .coldReset dt => Sys2Proof.Machine.execColdReset dt s
  | .resetRelease dt rtcCycles damaged => Sys2Proof.Machine.execResetRelease dt rtcCycles damaged s
  | .reload dt => Sys2Proof.Machine.execReload dt s
  | .tapReset dt => Sys2Proof.Machine.execTapReset dt s
  | .pd0SupplyChangeover dt toVddio => Sys2Proof.Machine.execPd0SupplyChangeover dt toVddio s
  | .domainPowerGood dt rtcCycles pd => Sys2Proof.Machine.execDomainPowerGood dt rtcCycles pd s
  | .nvmWakeDone dt jedec0 jedec1 hdrA hdrB => Sys2Proof.Machine.execNvmWakeDone dt jedec0 jedec1 hdrA hdrB s
  | .verificationPassDone dt hdr body trailer => Sys2Proof.Machine.execVerificationPassDone dt hdr body trailer s
  | .signatureVerified dt => Sys2Proof.Machine.execSignatureVerified dt s
  | .parseRecord dt record => Sys2Proof.Machine.execParseRecord dt record s
  | .sectionEndRecord dt record => Sys2Proof.Machine.execSectionEndRecord dt record s
  | .parsePassDone dt => Sys2Proof.Machine.execParsePassDone dt s
  | .applyTick avs => Sys2Proof.Machine.execApplyTick avs s
  | .otpProgram dt word data => Sys2Proof.Machine.execOtpProgram dt word data s
  | .otpRead dt word => Sys2Proof.Machine.execOtpRead dt word s
  | .otpKcv dt => Sys2Proof.Machine.execOtpKcv dt s
  | .otpLock dt => Sys2Proof.Machine.execOtpLock dt s
  | .windowRead dt addr words lastCut => Sys2Proof.Machine.execWindowRead dt addr words lastCut s
  | .windowReadId dt words => Sys2Proof.Machine.execWindowReadId dt words s
  | .windowUnknownOpcode dt opcode => Sys2Proof.Machine.execWindowUnknownOpcode dt opcode s
  | .rcFieldRead dt addr complete => Sys2Proof.Machine.execRcFieldRead dt addr complete s
  | .latchingRead dt addr complete => Sys2Proof.Machine.execLatchingRead dt addr complete s
  | .attnPendingRead dt complete => Sys2Proof.Machine.execAttnPendingRead dt complete s
  | .secondMarker rtcCycles => Sys2Proof.Machine.execSecondMarker rtcCycles s
  | .governorTick msRates ioutMa voutAcked => Sys2Proof.Machine.execGovernorTick msRates ioutMa voutAcked s
  | .adpllWindowEnd dt n count phaseErrPs meanTune => Sys2Proof.Machine.execAdpllWindowEnd dt n count phaseErrPs meanTune s
  | .adpllFastUnlock dt n => Sys2Proof.Machine.execAdpllFastUnlock dt n s
  | .adpllAcquisitionDone dt n => Sys2Proof.Machine.execAdpllAcquisitionDone dt n s
  | .spareTakeover dt => Sys2Proof.Machine.execSpareTakeover dt s
  | .adpllRetry dt n => Sys2Proof.Machine.execAdpllRetry dt n s
  | .oscinLost dt => Sys2Proof.Machine.execOscinLost dt s
  | .oscinRestored dt => Sys2Proof.Machine.execOscinRestored dt s
  | .oscinRestoreTimeout dt n => Sys2Proof.Machine.execOscinRestoreTimeout dt n s
  | .oscinDetect dt cycles rtcRunning => Sys2Proof.Machine.execOscinDetect dt cycles rtcRunning s
  | .refPhaseSample dt slot meas => Sys2Proof.Machine.execRefPhaseSample dt slot meas s
  | .refSignalLoss dt slot => Sys2Proof.Machine.execRefSignalLoss dt slot s
  | .refQualified dt slot => Sys2Proof.Machine.execRefQualified dt slot s
  | .wtrExpiry dt slot => Sys2Proof.Machine.execWtrExpiry dt slot s
  | .refDisagree dt a b => Sys2Proof.Machine.execRefDisagree dt a b s
  | .refRestoredAgreement dt slot => Sys2Proof.Machine.execRefRestoredAgreement dt slot s
  | .integrityFailure dt cause => Sys2Proof.Machine.execIntegrityFailure dt cause s
  | .graceExpiry dt => Sys2Proof.Machine.execGraceExpiry dt s
  | .esmcRx dt slot ssm tlv => Sys2Proof.Machine.execEsmcRx dt slot ssm tlv s
  | .esmcTimeout dt slot => Sys2Proof.Machine.execEsmcTimeout dt slot s
  | .holdoverExpired dt => Sys2Proof.Machine.execHoldoverExpired dt s
  | .hoIntegrityFailure dt cause => Sys2Proof.Machine.execHoIntegrityFailure dt cause s
  | .returnCorroborated dt a b => Sys2Proof.Machine.execReturnCorroborated dt a b s
  | .gnssStart dt facts => Sys2Proof.Machine.execGnssStart dt facts s
  | .sampleLoss dt => Sys2Proof.Machine.execSampleLoss dt s
  | .sampleLossCleared dt => Sys2Proof.Machine.execSampleLossCleared dt s
  | .antFault held => Sys2Proof.Machine.execAntFault held s
  | .antFaultCleared held => Sys2Proof.Machine.execAntFaultCleared held s
  | .satAcquired dt chan found => Sys2Proof.Machine.execSatAcquired dt chan found s
  | .navWord dt chan word parityOk subframe wordNum tow utc => Sys2Proof.Machine.execNavWord dt chan word parityOk subframe wordNum tow utc s
  | .navFix dt x y z => Sys2Proof.Machine.execNavFix dt x y z s
  | .timingSolution dt week towMs sats epoch => Sys2Proof.Machine.execTimingSolution dt week towMs sats epoch s
  | .shadowVisit dt chan tracked peakHalfChips belowDb => Sys2Proof.Machine.execShadowVisit dt chan tracked peakHalfChips belowDb s
  | .satReadmitted dt chan => Sys2Proof.Machine.execSatReadmitted dt chan s
  | .spoofSuspect dt rise => Sys2Proof.Machine.execSpoofSuspect dt rise s
  | .jamming dt rise => Sys2Proof.Machine.execJamming dt rise s
  | .xcheckFail dt rise => Sys2Proof.Machine.execXcheckFail dt rise s
  | .gnssSleep dt => Sys2Proof.Machine.execGnssSleep dt s
  | .gnssWake dt => Sys2Proof.Machine.execGnssWake dt s
  | .icStartEdge dt fine => Sys2Proof.Machine.execIcStartEdge dt fine s
  | .icStopEdge dt ch fine startFirst => Sys2Proof.Machine.execIcStopEdge dt ch fine startFirst s
  | .icConversionDone dt cell => Sys2Proof.Machine.execIcConversionDone dt cell s
  | .icWindowTimeout dt => Sys2Proof.Machine.execIcWindowTimeout dt s
  | .vcCalibration dt cell stepFs => Sys2Proof.Machine.execVcCalibration dt cell stepFs s
  | .icGateEnd dt ch => Sys2Proof.Machine.execIcGateEnd dt ch s
  | .icFreqResult dt ch => Sys2Proof.Machine.execIcFreqResult dt ch s
  | .icRingWrite dt => Sys2Proof.Machine.execIcRingWrite dt s
  | .icCellSwap dt ch => Sys2Proof.Machine.execIcCellSwap dt ch s
  | .ppsEdge dt n => Sys2Proof.Machine.execPpsEdge dt n s
  | .ppsFall dt n => Sys2Proof.Machine.execPpsFall dt n s
  | .clkDivChange dt n => Sys2Proof.Machine.execClkDivChange dt n s
  | .clkRealigned dt n => Sys2Proof.Machine.execClkRealigned dt n s
  | .todSentence dt => Sys2Proof.Machine.execTodSentence dt s
  | .todEchoCheck dt rx => Sys2Proof.Machine.execTodEchoCheck dt rx s
  | .linkUp dt port => Sys2Proof.Machine.execLinkUp dt port s
  | .linkDown dt port => Sys2Proof.Machine.execLinkDown dt port s
  | .frameRefused dt port frame => Sys2Proof.Machine.execFrameRefused dt port frame s
  | .ntpRequest dt port refine frame => Sys2Proof.Machine.execNtpRequest dt port refine frame s
  | .arpRequest dt port frame => Sys2Proof.Machine.execArpRequest dt port frame s
  | .neighbourSolicitation dt port frame => Sys2Proof.Machine.execNeighbourSolicitation dt port frame s
  | .echoRequest dt port frame => Sys2Proof.Machine.execEchoRequest dt port frame s
  | .pauseFrame dt port quanta wellFormed => Sys2Proof.Machine.execPauseFrame dt port quanta wellFormed s
  | .pfcFrame dt port times wellFormed => Sys2Proof.Machine.execPfcFrame dt port times wellFormed s
  | .pauseEnd dt port prio => Sys2Proof.Machine.execPauseEnd dt port prio s
  | .esmcInfoTx dt port => Sys2Proof.Machine.execEsmcInfoTx dt port s
  | .eqSliceSwapped dt group lane probationOk => Sys2Proof.Machine.execEqSliceSwapped dt group lane probationOk s
  | .msTake dt => Sys2Proof.Machine.execMsTake dt s
  | .garnerReadForUpdate dt bank => Sys2Proof.Machine.execGarnerReadForUpdate dt bank s
  | .garnerWriteBeat dt bank => Sys2Proof.Machine.execGarnerWriteBeat dt bank s
  | .hopperCellRead dt arbiter => Sys2Proof.Machine.execHopperCellRead dt arbiter s
  | .msBuildDone dt ms => Sys2Proof.Machine.execMsBuildDone dt ms s
  | .launchCommit dt port grid => Sys2Proof.Machine.execLaunchCommit dt port grid s
  | .commitRetry dt ms => Sys2Proof.Machine.execCommitRetry dt ms s
  | .msFinish dt ms => Sys2Proof.Machine.execMsFinish dt ms s
  | .msDeposit dt port probation => Sys2Proof.Machine.execMsDeposit dt port probation s
  | .launch dt port => Sys2Proof.Machine.execLaunch dt port s
  | .slotMissedLate dt port => Sys2Proof.Machine.execSlotMissedLate dt port s
  | .parkRelease dt port => Sys2Proof.Machine.execParkRelease dt port s
  | .msHung dt ms => Sys2Proof.Machine.execMsHung dt ms s
  | .msFault dt ms => Sys2Proof.Machine.execMsFault dt ms s
  | .spillTimeout dt handle => Sys2Proof.Machine.execSpillTimeout dt handle s
  | .respCreditTimeout dt link => Sys2Proof.Machine.execRespCreditTimeout dt link s
  | .ntsKeyActivated dt slot => Sys2Proof.Machine.execNtsKeyActivated dt slot s
  | .ntsKeyRetired dt slot => Sys2Proof.Machine.execNtsKeyRetired dt slot s
  | .ntpLiChanged dt => Sys2Proof.Machine.execNtpLiChanged dt s
  | .delayReq dt port refine frame => Sys2Proof.Machine.execDelayReq dt port refine frame s
  | .signalingRequest dt port refine frame => Sys2Proof.Machine.execSignalingRequest dt port refine frame s
  | .ptpMessageDropped dt port frame => Sys2Proof.Machine.execPtpMessageDropped dt port frame s
  | .scheduledMessageDue dt src announce => Sys2Proof.Machine.execScheduledMessageDue dt src announce s
  | .grantSweep dt block => Sys2Proof.Machine.execGrantSweep dt block s
  | .nhMacExpiry dt entry => Sys2Proof.Machine.execNhMacExpiry dt entry s
  | .clientAnnounceRx dt inst src msg => Sys2Proof.Machine.execClientAnnounceRx dt inst src msg s
  | .clientSyncRx dt inst src refine msg => Sys2Proof.Machine.execClientSyncRx dt inst src refine msg s
  | .clientFollowUpRx dt inst src msg => Sys2Proof.Machine.execClientFollowUpRx dt inst src msg s
  | .followUpTimeout dt inst => Sys2Proof.Machine.execFollowUpTimeout dt inst s
  | .clientDelayRespRx dt inst src msg => Sys2Proof.Machine.execClientDelayRespRx dt inst src msg s
  | .clientSignalingRx dt inst src msg => Sys2Proof.Machine.execClientSignalingRx dt inst src msg s
  | .clientDelayReqTx dt inst => Sys2Proof.Machine.execClientDelayReqTx dt inst s
  | .clientGrantRenewal dt inst => Sys2Proof.Machine.execClientGrantRenewal dt inst s
  | .clientRequestRetry dt inst => Sys2Proof.Machine.execClientRequestRetry dt inst s
  | .clientNoMaster dt inst => Sys2Proof.Machine.execClientNoMaster dt inst s
  | .xWithholdTimeout dt inst => Sys2Proof.Machine.execXWithholdTimeout dt inst s
  | .asymReleased dt inst => Sys2Proof.Machine.execAsymReleased dt inst s
  | .leatBringupRetry dt link => Sys2Proof.Machine.execLeatBringupRetry dt link s
  | .leatCalibrationDone dt link => Sys2Proof.Machine.execLeatCalibrationDone dt link s
  | .leatBlockLock dt link pairS => Sys2Proof.Machine.execLeatBlockLock dt link pairS s
  | .leatTrainingTimeout dt link => Sys2Proof.Machine.execLeatTrainingTimeout dt link s
  | .leatHelloTx dt link => Sys2Proof.Machine.execLeatHelloTx dt link s
  | .leatHelloRx dt link frame => Sys2Proof.Machine.execLeatHelloRx dt link frame s
  | .leatTimeRx dt link refine frame => Sys2Proof.Machine.execLeatTimeRx dt link refine frame s
  | .leatWaveLaunch dt grid => Sys2Proof.Machine.execLeatWaveLaunch dt grid s
  | .leatWaveForward dt grid => Sys2Proof.Machine.execLeatWaveForward dt grid s
  | .leatNoWave dt grid => Sys2Proof.Machine.execLeatNoWave dt grid s
  | .leatWaveTimeout dt link => Sys2Proof.Machine.execLeatWaveTimeout dt link s
  | .leatLinkTimeout dt link => Sys2Proof.Machine.execLeatLinkTimeout dt link s
  | .leatSwapDecided dt link => Sys2Proof.Machine.execLeatSwapDecided dt link s
  | .leatSwapRx dt link => Sys2Proof.Machine.execLeatSwapRx dt link s
  | .leatSwapTimeout dt link => Sys2Proof.Machine.execLeatSwapTimeout dt link s
  | .leatSpareOk dt link => Sys2Proof.Machine.execLeatSpareOk dt link s
  | .leatSpareCalibration dt link passed => Sys2Proof.Machine.execLeatSpareCalibration dt link passed s
  | .leatCreditRx dt link spillRet respRet suRate => Sys2Proof.Machine.execLeatCreditRx dt link spillRet respRet suRate s
  | .leatCreditTx dt link => Sys2Proof.Machine.execLeatCreditTx dt link s
  | .leatTelemRx dt link frame => Sys2Proof.Machine.execLeatTelemRx dt link frame s
  | .leatSpillRx dt link refine frame => Sys2Proof.Machine.execLeatSpillRx dt link refine frame s
  | .leatRespRx dt link frame => Sys2Proof.Machine.execLeatRespRx dt link frame s
  | .leatBadFrame dt link why => Sys2Proof.Machine.execLeatBadFrame dt link why s
  | .leatLoadIdleRx dt link => Sys2Proof.Machine.execLeatLoadIdleRx dt link s
  | .leatProxyWave dt grid => Sys2Proof.Machine.execLeatProxyWave dt grid s
  | .leatHoldTimeout dt link => Sys2Proof.Machine.execLeatHoldTimeout dt link s
  | .leatAsymReleased dt link => Sys2Proof.Machine.execLeatAsymReleased dt link s
  | .tallyIntervalEnd dt n => Sys2Proof.Machine.execTallyIntervalEnd dt n s
  | .samplerFired dt n => Sys2Proof.Machine.execSamplerFired dt n s
  | .sampleRingWrite dt => Sys2Proof.Machine.execSampleRingWrite dt s
  | .telemReport dt => Sys2Proof.Machine.execTelemReport dt s
  | .wearCheck dt kind checks => Sys2Proof.Machine.execWearCheck dt kind checks s
  | .uncorrectableError dt target => Sys2Proof.Machine.execUncorrectableError dt target s
  | .katRun dt ms agrees => Sys2Proof.Machine.execKatRun dt ms agrees s
  | .katPeriodExpiry dt ms => Sys2Proof.Machine.execKatPeriodExpiry dt ms s
  | .probationPassed dt k => Sys2Proof.Machine.execProbationPassed dt k s
  | .probationKatSupply dt k => Sys2Proof.Machine.execProbationKatSupply dt k s
  | .spareInService dt k => Sys2Proof.Machine.execSpareInService dt k s
  | .msDrained dt ms => Sys2Proof.Machine.execMsDrained dt ms s
  | .garnerMigrationBeat dt beats bad => Sys2Proof.Machine.execGarnerMigrationBeat dt beats bad s
  | .retentionHourlyWrite dt => Sys2Proof.Machine.execRetentionHourlyWrite dt s
  | .avsSettleExpiry dt acked => Sys2Proof.Machine.execAvsSettleExpiry dt acked s
  | .avsVoutCheck dt voutMv => Sys2Proof.Machine.execAvsVoutCheck dt voutMv s
  | .avsAlert dt status => Sys2Proof.Machine.execAvsAlert dt status s
  | .avsTakeoverRetry dt readings => Sys2Proof.Machine.execAvsTakeoverRetry dt readings s
  | .railMonitorSample dt rails tjCenti => Sys2Proof.Machine.execRailMonitorSample dt rails tjCenti s
  | .railOutOfRange dt rail mv => Sys2Proof.Machine.execRailOutOfRange dt rail mv s
  | .rtcCrystalLoss dt => Sys2Proof.Machine.execRtcCrystalLoss dt s
  | .tallyUsSample dt n => Sys2Proof.Machine.execTallyUsSample dt n s
  | .candidateAnnounceTimeout dt inst src => Sys2Proof.Machine.execCandidateAnnounceTimeout dt inst src s
  | .fecUncorrectable dt port => Sys2Proof.Machine.execFecUncorrectable dt port s
  | .otpProgramDone dt => Sys2Proof.Machine.execOtpProgramDone dt s
  | .leatSpareLockTimeout dt link => Sys2Proof.Machine.execLeatSpareLockTimeout dt link s

end Sys2Proof.Machine
end

