-- ==== Sys2Proof/Machine/Balls.lean ====
section
/-!
DEFINITION. The state of every group of balls while the device does not run (19_balls_electrical_ordering.md, R496).
-/

namespace Sys2Proof.Machine

/-- The columns of R496, and the time in which the rules of each signal hold. -/
inductive BallPhase
  | pgoodLow | retain | reset | runs
deriving DecidableEq, Repr

/-- The rows of R496: signals that share one. -/
inductive Ball
  | laneTx | laneRx | oscin | refin | clkout | cmosOut | stat | gfeCs | gfeOut | schmittIn | reloadN | resetN | stbyPgood | attn | avsBus
  | avsAlert | nvm | windowIn | windowMiso | jtagIn | tdo | crystal | diode | sdcal
deriving DecidableEq, Repr

/-- What R496 says of a ball. -/
inductive BallState
  | highImpedance | pulledLow | pulledHigh | heldLow | heldHigh | electricalIdle | driven
  | unterminated | terminated | ignored | sampled | received | released | oscillating | passive | active
  /-- As the rules of the signal say. -/
  | byRule
deriving DecidableEq, Repr

/-- The phase of now (R470, R496): "Reset" is `RESET_N` low, and LOAD from RETAIN or `RESET_N`. -/
def ballPhase (s : State) : BallPhase :=
  if s.pwr.mode == .retain then (if s.pwr.pgoodLow then .pgoodLow else .retain)
  else if s.pwr.resetHeld != .none || (s.pwr.mode == .load && (s.pwr.loadKind == .retain || s.pwr.loadKind == .resetN)) then .reset
  else .runs

/-- The device drives no ball while `PGOOD` is low (R470). -/
def ballPgoodLow (b : Ball) : BallState :=
  match b with
  | .laneTx | .clkout | .gfeOut | .nvm | .windowMiso | .tdo => .highImpedance
  | .cmosOut | .stat => .pulledLow
  | .gfeCs => .pulledHigh
  | .laneRx => .unterminated
  | .oscin | .refin | .schmittIn | .reloadN | .resetN | .avsAlert | .windowIn | .jtagIn => .ignored
  | .stbyPgood => .sampled
  | .attn | .avsBus => .released
  | .crystal => .oscillating
  | .diode | .sdcal => .passive

/-- In RETAIN with `PGOOD` high the outputs are low, and the wake logic samples `RESET_N`. -/
def ballRetain (b : Ball) : BallState :=
  match b with
  | .clkout | .cmosOut | .stat | .gfeOut => .heldLow
  | .gfeCs => .heldHigh
  | .resetN => .sampled
  | .laneTx | .laneRx | .oscin | .refin | .schmittIn | .reloadN | .stbyPgood | .attn | .avsBus | .avsAlert | .nvm | .windowIn
  | .windowMiso | .jtagIn | .tdo | .crystal | .diode | .sdcal => ballPgoodLow b

/-- In reset and in a load from RETAIN or `RESET_N`, where the status balls show the mode LOAD (R20, log entry 85). -/
def ballReset (s : State) (b : Ball) : BallState :=
  match b with
  | .laneTx => .electricalIdle
  | .laneRx => .terminated
  | .oscin => .received
  | .clkout | .cmosOut | .gfeOut => .heldLow
  | .stat => if s.pwr.resetHeld == .none then .byRule else .heldLow
  | .gfeCs => .heldHigh
  | .reloadN | .resetN | .stbyPgood => .sampled
  | .nvm => if nvDriven s then .driven else .highImpedance
  | .windowIn => if s.pwr.resetHeld == .none then .active else .ignored
  | .jtagIn | .sdcal => .active
  | .attn | .windowMiso | .tdo => .byRule
  | .refin | .schmittIn | .avsBus | .avsAlert | .crystal | .diode => ballPgoodLow b

/-- The state of a ball now (R496). -/
def ballState (s : State) (b : Ball) : BallState :=
  match ballPhase s with
  | .pgoodLow => ballPgoodLow b
  | .retain => ballRetain b
  | .reset => ballReset s b
  | .runs => if b = .nvm then (if nvDriven s then .driven else .highImpedance) else .byRule

end Sys2Proof.Machine
end

