-- ==== Sys2Proof/Safety.lean ====
section
/-!
DEFINITION. The terms claims are stated in: the form the report and the Garner keep, the parts of the state, and what a command leaves
as it was.
-/

namespace Sys2Proof.Machine

/-- The keys of a list rise strictly. -/
def rising {α : Type} : List (Nat × α) → Bool
  | [] => true
  | [_] => true
  | a :: b :: r => decide (a.1 < b.1) && rising (b :: r)

/-- The RC counters in their one canonical form (R10): rising addresses, no counter at zero, none above its field's greatest value. -/
def counterWf (l : List (Nat × Nat)) : Bool := rising l && l.all fun e => decide (0 < e.2 ∧ e.2 ≤ rcMax e.1)

/-- What the Window reports keeps its form (R10, R423, R425): the counters canonical, at most 1,024 ring entries, `EV_HEAD` in 16 bits,
`ATTN_PENDING` saturated, and `ATTN_N` low exactly while it is not zero. -/
def Report.wf (r : Report) : Bool :=
  counterWf r.cnt && decide (r.ring.length ≤ 1024) && decide (r.evHead < 65536) && decide (r.attnPending ≤ 0xFFFF) &&
  (r.attnLow == decide (0 < r.attnPending))

/-- The Garner's memory in its one canonical form (R276): records by rising index, none of them the default one. -/
def Memory.wf (g : Garner) : Bool :=
  rising g.rate && rising g.grant && g.rate.all (fun e => e.2 != {}) && g.grant.all fun e => e.2 != {}

/-- The parts of the state a command may leave alone: every field but the queue and the notes of the command under way. What
was put out and its bytes are one part. -/
inductive Part
  | out | clk | tb | ts | pll | cfg | ld | otp | rep | tele | pd0 | avs | mon | pwr | refs | gov | ho | outs | ic | gnss | core
  | garner | ports | weir | ntp | cli | leat | dress
deriving DecidableEq, Repr

/-- A part is the same in two states. -/
def Part.same (p : Part) (s t : State) : Prop :=
  match p with
  | .out => t.out = s.out ∧ t.wire = s.wire
  | .clk => t.clk = s.clk
  | .tb => t.tb = s.tb
  | .ts => t.ts = s.ts
  | .pll => t.pll = s.pll
  | .cfg => t.cfg = s.cfg
  | .ld => t.ld = s.ld
  | .otp => t.otp = s.otp
  | .rep => t.rep = s.rep
  | .tele => t.tele = s.tele
  | .pd0 => t.pd0 = s.pd0
  | .avs => t.avs = s.avs
  | .mon => t.mon = s.mon
  | .pwr => t.pwr = s.pwr
  | .refs => t.refs = s.refs
  | .gov => t.gov = s.gov
  | .ho => t.ho = s.ho
  | .outs => t.outs = s.outs
  | .ic => t.ic = s.ic
  | .gnss => t.gnss = s.gnss
  | .core => t.core = s.core
  | .garner => t.garner = s.garner
  | .ports => t.ports = s.ports
  | .weir => t.weir = s.weir
  | .ntp => t.ntp = s.ntp
  | .cli => t.cli = s.cli
  | .leat => t.leat = s.leat
  | .dress => t.dress = s.dress

/-- Every part but the ones named is the same in two states. -/
def KeepsBut (l : List Part) (s t : State) : Prop := ∀ p, p ∉ l → p.same s t

/-- A command answers a next state of which `P` holds. -/
def Answers (c : Instr) (s : State) (P : State → Prop) : Prop := ∃ t, exec c s = .next t ∧ P t

/-- Beside the time that passed before the command took effect, only the parts named change, and the report gains exactly the notes
given (the newest first) after what the passing of the time noted (R108). -/
def Changes (dt : Nat) (s t : State) (l : List Part) (ns : List Note) : Prop :=
  KeepsBut (.rep :: l) (begin dt s) t ∧ t.rep = applyNotes (ns ++ (begin dt s).notes) s.rep

/-- The same from a state `u` that the command has reached first: beside it only the parts named change, and the notes given come after its
own. -/
def ChangesFrom (u s t : State) (l : List Part) (ns : List Note) : Prop :=
  KeepsBut (.rep :: l) u t ∧ t.rep = applyNotes (ns ++ u.notes) s.rep

/-- The slot being tried fails with a cause (R37, R48), after the notes `ns`: the cause is its slot's, nothing is pending, and event 0x0203 names
it. The other slot is tried where its header passed and it was not tried yet; else the mode is SAFE. -/
def SlotGivesWay (dt : Nat) (s t : State) (cause : Nat) (ns : List Note) : Prop :=
  (if s.ld.trying = .a then t.ld.causeA else t.ld.causeB) = cause ∧ t.ld.sectionsPending = 0 ∧ t.ld.opened = none ∧
  (s.ld.second = false → (slotHeader (otherSlot s.ld.trying) s.ld).cause = 0 →
    t.ld.trying = otherSlot s.ld.trying ∧ t.ld.second = true ∧ t.ld.stage = 2 ∧
    Changes dt s t [.ld, .out] (eventNote 0x0203 (begin dt s) (if s.ld.trying = .a then 0 else 1) :: ns)) ∧
  (s.ld.second = true ∨ (slotHeader (otherSlot s.ld.trying) s.ld).cause ≠ 0 →
    t.pwr.mode = .safe ∧ t.ld.stage = 0 ∧ t.otp = s.otp ∧ t.pd0 = s.pd0 ∧ t.tb = (begin dt s).tb)

/-- No unit waits for a replacement, no spare to be added and no bank to migrate. -/
def NothingWaits (s : State) : Prop := s.dress.toReplace = [] ∧ s.dress.toAdd = 0 ∧ s.dress.toMigrate = []

/-- The GNSS block has become `g`, after the notes `ns`, and its timing state follows the conditions of R185: a change has event 0x0702, the
first state after a start 0x0701 and the start time of R172. Nothing else changes. -/
def TimingFollows (dt : Nat) (s t : State) (g : Gnss) (ns : List Note) : Prop :=
  t.gnss = { g with
    timingState := timingStateNow t
    startAt := if timingStateNow t = 0 then g.startAt else none
    startTimeMs := match g.startAt with
      | some a => if timingStateNow t = 0 then g.startTimeMs else (t.clk - a) / (clkPerSec / 1000) % 2 ^ 32
      | none => g.startTimeMs } ∧
  Changes dt s t [.gnss]
    ((if g.startAt = none ∨ timingStateNow t = 0 then [] else [eventNote 0x0701 (begin dt s)]) ++
     (if timingStateNow t = g.timingState then [] else [eventNote 0x0702 (begin dt s)]) ++ ns)

/-- No edge that waits at the interval counter is settled once the time of a command has passed (R196). -/
def NoneSettled (dt : Nat) (s : State) : Prop := ∀ e ∈ s.ic.line, edgeSettled (begin dt s) e = false

/-- An edge of the start channel, which left its source at `u`, that no other can precede any more: its command has it taken (R196). -/
def StartSettles (dt : Nat) (s : State) (f : Fin 800) (u : Units) : Prop :=
  s.cfg.b08.ic.armMode ≠ 0 ∧ s.ic.startCell ≠ none ∧ s.cfg.b08.ic.startSrc ≠ 12 ∧
  u = edgeTime (begin dt s) s.ic.startCell f - s.cfg.b08.ic.startDelayPs * unitsPerPs ∧ NoneSettled dt s ∧
  u + icLag s ≤ nowUnits (begin dt s)

/-- The same of an edge of an interval-mode stop channel (R196). -/
def StopSettles (dt : Nat) (s : State) (n : Fin 8) (f : Fin 800) (u : Units) : Prop :=
  stopWorks s n = true ∧ (s.cfg.b08.stop[n]).stopMode = 0 ∧ (s.cfg.b08.stop[n]).stopSrc ≠ 12 ∧
  u = edgeTime (begin dt s) (s.ic.stop[n]).cell f - (s.cfg.b08.stop[n]).stopDelayPs * unitsPerPs ∧ NoneSettled dt s ∧
  u + icLag s ≤ nowUnits (begin dt s)

/-- A start at `u` claims the most recent edge of an interval-mode stop channel (R201): it lies at most 3 ps before the start. -/
def claims (s : State) (n : Fin 8) (u : Units) : Bool :=
  stopWorks s n && (s.cfg.b08.stop[n]).stopMode == 0 && (s.ic.stop[n]).recent.any fun e =>
    decide (-((3 * unitsPerPs : Nat) : Int) ≤ e.1 - u ∧ e.1 - u < ((4 * unitsPerNs : Nat) : Int))

/-- A spare vernier cell has been taken into service, after the notes `ns` (R210, R451, R474): the reserve is one less and kept, with its events. -/
def CellTaken (dt : Nat) (s t : State) (ns : List Note) : Prop :=
  reserveOf t 3 + 1 = reserveOf s 3 ∧ t.pd0 = { s.pd0 with maps := keep (mapsOf t) s.pd0.maps } ∧
  t.dress = { s.dress with lowIssued := t.dress.lowIssued, exhaustedIssued := t.dress.exhaustedIssued } ∧
  Changes dt s t [.ic, .dress, .pd0]
    ((if reserveOf t 3 = 0 ∧ bitAt s.dress.exhaustedIssued 3 = false then [eventNote 0x110A (begin dt s) 3] else []) ++
     (if reservePct t 3 ≤ 25 ∧ bitAt s.dress.lowIssued 3 = false then [eventNote 0x1109 (begin dt s) 3] else []) ++ ns)

/-- Reading the words at the addresses `l` takes a report from `r` to `r'` (R10, R420, R425): every counter that was not read, the ring and
what waits to be sent stand, and nothing grows. -/
def OnlyTaken (l : List Nat) (r r' : Report) : Prop :=
  r' = { r with cnt := r'.cnt, attnPending := r'.attnPending, attnLow := r'.attnLow } ∧
  (∀ a, cntGet a r'.cnt ≤ cntGet a r.cnt) ∧ (∀ a, a ∉ l → cntGet a r'.cnt = cntGet a r.cnt) ∧
  r'.attnPending ≤ r.attnPending ∧ (0x100001 ∉ l → r'.attnPending = r.attnPending ∧ r'.attnLow = r.attnLow)

/-- A Window transaction has read the words at the addresses `l` and done nothing else (R420, R421): of the state only what it put out, the
latches of the words it read and what those words clear may differ. -/
def ReadsOnly (dt : Nat) (s : State) (l : List Nat) (t : State) : Prop :=
  KeepsBut [.out, .rep, .tele] (begin dt s) t ∧ t.tele = { s.tele with latches := t.tele.latches } ∧
  (∀ a, a ∉ l → (∀ w ∈ l, a ∉ latchedBy w) → getIndexed a t.tele.latches = getIndexed a s.tele.latches) ∧
  OnlyTaken l (applyNotes (begin dt s).notes s.rep) t.rep

/-- What a command noted began with the notes `ns` (the newest first), after those of the time that passed. -/
def NotesFirst (dt : Nat) (s t : State) (ns : List Note) : Prop :=
  ∃ later, t.rep = applyNotes (later ++ ns ++ (begin dt s).notes) s.rep

/-- The ports once a frame, whose point in its codeword its command does not tell, has been recorded (R243). -/
def rxPorts (dt : Nat) (s : State) (p : Fin 8) : Vector Port 8 := (recordRx p (openPoint (begin dt s)) (begin dt s)).ports

/-- The notes of `n` slots cancelled on a port (R253, R255): the count, and event 0x0A05 at the first after 1 s without one. -/
def cancelNotes (dt : Nat) (s : State) (p : Fin 8) (n : Nat) : List Note :=
  if n = 0 then []
  else (if (s.ports[p]).cancelAt.all (fun u => decide (u + clkPerSec ≤ (begin dt s).clk)) then [eventNote 0x0A05 (begin dt s) p.val] else []) ++
    [.count (0x0A0058 + p.val) n]

/-- The state at the instant of the next Governor tick (R514). -/
def tickInstant (s : State) : State :=
  let u := advanceTo ((s.tb.lastTick + 1) * subPerTick) (begin 0 s)
  { u with tb := { u.tb with lastTick := 64 * u.tb.sec + u.tb.sub / subPerTick } }

/-- The next Governor tick with its steps 2 and 3 done: what its selection sees (R125). -/
def slotsSettled (s : State) : State := inOrder fantailDisputes (slotsOnce (tickInstant s))

/-- The next Governor tick with its step 5 done: what its rate word is made from (R125). -/
def selectionMade (s : State) : State := inOrder select (slotsSettled s)

/-- The code of the newest entry of the event ring (R423); none where the ring is empty. -/
def newestEvent (t : State) : Option Nat := t.rep.ring.head?.map (·.code)

/-- The value of an RC counter. -/
def counter (a : Nat) (t : State) : Nat := cntGet a t.rep.cnt

/-- The device serves: it is in ACQUIRE, LOCKED or HOLDOVER and its reset is not held. -/
def serving (s : State) : Bool :=
  s.pwr.mode == .acquire || s.pwr.mode == .locked || s.pwr.mode == .holdover

end Sys2Proof.Machine
end

