-- ==== Sys2Proof/Certificates/Slice0/Obligations.lean ====
section
/-!
DEFINITION. What is stated of the model, from the numbered rules of spec/. `begin dt s` is the state a command finds after the time
`dt` before it has passed; `Changes dt s t l ns` says that only the parts `l` change beside it, and that the report gains exactly the
notes `ns`.
-/

open Sys2Proof Sys2Proof.Machine

/-- A step takes the command at the front of the queue and executes it with the queue's rest; with an empty queue the block idles (the
model's choice, log entry 3). -/
def Obligations.StepRunsTheFrontCommand : Prop :=
  (∀ (s : State) (c : Instr) (q : List Instr), step { s with pending := c :: q } = exec c { s with pending := q }) ∧
  (∀ s : State, s.pending = [] → step s = .next s)

/-- Every command answers a next state, whatever the state, and leaves the queue of those that wait as it is. -/
def Obligations.EveryCommandAnswersAndLeavesTheQueue : Prop :=
  ∀ (c : Instr) (s : State), Answers c s fun t => t.pending = s.pending ∧ t.notes = []

/-- The state the model starts from (log entry 1): RETAIN with PD0 alone powered, the timebase stopped, no command waiting, no event,
no count, no record; the report and the memory have their canonical form. -/
def Obligations.ResetStateIsRetain : Prop :=
  State.reset.pending = [] ∧ State.reset.pwr.mode = .retain ∧ State.reset.pwr.domainOn = 1 ∧ State.reset.tb.running = false ∧
  State.reset.rep = {} ∧ State.reset.garner.rate = [] ∧ State.reset.garner.grant = [] ∧ State.reset.pd0.rtcValid = false ∧
  (∀ n : Fin 13, (State.reset.refs[n]).st = .disabled) ∧ (∀ m : Fin 40, (State.reset.core.ms[m]).st = .off) ∧
  (∀ p : Fin 8, (State.reset.ports[p]).link = false) ∧ (∀ n : Fin 4, (State.reset.leat.link[n]).st = .down) ∧
  (∀ w : Fin 17, State.reset.otp.word[w] = 0) ∧ Report.wf State.reset.rep = true ∧ Memory.wf State.reset.garner = true

/-- R90, R92, R96 (`adpllWindowEnd`): an ADPLL's lock windows, OSCIN present. In lock, the mean word of a window within ±2 counts is
saved for the ADPLL and for its role, its deviation shown to the nearest count (a half by log entry 11), and nothing else of the clock
block changes; before the fourth such window in a row a qualifying ADPLL counts it and qualifies on; the fourth completes the
qualification, and in the `TB` role in DIRECT the timebase is NORMAL again, the word is saved and event 0x0404 is the newest. -/
def Obligations.AdpllWindowsQualifyAndSaveWords : Prop :=
  (∀ (s : State) (dt : Nat) (n : Fin 4) (cnt : Nat) (pe : Int) (w : Nat) (r : Role), s.pll.oscinPresent = true → (s.pll.adpll[n]).st = .locked → roleOf s.pll n = some r →
    -2 ≤ (cnt : Rat) - expectedCount (begin dt s) r → (cnt : Rat) - expectedCount (begin dt s) r ≤ 2 →
    Answers (.adpllWindowEnd dt n cnt pe w) s fun t =>
      t.pll = saveWord r (w % 2 ^ 24) (modAdpll n (fun a => { a with
        countDev := nearestOf ((cnt : Rat) - expectedCount (begin dt s) r), phaseErr := pe, tune := w % 2 ^ 24
        windows := min 4 (a.windows + 1), saved := some (w % 2 ^ 24) }) (begin dt s).pll) ∧
      KeepsBut [.rep, .pll, .tele] (begin dt s) t) ∧
  (∀ (s : State) (dt : Nat) (n : Fin 4) (cnt : Nat) (pe : Int) (w : Nat) (r : Role), s.pll.oscinPresent = true → (s.pll.adpll[n]).st = .qualifying → (s.pll.adpll[n]).windows < 3 →
    roleOf s.pll n = some r → -2 ≤ (cnt : Rat) - expectedCount (begin dt s) r → (cnt : Rat) - expectedCount (begin dt s) r ≤ 2 →
    Answers (.adpllWindowEnd dt n cnt pe w) s fun t =>
      (t.pll.adpll[n]).st = .qualifying ∧ (t.pll.adpll[n]).windows = (s.pll.adpll[n]).windows + 1 ∧
      KeepsBut [.rep, .pll, .tele] (begin dt s) t) ∧
  (∀ (s : State) (dt : Nat) (n : Fin 4) (cnt : Nat) (pe : Int) (w : Nat), s.pll.oscinPresent = true → (s.pll.adpll[n]).st = .qualifying → (s.pll.adpll[n]).windows = 3 →
    roleOf s.pll n = some .tb → s.pll.tbState = .direct →
    -2 ≤ (cnt : Rat) - expectedCount (begin dt s) .tb → (cnt : Rat) - expectedCount (begin dt s) .tb ≤ 2 →
    Answers (.adpllWindowEnd dt n cnt pe w) s fun t =>
      (t.pll.adpll[n]).st = .locked ∧ t.pll.tbState = .normal ∧ t.pll.savedTb = some (w % 2 ^ 24) ∧ newestEvent t = some 0x0404 ∧
      KeepsBut [.rep, .pll, .tele, .gov] (begin dt s) t)

/-- R91, R94, R95, R96 (`adpllFastUnlock`): an unlock declared at once, with OSCIN present and not about to be declared lost, event
0x0401, counted. In the `TB` role the timebase enters DIRECT, with event 0x0403 and its count, and the locked spare is assigned to the
role, with event 0x0405, while the ADPLL holds the role's saved word; in another role with no spare the ADPLL holds the role's saved
word, with event 0x040A. What the numbers in 0x0405 and 0x040A name is log entry 73. R92, R97, R103 (`adpllAcquisitionDone`,
`spareTakeover`, `oscinRestoreTimeout`): a wide-band acquisition is followed by lock qualification; the qualified spare takes over
`TB` at the first OSCIN edge, with event 0x0404, no step, and what R23 asks of a return to LOCKED met; an ADPLL in `TB` that has not
qualified 1 ms after a restoration is treated as one declared unlocked, without event 0x0401 (log entry 22): DCO_HOLD ends, with event
0x0409, in DIRECT, with event 0x0403 and its count, and with no spare it holds its word, with event 0x040A. -/
def Obligations.UnlockTakeoverAndAcquisition : Prop :=
  (∀ (s : State) (dt : Nat) (n m : Fin 4), s.pll.oscinPresent = true → (s.pll.adpll[n]).st = .locked → roleOf s.pll n = some .tb → s.pll.tbState = .normal →
    s.pll.spare = some m → m ≠ n → (s.pll.adpll[m]).st = .locked →
    Answers (.adpllFastUnlock dt { adpll := n }) s fun t =>
      t.pll.tbState = .direct ∧ t.pll.incoming = some (.tb, m) ∧ t.pll.spare = none ∧
      (t.pll.adpll[n]).st = .wordHold ∧ (t.pll.adpll[n]).tune = s.pll.savedTb.getD (s.pll.adpll[n]).tune ∧
      Changes dt s t [.pll] [eventNote 0x0405 t m.val 0, .count 0x040012 1, eventNote 0x0403 t,
        .count (0x04000E + n.val) 1, eventNote 0x0401 (begin dt s) n.val]) ∧
  (∀ (s : State) (dt : Nat) (n : Fin 4), s.pll.oscinPresent = true → (s.pll.adpll[n]).st = .locked → roleOf s.pll n = some .sd →
    s.pll.spare = none → s.pll.incoming = none →
    Answers (.adpllFastUnlock dt { adpll := n }) s fun t =>
      (t.pll.adpll[n]).st = .wordHold ∧ (t.pll.adpll[n]).tune = s.pll.savedSd.getD (s.pll.adpll[n]).tune ∧
      (∀ k : Fin 4, n ≠ k → t.pll.adpll[k] = s.pll.adpll[k]) ∧ t.pll.tbState = s.pll.tbState ∧ t.pll.roleSd = s.pll.roleSd ∧
      Changes dt s t [.pll] [eventNote 0x040A (begin dt s) n.val 2,
        .count (0x04000E + n.val) 1, eventNote 0x0401 (begin dt s) n.val]) ∧
  (∀ (s : State) (dt : Nat) (n : Fin 4), (s.pll.adpll[n]).st = .acquiring → s.pll.oscinPresent = true →
    Answers (.adpllAcquisitionDone dt n) s fun t =>
      t.pll = modAdpll n (fun a => { a with st := .qualifying, windows := 0 }) (begin dt s).pll ∧ Changes dt s t [.pll] []) ∧
  (∀ (s : State) (dt : Nat) (n : Fin 4), s.pll.incoming = some (.tb, n) → (s.pll.adpll[n]).st = .locked → s.pll.roleTb ≠ n → s.pll.tbState = .direct →
    (s.pll.adpll[s.pll.roleTb]).st ≠ .retired → bitAt s.dress.retired[4] s.pll.roleTb.val = false →
    Answers (.spareTakeover dt) s fun t =>
      t.pll.roleTb = n ∧ t.pll.incoming = none ∧ t.pll.tbState = .normal ∧ (t.pll.adpll[s.pll.roleTb]).st = .off ∧
      t.pll.savedTb = some (s.pll.adpll[n]).tune ∧ t.pll.roleSd = s.pll.roleSd ∧ t.pll.roleCk = s.pll.roleCk ∧
      (∀ k : Fin 4, s.pll.roleTb ≠ k → t.pll.adpll[k] = s.pll.adpll[k]) ∧ t.gov = { s.gov with needQualify := false } ∧
      Changes dt s t [.pll, .gov] [eventNote 0x0404 t]) ∧
  (∀ (s : State) (dt : Nat) (n : Fin 4), s.pll.oscinPresent = true → (s.pll.adpll[n]).st = .qualifying → (s.pll.adpll[n]).pulling = true →
    roleOf s.pll n = some .tb → s.pll.tbState = .dcoHold → s.pll.spare = none → s.pll.incoming = none →
    Answers (.oscinRestoreTimeout dt n) s fun t =>
      t.pll.tbState = .direct ∧ (t.pll.adpll[n]).st = .wordHold ∧ (∀ k : Fin 4, n ≠ k → t.pll.adpll[k] = s.pll.adpll[k]) ∧
      Changes dt s t [.pll] [eventNote 0x040A t n.val 0, .count 0x040012 1, eventNote 0x0403 t, eventNote 0x0409 (begin dt s)])

/-- R100, R103, R85 (`oscinLost`, `oscinRestored`, `oscinDetect`): OSCIN declared lost: every ADPLL holds its saved word, or its
present one where none was saved (the model's choice, log entry 78), the timebase enters DCO_HOLD with events 0x0406 and 0x0408 and
its count, from DIRECT with event 0x0404 and from FREE_RUN with event 0x0409 as well (R109), a return to LOCKED needs a qualification
of `TB` (R23), and from LOCKED holdover is due. Restored: each ADPLL that held pulls in from its held word, with event 0x0407.
Detected: the frequency found and its measure are shown; with the RTC stopped nothing is valid. -/
def Obligations.OscinLossRestorationAndDetection : Prop :=
  (∀ (s : State) (dt : Nat), s.pll.oscinPresent = true →
    Answers (.oscinLost dt) s fun t =>
      t.pll.tbState = .dcoHold ∧ t.pll.oscFault = true ∧ t.pll.oscinPresent = false ∧ t.pll.incoming = none ∧
      (∀ n : Fin 4, (s.pll.adpll[n]).st ≠ .off → (s.pll.adpll[n]).st ≠ .retired →
        (t.pll.adpll[n]).st = .dcoHold ∧ (∀ r, roleOf s.pll n = some r → (t.pll.adpll[n]).tune = (savedWord s.pll r).getD (s.pll.adpll[n]).tune) ∧
        (roleOf s.pll n = none → s.pll.incoming = none → (t.pll.adpll[n]).tune = (s.pll.adpll[n]).saved.getD (s.pll.adpll[n]).tune)) ∧
      (s.pwr.mode = .locked → t.gov.oscinLost = true) ∧ t.gov.needQualify = true ∧
      Changes dt s t [.pll, .gov] ([.count 0x040015 1, eventNote 0x0408 t, eventNote 0x0406 t] ++
        if s.pll.tbState = .direct then [eventNote 0x0404 t] else if s.pll.tbState = .freeRun then [eventNote 0x0409 t] else [])) ∧
  (∀ (s : State) (dt : Nat), s.pll.oscinPresent = false → s.pll.tbState = .dcoHold ∨ s.pll.tbState = .freeRun →
    Answers (.oscinRestored dt) s fun t =>
      t.pll.oscinPresent = true ∧ t.pll.tbState = s.pll.tbState ∧
      (∀ n : Fin 4, (s.pll.adpll[n]).st = .dcoHold → (t.pll.adpll[n]).st = .qualifying ∧ (t.pll.adpll[n]).tune = (s.pll.adpll[n]).tune) ∧
      (∀ n : Fin 4, (s.pll.adpll[n]).st ≠ .dcoHold → t.pll.adpll[n] = s.pll.adpll[n]) ∧
      Changes dt s t [.pll] [eventNote 0x0407 (begin dt s)]) ∧
  (∀ (s : State) (dt cycles i : Nat), s.pll.detectDue = true → 0 < cycles → matchOscin (cycles * 1024) = some i →
    Answers (.oscinDetect dt cycles true) s fun t =>
      t.pll.detectValid = true ∧ t.pll.detected = i ∧ t.pll.measHz = cycles * 1024 % 2 ^ 32 ∧ t.pll.detectDue = false ∧
      t.pll.oscinPresent = true ∧ t.pll.adpll = s.pll.adpll ∧ Changes dt s t [.pll] []) ∧
  (∀ (s : State) (dt cycles : Nat), s.pll.detectDue = true →
    Answers (.oscinDetect dt cycles false) s fun t => t.pll.detectValid = false ∧ KeepsBut [.rep, .pll] (begin dt s) t)

/-- R62, R63 (`otpProgram`, `otpRead`, `otpKcv`, `otpLock`): an `OTP_ACCESS` command in any mode but SAFE in which PD4 is powered and
out of reset, or while one is in progress (log entry 21), is refused with event 0x020A and changes no word. R62, R63, R478, R496
(`otpProgram`, `otpProgramDone`, `otpRead`, `otpKcv`, `otpLock`, `tapReset`): what `OTP_ACCESS` does in SAFE, and the reset of the
TAP, which is ignored in RETAIN. -/
def Obligations.OtpCommandsActOnlyInSafe : Prop :=
  (∀ (s : State) (dt word data : Nat), pd4Runs s = true → s.pwr.mode ≠ .safe ∨ s.otp.busy = true →
    ∀ c ∈ [Instr.otpProgram dt word data, .otpRead dt word, .otpKcv dt, .otpLock dt],
      Answers c s fun t => t.otp = { s.otp with refused := true, tapOtpAccess := true } ∧
        Changes dt s t [.otp] [eventNote 0x020A (begin dt s)]) ∧
  (∀ (s : State) (dt word data : Nat), s.pwr.mode = .safe → s.otp.busy = false → (h : word < 17) →
    otpLocked s.otp = false → (word < 8 → sealKeySet s.otp = false) → (8 ≤ word → word < 16 → keyHashSet s.otp = false) →
    (word = 16 → data % 2 ^ 32 < 4) →
    Answers (.otpProgram dt word data) s fun t =>
      t.otp = { s.otp with refused := false, tapOtpAccess := true, busy := true,
                           programming := some (⟨word, h⟩, BitVec.ofNat 32 data) } ∧ Changes dt s t [.otp] []) ∧
  (∀ (s : State) (dt word data : Nat), s.pwr.mode = .safe → s.pwr.resetHeld = .none →
    16 < word ∨ otpLocked s.otp = true ∨ (word < 8 ∧ sealKeySet s.otp = true) ∨
      (8 ≤ word ∧ word < 16 ∧ keyHashSet s.otp = true) ∨ (word = 16 ∧ 4 ≤ data % 2 ^ 32) →
    Answers (.otpProgram dt word data) s fun t =>
      t.otp = { s.otp with refused := true, tapOtpAccess := true } ∧ Changes dt s t [.otp] [eventNote 0x020A (begin dt s)]) ∧
  (∀ (s : State) (dt : Nat) (i : Fin 17) (d : BitVec 32), s.otp.programming = some (i, d) →
    Answers (.otpProgramDone dt) s fun t =>
      t.otp = { s.otp with word := s.otp.word.set i (s.otp.word[i] ||| d), busy := false, programming := none } ∧
      Changes dt s t [.otp] []) ∧
  (∀ (s : State) (dt word : Nat), s.pwr.mode = .safe → s.otp.busy = false → (h : word < 17) →
    Answers (.otpRead dt word) s fun t =>
      t.otp = { s.otp with refused := false, tapOtpAccess := true, result := if word < 8 then 0 else s.otp.word[word] } ∧
      Changes dt s t [.otp] []) ∧
  (∀ (s : State) (dt : Nat), s.pwr.mode = .safe → s.otp.busy = false →
    Answers (.otpKcv dt) s fun t =>
      t.otp = { s.otp with refused := false, tapOtpAccess := true, result := sealKcv s.otp } ∧ Changes dt s t [.otp] []) ∧
  (∀ (s : State) (dt : Nat), s.pwr.mode = .safe → s.pwr.resetHeld = .none → s.otp.busy = false →
    Answers (.otpLock dt) s fun t =>
      (keyHashSet s.otp = true → t.otp = { s.otp with refused := false, tapOtpAccess := true,
                                                       word := s.otp.word.set 16 (s.otp.word[16] ||| 4) } ∧
        Changes dt s t [.otp] []) ∧
      (keyHashSet s.otp = false → t.otp = { s.otp with refused := true, tapOtpAccess := true } ∧
        Changes dt s t [.otp] [eventNote 0x020A (begin dt s)])) ∧
  (∀ (s : State) (dt : Nat), Answers (.tapReset dt) s fun t =>
    (s.pwr.mode ≠ .retain → t.otp = { s.otp with tapOtpAccess := false } ∧ Changes dt s t [.otp] []) ∧
    (s.pwr.mode = .retain → Changes dt s t [] []))

/-- R62, R63: no command ever clears a bit of an OTP word, and with `LOCK` set and no word being programmed, none changes one, nor
starts to. -/
def Obligations.OtpBitsAreNeverClearedAndLockHolds : Prop :=
  ∀ (c : Instr) (s t : State), exec c s = .next t →
    (∀ i : Fin 17, s.otp.word[i] &&& t.otp.word[i] = s.otp.word[i]) ∧
    (otpLocked s.otp = true → s.otp.programming = none → t.otp.word = s.otp.word ∧ t.otp.programming = none)

/-- R62, R63: that a set `LOCK` excludes a word being programmed, every step keeps. -/
def Obligations.LockExcludesProgramming : Prop :=
  ∀ (s t : State), (otpLocked s.otp = true → s.otp.programming = none) → (s.otp.busy = s.otp.programming.isSome) → step s = .next t →
    (otpLocked t.otp = true → t.otp.programming = none) ∧ t.otp.busy = t.otp.programming.isSome

/-- R21, R28, R471, R474, R475, R476 (`retainExit`): the exit from RETAIN, whichever copies of the retention items fail their check.
The RTC has counted on, `RETAIN_S` shows the whole time in RETAIN, and what passes its check stands; PD4 is powered, the other domains
are to follow in the order of R471, and LOAD starts with event 0x0201, then 0x110C where both copies of the maps are lost, 0x1209
where the RTC is not valid, and 0x120A for each item lost (its number is open, log entry 16; one never written is not lost, log entry
30): each NVM is woken and reset, and nothing else is put out. R13, R22, R473, R474, R479 (`retainEntry`): RETAIN entered from any
other mode, whatever the cause. Every domain but PD0 loses its state; the frames that cross are cut short; the RTC item and
`RETAIN_CNT` are written; the words of the OTP, the RTC and retention RAM stay (of a word whose programming is cut short part of the
data is set, log entry 29); the event ring is empty and every counter zero. R470, R496: with `PGOOD` low the outputs are high-
impedance, else held low. In RETAIN the RTC counts on, and the cause says what `PGOOD` is now (log entry 85): with it low the choice
of the `VDDIO_B3` range ends. -/
def Obligations.RetainIsLeftAndEntered : Prop :=
  (∀ (s : State) (n : Nat) (damaged : List (RetItem × Bool)), s.pwr.mode = .retain →
    Answers (.retainExit n damaged) s fun t =>
      t.pwr.mode = .load ∧ t.pwr.loadKind = .retain ∧ t.pwr.domainOn = 0x11 ∧ t.pwr.powering = [1, 2, 10, 7, 5, 6, 11, 3, 8, 9] ∧
      t.pwr.exitAt = s.clk ∧ t.pwr.retainS = min 0xFFFFFFFF ((s.pd0.inRetain + n) / 32768) ∧ t.pwr.resetCause = s.pwr.resetCause ∧
      t.pd0 = checkedPd0 damaged { (rtcAdvance n s).pd0 with inRetain := s.pd0.inRetain + n } ∧
      t.pd0.rtcSec = (s.pd0.rtcSec + (s.pd0.rtcSub + n) / 32768) % 2 ^ 48 ∧ t.pd0.rtcSub = (s.pd0.rtcSub + n) % 32768 ∧
      t.ld.loadCount = min 0xFFFFFFFF (s.ld.loadCount + 1) ∧ t.ld.stage = 1 ∧
      t.out = [.nvm 0 0xAB 0 0, .nvm 0 0x66 0 0, .nvm 0 0x99 0 0, .nvm 1 0xAB 0 0, .nvm 1 0x66 0 0, .nvm 1 0x99 0 0] ∧
      t.pll = { (begin 0 s).pll with oscinFixed := s.tb.running } ∧
      Changes 0 s t [.out, .pll, .pd0, .pwr, .avs, .dress, .ld]
        (((lostItems damaged s.pd0).map fun i => eventNote 0x120A t (Config.retentionItemNumber (itemIndex i) % 256)).reverse ++
         (if t.pd0.rtcValid then [] else [eventNote 0x1209 t]) ++
         (if (lostItems damaged s.pd0).contains .maps then [eventNote 0x110C t 0xFF 0xFF] else []) ++ [eventNote 0x0201 t])) ∧
  (∀ (s : State) (dt n : Nat) (k : RetainCause), s.pwr.mode ≠ .retain → counterWf s.rep.cnt = true →
    Answers (.retainEntry dt k n) s fun t =>
      t = { State.reset with
        pending := s.pending, out := t.out, wire := t.wire, clk := (begin dt s).clk, otp := otpReset (begin dt s).clk s.otp, rep := t.rep, pd0 := t.pd0
        mon := { vddioB33 := if k = .pgood then none else s.mon.vddioB33 }
        pwr := { resetCause := 1, pgoodLow := k == .pgood } } ∧
      t.wire = t.out.map (fun _ => []) ∧
      (∀ o, o ∈ t.out ↔ ∃ p : Fin 8, o = .frameCut p ∧ (crossingNow (begin dt s) p = true ∨ lineCrossing (begin dt s) p = true)) ∧
      (s.otp.programming = none → t.otp.word = s.otp.word) ∧ t.otp.busy = false ∧
      ballState t .clkout = (if k = .pgood then .highImpedance else .heldLow) ∧
      t.rep.ring = [] ∧ t.rep.cnt = [] ∧ t.rep.attnLow = false ∧
      t.pd0.rtcSec = (s.pd0.rtcSec + (s.pd0.rtcSub + n) / 32768) % 2 ^ 48 ∧ t.pd0.rtcValid = s.pd0.rtcValid ∧ t.pd0.inRetain = 0 ∧
      t.pd0.rtcItem = keep { sec := t.pd0.rtcSec, valid := s.pd0.rtcValid, sinceAlign := s.pd0.sinceAlign + n, tolPpm := s.pd0.tolPpm }
        s.pd0.rtcItem ∧
      t.pd0.retainCnt = keep (min 0xFFFF ((kept s.pd0.retainCnt).getD 0 + 1)) s.pd0.retainCnt ∧
      t.pd0.model = s.pd0.model ∧ t.pd0.almanac = s.pd0.almanac ∧ t.pd0.ephemeris = s.pd0.ephemeris ∧
      t.pd0.position = s.pd0.position ∧ t.pd0.utcParams = s.pd0.utcParams ∧ t.pd0.cn0Table = s.pd0.cn0Table ∧
      t.pd0.maps = s.pd0.maps) ∧
  (∀ (s : State) (dt n : Nat) (k : RetainCause), s.pwr.mode = .retain →
    Answers (.retainEntry dt k n) s fun t =>
      t.pd0 = { s.pd0 with
        rtcSec := (s.pd0.rtcSec + (s.pd0.rtcSub + n) / 32768) % 2 ^ 48, rtcSub := (s.pd0.rtcSub + n) % 32768
        sinceAlign := s.pd0.sinceAlign + n, inRetain := s.pd0.inRetain + n
        rtcRunning := s.pd0.rtcRunning || decide (0 < n) } ∧
      t.pwr = { s.pwr with pgoodLow := k == .pgood } ∧
      t.mon = (if k = .pgood then { s.mon with vddioB33 := none } else s.mon) ∧ Changes dt s t [.pd0, .pwr, .mon] [])

/-- R13, R23, R478, R479, R487 (`warmReset`, `coldReset`): the two resets. A warm one keeps PD0, the words of the OTP (log entry 29),
and PD1 with its configuration (the set it keeps is log entry 72), what R23 asks of `TB` among it; a cold one stops the timebase too.
`LOAD_COUNT` stays (log entry 38). In RETAIN `RESET_N` has no effect. -/
def Obligations.ResetsKeepWhatTheRulesName : Prop :=
  (∀ (s : State) (dt : Nat), s.pwr.mode ≠ .retain → s.pwr.resetHeld = .none →
    Answers (.warmReset dt) s fun t =>
      t.pwr.resetHeld = .warm ∧ t.pwr.resetCause = 2 ∧ t.pwr.domainOn = s.pwr.domainOn ∧ t.ld.loadCount = s.ld.loadCount ∧
      t.ts = s.ts ∧ t.pll = (begin dt s).pll ∧ t.cfg = { b03 := s.cfg.b03, b04 := s.cfg.b04, b09 := s.cfg.b09 } ∧
      t.rep.ring = [] ∧ t.rep.attnLow = false ∧
      KeepsBut [.clk, .tb, .ts, .pll, .cfg, .ld, .otp, .rep, .pd0, .mon, .pwr, .outs, .gov] State.reset t ∧
      t.gov = { needQualify := s.gov.needQualify } ∧ (s.otp.programming = none → t.otp.word = s.otp.word) ∧
      t.clk = (begin dt s).clk ∧ t.tb = (begin dt s).tb ∧ t.otp = otpReset (begin dt s).clk s.otp ∧ t.pd0 = s.pd0) ∧
  (∀ (s : State) (dt : Nat), s.pwr.resetHeld = .warm → counterWf s.rep.cnt = true →
    Answers (.coldReset dt) s fun t =>
      t.pwr.resetHeld = .cold ∧ t.pwr.resetCause = 3 ∧ t.pwr.domainOn = s.pwr.domainOn ∧ t.ld.loadCount = s.ld.loadCount ∧
      t.tb.running = false ∧ t.rep.ring = [] ∧ t.rep.cnt = [] ∧
      KeepsBut [.clk, .ld, .otp, .rep, .pd0, .mon, .pwr] State.reset t ∧
      (s.otp.programming = none → t.otp.word = s.otp.word) ∧
      t.clk = (begin dt s).clk ∧ t.otp = otpReset (begin dt s).clk s.otp ∧ t.pd0 = s.pd0) ∧
  (∀ (s : State) (dt : Nat), s.pwr.mode = .retain →
    Answers (.warmReset dt) s fun t => Changes dt s t [] [])

/-- R479, R66, R475, R478 (`resetRelease`): after the release of either reset LOAD starts, `LOAD_COUNT` counting it (log entry 38),
whichever retention items fail their check. After a cold one the timebase starts again from the RTC where that is valid, with W zero
(in `NORMAL`, log entry 20; in the RTC's grain, log entry 28); after a warm one it has gone on. R471, R472, R66, R504
(`domainPowerGood`): a domain that is powering up is good; the next one follows. The lanes of PD5, PD6 and PD11 are calibrated exactly
where `SDCAL` is fitted. With PD1 the timebase starts (in `NORMAL`, log entry 20), W zero, from the RTC where that is valid (in its
grain, log entry 28), else from zero. R13, R469, R476, R479 (`powerOn`, `pd0SupplyChangeover`, `rtcCrystalLoss`): power at PD0 after
none starts everything from reset, with `RTC_VALID` 0 and `RESET_CAUSE` 0, the words of the OTP standing (log entry 29); the
changeover of its supply changes only which one it is; the loss of the crystal makes the RTC invalid and stops it. -/
def Obligations.PowerAndResetReleaseStartDomains : Prop :=
  (∀ (s : State) (dt n : Nat) (damaged : List (RetItem × Bool)), s.pwr.resetHeld ≠ .none →
    Answers (.resetRelease dt n damaged) s fun t =>
      t.pwr.resetHeld = .none ∧ t.pwr.mode = .load ∧ t.pwr.loadKind = .resetN ∧ t.pwr.resetCause = s.pwr.resetCause ∧
      t.pwr.domainOn = s.pwr.domainOn ∧ t.ld.loadCount = min 0xFFFFFFFF (s.ld.loadCount + 1) ∧ t.otp = s.otp ∧
      (s.tb.running = true → t.tb = (begin dt s).tb) ∧
      (s.tb.running = false → bitAt s.pwr.domainOn 1 = true → (checkedPd0 damaged (rtcAdvance n s).pd0).rtcValid = true →
        t.tb.running = true ∧ t.tb.w = 0 ∧ t.tb.sec = (s.pd0.rtcSec + (s.pd0.rtcSub + n) / 32768) % 2 ^ 48)) ∧
  (∀ (s : State) (dt n : Nat) (pd : Fin 12) (c : SdCal) (r : List Nat), s.pwr.powering = pd.val :: r → s.pwr.mode ≠ .retain →
    s.pwr.resetHeld = .none →
    Answers (.domainPowerGood dt n { pd := pd, sdcal := c }) s fun t =>
      t.pwr = { s.pwr with
        powering := r, domainOn := setBit s.pwr.domainOn pd.val
        lanesCal := if pd.val = 5 ∨ pd.val = 6 ∨ pd.val = 11 then
          (if c = .fitted then setBit s.pwr.lanesCal pd.val else clearBit s.pwr.lanesCal pd.val) else s.pwr.lanesCal } ∧ t.otp = s.otp ∧ t.cfg = s.cfg ∧
      (pd.val ≠ 1 → t.tb = (begin dt s).tb ∧ t.pll = (begin dt s).pll) ∧
      (pd.val = 1 → s.tb.running = false → t.tb.running = true ∧ t.tb.w = 0 ∧
        (s.pd0.rtcValid = true → t.tb.sec = (s.pd0.rtcSec + (s.pd0.rtcSub + n) / 32768) % 2 ^ 48) ∧
        (s.pd0.rtcValid = false → t.tb.sec = 0 ∧ t.tb.sub = 0)) ∧
      KeepsBut [.pwr, .tb, .pll, .rep, .pd0, .ho, .ic, .gnss, .garner, .leat] (begin dt s) t) ∧
  (∀ (s : State) (v : Bool), s.pwr.mode = .retain → counterWf s.rep.cnt = true →
    Answers (.powerOn v) s fun t =>
      t = { State.reset with pending := s.pending, clk := s.clk, otp := otpReset s.clk s.otp, rep := t.rep, pd0 := { onVddio := v } } ∧
      (s.otp.programming = none → t.otp.word = s.otp.word) ∧
      t.pd0.rtcValid = false ∧ t.pwr.resetCause = 0 ∧ t.rep.ring = [] ∧ t.rep.cnt = []) ∧
  (∀ (s : State) (dt : Nat) (v : Bool), Answers (.pd0SupplyChangeover dt v) s fun t =>
    t.pd0 = { s.pd0 with onVddio := v } ∧ Changes dt s t [.pd0] []) ∧
  (∀ (s : State) (dt : Nat), Answers (.rtcCrystalLoss dt) s fun t =>
    t.pd0 = { s.pd0 with rtcValid := false, rtcRunning := false } ∧ Changes dt s t [.pd0] [])

/-- R22, R24, R52, R57, R138, R322, R441 (`reload`): a reload in ACQUIRE, LOCKED or HOLDOVER where the image enables it, and in SAFE
but at the instant it was entered. LOAD is entered, with event 0x0201; the serving half is reset: its queues are empty, its records
invalid (their contents are log entry 62) and its keys empty (log entry 65); the slots that arrive through it are `UNAVAILABLE` from
here on (log entry 77); the timebase, the clocks, the outputs and the selection go on. During LOAD, and where the image does not
enable it, it changes nothing, with event 0x0207 and its count; at the instant SAFE was entered, in RETAIN and while `RESET_N` is low
it does nothing at all. -/
def Obligations.ReloadEntersLoadAndEmptiesTheServingHalf : Prop :=
  (∀ (s : State) (dt : Nat), s.pwr.resetHeld = .none →
    (s.pwr.mode = .acquire ∨ s.pwr.mode = .locked ∨ s.pwr.mode = .holdover) ∧ s.cfg.b02.system.reloadEnable = true ∨
      s.pwr.mode = .safe ∧ s.pwr.safeAt ≠ some (begin dt s).clk →
    Answers (.reload dt) s fun t =>
      t.pwr.mode = .load ∧ t.pwr.loadKind = (if s.pwr.mode = .safe then LoadKind.safe else .reload) ∧ t.pwr.modeLeft = s.pwr.mode ∧
      t.ld.loadCount = min 0xFFFFFFFF (s.ld.loadCount + 1) ∧ t.ld.stage = 1 ∧
      (∃ e ∈ t.rep.ring, e.code = 0x0201 ∧ e.stamp = stampNow (begin dt s)) ∧
      t.core.precQ = [] ∧ t.core.assuredQ = [] ∧ t.core.generalQ = [] ∧ t.core.park = [] ∧
      (∀ e ∈ t.garner.rate, e.2.valid = false) ∧ (∀ e ∈ t.garner.grant, e.2.valid = false) ∧ (∀ k : Fin 64, t.ntp.key[k] = .empty) ∧
      (∀ n : Fin 13, 5 ≤ n.val → n.val ≤ 10 → (s.refs[n]).st ≠ .disabled → (t.refs[n]).st = .unavailable) ∧
      (∀ n : Fin 13, n.val < 5 ∨ 10 < n.val → t.refs[n] = s.refs[n]) ∧
      t.gov.sel = s.gov.sel ∧ t.gov.oscinLost = false ∧
      KeepsBut [.out, .pll, .ld, .rep, .tele, .pd0, .pwr, .refs, .gov, .ic, .core, .garner, .ports, .weir, .ntp, .cli, .leat, .dress] (begin dt s) t) ∧
  (∀ (s : State) (dt : Nat), s.pwr.resetHeld = .none →
    s.pwr.mode = .load ∨ (s.pwr.mode = .acquire ∨ s.pwr.mode = .locked ∨ s.pwr.mode = .holdover) ∧ s.cfg.b02.system.reloadEnable = false →
    Answers (.reload dt) s fun t => Changes dt s t [] [eventNote 0x0207 (begin dt s), .count 0x02000C 1]) ∧
  (∀ (s : State) (dt : Nat), s.pwr.resetHeld ≠ .none ∨ s.pwr.mode = .retain ∨ s.pwr.mode = .safe ∧ s.pwr.safeAt = some (begin dt s).clk →
    Answers (.reload dt) s fun t => Changes dt s t [] [])

/-- R28, R31, R35, R37, R51 (`nvmWakeDone`): after NVM wake-up, during LOAD, the JEDEC IDs and both headers are read, slot B's from
the device on `NV_CS1_N` where one answers and else from the one on `NV_CS0_N`; the slot of the higher sequence number whose header
passes is tried, slot A where they are equal; with none the mode is SAFE. R35, R36, R37, R38 (`verificationPassDone`,
`signatureVerified`): the verification pass keeps header, body and trailer where `BODY_CRC` agrees, and else the slot fails with cause
0x05; the signature rule then decides before the parse pass: where it finds no cause the parse pass begins, with event 0x0208 for a
signed image that no key hash is there to check, and else the slot fails with its cause. With `LOCK` 1 and no key hash `LOCK` decides
(log entry 33), and the slot 0x0208 names is log entry 73's. A slot that fails gives way to the other one where that one's header
passed and it was not tried yet, with event 0x0203 (the slot it names is log entry 73's), and else the mode is SAFE. -/
def Obligations.LoaderChoosesAndVerifiesTheSlot : Prop :=
  (∀ (s : State) (dt j0 j1 : Nat) (a : Bytes) (b : SlotBHeader), s.pwr.mode = .load → s.ld.stage = 1 →
    (readHeader a).cause = 0 ∨ (readHeader (if jedecAnswers j1 then b.cs1 else b.cs0)).cause = 0 →
    Answers (.nvmWakeDone dt j0 j1 a b) s fun t =>
      t.ld.stage = 2 ∧ t.ld.hdrA = readHeader a ∧ t.ld.hdrB = readHeader (if jedecAnswers j1 then b.cs1 else b.cs0) ∧
      t.ld.jedec0 = j0 % 2 ^ 24 ∧ t.ld.nvCs1Present = (j1 % 2 ^ 24 != 0 && j1 % 2 ^ 24 != 0xFFFFFF) ∧
      t.ld.causeA = t.ld.hdrA.cause ∧ t.ld.causeB = t.ld.hdrB.cause ∧ t.ld.seqA = t.ld.hdrA.seq ∧ t.ld.seqB = t.ld.hdrB.seq ∧
      (t.ld.hdrA.cause = 0 → t.ld.hdrB.cause = 0 → t.ld.trying = if t.ld.hdrA.seq < t.ld.hdrB.seq then Slot.b else .a) ∧
      (t.ld.hdrA.cause ≠ 0 → t.ld.trying = .b) ∧ (t.ld.hdrB.cause ≠ 0 → t.ld.trying = .a) ∧
      t.out.take 4 = [.nvm 0 0x9F 0 3, .nvm 1 0x9F 0 3, .nvm 0 0x6B 0 64,
        .nvm (if t.ld.nvCs1Present then 1 else 0) 0x6B 0x800000 64] ∧
      Changes dt s t [.ld, .out] []) ∧
  (∀ (s : State) (dt j0 j1 : Nat) (a : Bytes) (b : SlotBHeader), s.pwr.mode = .load → s.ld.stage = 1 →
    (readHeader a).cause ≠ 0 → (readHeader (if jedecAnswers j1 then b.cs1 else b.cs0)).cause ≠ 0 →
    Answers (.nvmWakeDone dt j0 j1 a b) s fun t =>
      t.pwr.mode = .safe ∧ t.ld.stage = 0 ∧ t.tb = (begin dt s).tb ∧ t.otp = s.otp ∧ t.pd0 = s.pd0) ∧
  (∀ (s : State) (dt : Nat) (h b tr : Bytes), s.pwr.mode = .load → s.ld.stage = 2 →
    b.length = (slotHeader s.ld.trying s.ld).len → crc32c b = (slotHeader s.ld.trying s.ld).bodyCrc →
    Answers (.verificationPassDone dt h b tr) s fun t =>
      t.ld = { s.ld with verBody := h ++ b, verTrailer := tr } ∧ Changes dt s t [.ld] []) ∧
  (∀ (s : State) (dt : Nat) (h b tr : Bytes), s.pwr.mode = .load → s.ld.stage = 2 →
    b.length ≠ (slotHeader s.ld.trying s.ld).len ∨ crc32c b ≠ (slotHeader s.ld.trying s.ld).bodyCrc →
    Answers (.verificationPassDone dt h b tr) s fun t => SlotGivesWay dt s t 0x05 []) ∧
  (∀ (s : State) (dt : Nat), s.pwr.mode = .load → s.ld.stage = 2 → s.ld.verBody ≠ [] →
    signatureCause s.otp (slotHeader s.ld.trying s.ld).signed s.ld.verBody s.ld.verTrailer = none →
    Answers (.signatureVerified dt) s fun t =>
      t.ld = { s.ld with stage := 3, pendUnchecked := (slotHeader s.ld.trying s.ld).signed && !keyHashSet s.otp } ∧
      Changes dt s t [.ld, .out] (if (slotHeader s.ld.trying s.ld).signed = true ∧ keyHashSet s.otp = false
        then [eventNote 0x0208 (begin dt s) (if s.ld.trying = .a then 0 else 1)] else [])) ∧
  (∀ (s : State) (dt : Nat), s.pwr.mode = .load → s.ld.stage = 2 → s.ld.verBody ≠ [] → otpLocked s.otp = false →
    (slotHeader s.ld.trying s.ld).signed = false ∨ keyHashSet s.otp = false →
    Answers (.signatureVerified dt) s fun t => t.ld.stage = 3) ∧
  (∀ (s : State) (dt c : Nat), s.pwr.mode = .load → s.ld.stage = 2 → s.ld.verBody ≠ [] →
    signatureCause s.otp (slotHeader s.ld.trying s.ld).signed s.ld.verBody s.ld.verTrailer = some c →
    Answers (.signatureVerified dt) s fun t => SlotGivesWay dt s t c []) ∧
  (∀ (s : State) (dt : Nat), s.pwr.mode = .load → s.ld.stage = 2 → s.ld.verBody ≠ [] →
    (slotHeader s.ld.trying s.ld).signed = false → otpLocked s.otp = true →
    Answers (.signatureVerified dt) s fun t => SlotGivesWay dt s t 0x06 [])

/-- R38, R41 to R48, R50, R85 (`parseRecord`, `sectionEndRecord`, `parsePassDone`): the parse pass. A record that the framing and the
checks of a record pass joins its open section; an unknown one that may be skipped is counted, the first with event 0x0209; one that
fails discards its section with its cause. A section whose end record, ranges and relations hold is committed to its pending set; the
first record out of range fails it with cause 0x14, a relation with 0x15. At the end of the body the image is complete, with event
0x0205 on the second slot tried, or fails with 0x16, 0x05 (R38) or 0x17 (R50). An `OSCIN_FREQ` that differs from the detected
frequency gives event 0x040B (R85). What fails is reported by event 0x0204 or 0x0203 (whose numbers are log entry 73's), and its slot
gives way. The order of these causes at the end of the body, and the block named where a record of another block arrives, are the
model's choice (log entry 32). -/
def Obligations.RecordsAreParsedIntoPendingSections : Prop :=
  (∀ (s : State) (dt : Nat) (r : Bytes) (p : Bytes), s.pwr.mode = .load → s.ld.stage = 3 →
    bitsOf (leNat (r.take 8)) 0 8 ≠ 0xFF → framingCause s.ld r = none →
    checkRecord s.otp (openedFor (bitsOf (leNat (r.take 8)) 8 8) s.ld) (bitsOf (leNat (r.take 8)) 0 16)
      (bitsOf (leNat (r.take 8)) 32 8) (r.take 8) (bytesAt r 8 (bitsOf (leNat (r.take 8)) 16 16)) = .ok (some p) →
    Answers (.parseRecord dt r) s fun t =>
      t.ld.offset = s.ld.offset + r.length ∧ t.ld.parseCrc = crcBytes s.ld.parseCrc r ∧
      (∃ o, t.ld.opened = some o ∧ o.block = (openedFor (bitsOf (leNat (r.take 8)) 8 8) s.ld).block ∧
        o.recs = (openedFor (bitsOf (leNat (r.take 8)) 8 8) s.ld).recs ++ [(s.ld.offset, bitsOf (leNat (r.take 8)) 0 16, p)]) ∧
      t.ld.pend = s.ld.pend ∧ t.ld.sectionsPending = s.ld.sectionsPending ∧ Changes dt s t [.ld] []) ∧
  (∀ (s : State) (dt : Nat) (r : Bytes), s.pwr.mode = .load → s.ld.stage = 3 →
    bitsOf (leNat (r.take 8)) 0 8 ≠ 0xFF → framingCause s.ld r = none →
    checkRecord s.otp (openedFor (bitsOf (leNat (r.take 8)) 8 8) s.ld) (bitsOf (leNat (r.take 8)) 0 16)
      (bitsOf (leNat (r.take 8)) 32 8) (r.take 8) (bytesAt r 8 (bitsOf (leNat (r.take 8)) 16 16)) = .ok none →
    Answers (.parseRecord dt r) s fun t =>
      t.ld.offset = s.ld.offset + r.length ∧ t.ld.pend = s.ld.pend ∧ t.ld.unknownSeen = true ∧
      (∃ o, t.ld.opened = some o ∧ o.recs = (openedFor (bitsOf (leNat (r.take 8)) 8 8) s.ld).recs) ∧
      Changes dt s t [.ld] (if s.ld.unknownSeen then [.count 0x02000D 1] else [eventNote 0x0209 (begin dt s), .count 0x02000D 1])) ∧
  (∀ (s : State) (dt : Nat) (r : Bytes) (c : Nat), s.pwr.mode = .load → s.ld.stage = 3 →
    bitsOf (leNat (r.take 8)) 0 8 ≠ 0xFF →
    framingCause s.ld r = some c ∨ framingCause s.ld r = none ∧
      checkRecord s.otp (openedFor (bitsOf (leNat (r.take 8)) 8 8) s.ld) (bitsOf (leNat (r.take 8)) 0 16)
        (bitsOf (leNat (r.take 8)) 32 8) (r.take 8) (bytesAt r 8 (bitsOf (leNat (r.take 8)) 16 16)) = .error c →
    Answers (.parseRecord dt r) s fun t =>
      t.ld.failBlock = bitsOf (leNat (r.take 8)) 0 16 / 256 ∧ t.ld.failCause = c ∧ t.ld.failOffset = s.ld.offset ∧
      SlotGivesWay dt s t c [eventNote 0x0204 (begin dt s) (bitsOf (leNat (r.take 8)) 0 16 / 256) c]) ∧
  (∀ (s : State) (dt b : Nat) (r : Bytes) (o : OpenSection) (cfg : Cfg), s.pwr.mode = .load → s.ld.stage = 3 →
    bitsOf (leNat (r.take 8)) 0 16 = 256 * b + 0xFF → o = openedFor b s.ld →
    cfg = o.recs.foldl (fun c e => putRecord e.2.1 e.2.2 c) (copySection b {} s.ld.pend) →
    framingCause s.ld r = none → endRecordCause s.otp o r = none →
    (∀ e ∈ o.recs, recordInRange e.2.1 e.2.2 = true ∧ recordFits (begin dt s) cfg o.recs e.2.1 e.2.2 = true) →
    relationsHold b o.recs cfg = true →
    Answers (.sectionEndRecord dt r) s fun t =>
      t.ld.sectionsPending = s.ld.sectionsPending ||| 2 ^ b ∧ t.ld.opened = none ∧ t.ld.lastBlock = b ∧ t.ld.pend = cfg ∧
      t.ld.offset = s.ld.offset + r.length ∧
      Changes dt s t [.ld] (if oscinMismatch (begin dt s) o.recs then [eventNote 0x040B (begin dt s)] else [])) ∧
  (∀ (s : State) (dt b c : Nat) (r : Bytes), s.pwr.mode = .load → s.ld.stage = 3 → bitsOf (leNat (r.take 8)) 0 16 = 256 * b + 0xFF →
    framingCause s.ld r = some c ∨ framingCause s.ld r = none ∧ endRecordCause s.otp (openedFor b s.ld) r = some c →
    Answers (.sectionEndRecord dt r) s fun t =>
      t.ld.failBlock = b ∧ t.ld.failCause = c ∧ t.ld.failOffset = s.ld.offset ∧
      SlotGivesWay dt s t c [eventNote 0x0204 (begin dt s) b c]) ∧
  (∀ (s : State) (dt b : Nat) (r : Bytes) (o : OpenSection) (cfg : Cfg), s.pwr.mode = .load → s.ld.stage = 3 →
    bitsOf (leNat (r.take 8)) 0 16 = 256 * b + 0xFF → o = openedFor b s.ld →
    cfg = o.recs.foldl (fun c e => putRecord e.2.1 e.2.2 c) (copySection b {} s.ld.pend) →
    framingCause s.ld r = none → endRecordCause s.otp o r = none → oscinMismatch (begin dt s) o.recs = false →
    Answers (.sectionEndRecord dt r) s fun t =>
      (∀ e, o.recs.find? (fun e => !(recordInRange e.2.1 e.2.2 && recordFits (begin dt s) cfg o.recs e.2.1 e.2.2)) = some e →
        t.ld.failBlock = b ∧ t.ld.failCause = 0x14 ∧ t.ld.failOffset = e.1 ∧
        SlotGivesWay dt s t 0x14 [eventNote 0x0204 (begin dt s) b 0x14]) ∧
      (o.recs.all (fun e => recordInRange e.2.1 e.2.2 && recordFits (begin dt s) cfg o.recs e.2.1 e.2.2) = true →
        relationsHold b o.recs cfg = false →
        t.ld.failBlock = b ∧ t.ld.failCause = 0x15 ∧ t.ld.failOffset = s.ld.offset ∧
        SlotGivesWay dt s t 0x15 [eventNote 0x0204 (begin dt s) b 0x15])) ∧
  (∀ (s : State) (dt : Nat), s.pwr.mode = .load → s.ld.stage = 3 → s.ld.opened = none →
    (~~~ s.ld.parseCrc).toNat = (slotHeader s.ld.trying s.ld).bodyCrc → s.ld.offset = (slotHeader s.ld.trying s.ld).len →
    missingSection s.ld = none →
    Answers (.parsePassDone dt) s fun t =>
      t.ld = { setSlotCause s.ld.trying 0 s.ld with stage := 4 } ∧
      Changes dt s t [.ld] (if s.ld.second then [eventNote 0x0205 (begin dt s)] else [])) ∧
  (∀ (s : State) (dt : Nat), s.pwr.mode = .load → s.ld.stage = 3 →
    Answers (.parsePassDone dt) s fun t =>
      (∀ o, s.ld.opened = some o →
        t.ld.failBlock = o.block ∧ t.ld.failCause = 0x16 ∧ t.ld.failOffset = o.last ∧
        SlotGivesWay dt s t 0x16 [eventNote 0x0204 (begin dt s) o.block 0x16]) ∧
      (s.ld.opened = none → (~~~ s.ld.parseCrc).toNat ≠ (slotHeader s.ld.trying s.ld).bodyCrc ∨
          s.ld.offset ≠ (slotHeader s.ld.trying s.ld).len → SlotGivesWay dt s t 0x05 []) ∧
      (s.ld.opened = none → (~~~ s.ld.parseCrc).toNat = (slotHeader s.ld.trying s.ld).bodyCrc →
        s.ld.offset = (slotHeader s.ld.trying s.ld).len → ∀ b, missingSection s.ld = some b →
        t.ld.failBlock = b ∧ t.ld.failCause = 0x17 ∧ SlotGivesWay dt s t 0x17 []))

/-- R111, R112: the sample of a pulse reference is the distance of its edge, less the delay, from the nearest second boundary (R111).
-/
def Obligations.EdgeSampleIsTheNearestBoundary : Prop :=
  ∀ (s : State) (n : Fin 13) (stamp x : Units), rawSample s n (.edge stamp) = some x →
    (unitsPerSec : Int) ∣ stamp + x - (s.cfg.b05.slot[n]).refDelayPs * unitsPerPs ∧
    -(unitsPerSec : Int) ≤ 2 * x ∧ 2 * x < unitsPerSec

/-- R111, R113, R121, R138 (`refPhaseSample`): a phase sample joins its slot's track through the filter; one that jumps from the track
of a time or phase slot in ELIGIBLE or SELECTED is discarded and counted, and the third in a row sends the slot back to QUALIFYING,
with event 0x0505 and its samples emptied (log entry 90); what an owning block delivered is taken once. A slot awaited after a reload
takes the first sample that lies near its track, outside LOAD, joining those of the last 16 s, and is awaited no more; it discards any
other. A slot that is disabled or unavailable, and a measurement that gives no sample, change nothing. Every other slot is as it was.
-/
def Obligations.PhaseSamplesAreFilteredAndJumpsDiscarded : Prop :=
  (∀ (s : State) (dt : Nat) (n : Fin 13) (m : PhaseMeas) (x : Units), rawSample (begin dt s) n m = some x →
    (s.refs[n]).awaited = false → (s.refs[n]).st ≠ .disabled → (s.refs[n]).st ≠ .unavailable →
    ¬(((s.refs[n]).st = .eligible ∨ (s.refs[n]).st = .selected) ∧ timeOrPhase (refKind s n) = true ∧ (s.refs[n]).samples ≠ [] ∧
      apartNs (filteredX (begin dt s) n x s.refs[n] : Rat) (trackAt s.refs[n] (nowUnits (begin dt s)))
        s.cfg.b05.fantail.phaseJumpNs = true) →
    Answers (.refPhaseSample dt n m) s fun t =>
      t.refs = s.refs.set n (takeSample (begin dt s) n (nowUnits (begin dt s)) x (taken m s.refs[n])) ∧
      KeepsBut [.rep, .tele, .refs] (begin dt s) t) ∧
  (∀ (s : State) (dt : Nat) (n : Fin 13) (m : PhaseMeas) (x : Units), rawSample (begin dt s) n m = some x →
    (s.refs[n]).awaited = false → (s.refs[n]).st = .eligible ∨ (s.refs[n]).st = .selected →
    timeOrPhase (refKind s n) = true → (s.refs[n]).samples ≠ [] →
    apartNs (filteredX (begin dt s) n x s.refs[n] : Rat) (trackAt s.refs[n] (nowUnits (begin dt s)))
      s.cfg.b05.fantail.phaseJumpNs = true →
    Answers (.refPhaseSample dt n m) s fun t =>
      ((s.refs[n]).jumpRun < 2 →
        t.refs = s.refs.set n { taken m s.refs[n] with jumpRun := (s.refs[n]).jumpRun + 1 } ∧
        Changes dt s t [.refs] [.count 0x050006 1]) ∧
      (2 ≤ (s.refs[n]).jumpRun →
        t.refs = s.refs.set n { taken m s.refs[n] with st := .qualifying, jumpRun := 0, samples := [] } ∧
        Changes dt s t [.refs] [eventNote 0x0505 (begin dt s) n.val, .count 0x050006 1])) ∧
  (∀ (s : State) (dt : Nat) (n : Fin 13) (m : PhaseMeas) (x : Units), rawSample (begin dt s) n m = some x →
    (s.refs[n]).awaited = true → (s.refs[n]).st ≠ .disabled → (s.refs[n]).st ≠ .unavailable →
    Answers (.refPhaseSample dt n m) s fun t =>
      (s.pwr.mode ≠ .load → qlNow (begin dt s) n < 15 →
        apartNs (x : Rat) (trackAt s.refs[n] (nowUnits (begin dt s))) s.cfg.b05.fantail.phaseJumpNs = false →
        t.refs = s.refs.set n { takeSample (begin dt s) n (nowUnits (begin dt s)) x (taken m s.refs[n]) with awaited := false } ∧
        t.gov = { s.gov with grace := t.gov.grace } ∧ (t.gov.grace = true → s.gov.grace = true) ∧
        KeepsBut [.rep, .tele, .refs, .gov] (begin dt s) t) ∧
      (s.pwr.mode = .load ∨ 15 ≤ qlNow (begin dt s) n ∨
        apartNs (x : Rat) (trackAt s.refs[n] (nowUnits (begin dt s))) s.cfg.b05.fantail.phaseJumpNs = true →
        Changes dt s t [] [])) ∧
  (∀ (s : State) (dt : Nat) (n : Fin 13) (m : PhaseMeas),
    rawSample (begin dt s) n m = none ∨ (s.refs[n]).st = .disabled ∨ (s.refs[n]).st = .unavailable →
    Answers (.refPhaseSample dt n m) s fun t => Changes dt s t [] [])

/-- R118, R119, R120, R138, R412 (`refSignalLoss`, `refQualified`, `wtrExpiry`, `graceExpiry`): a slot loses its signal, counted and
with event 0x0503, but for one awaited after a reload, which waits on with nothing counted; a qualified slot waits to restore, or at
its first eligibility since a load from RETAIN or `RESET_N` is eligible, with event 0x0502; the wait ends in ELIGIBLE; a Leat slot
that is held keeps its present state (R412); the grace after a reload ends with the slots still awaited in QUALIFYING. -/
def Obligations.ReferenceSlotsMoveBetweenStates : Prop :=
  (∀ (s : State) (dt : Nat) (n : Fin 13), (s.refs[n]).st ≠ .disabled → (s.refs[n]).st ≠ .unavailable → (s.refs[n]).st ≠ .noSignal →
    (s.refs[n]).awaited = false → slotHeld (begin dt s) n = false →
    Answers (.refSignalLoss dt n) s fun t =>
      (t.refs[n]).st = .noSignal ∧ (t.refs[n]).signal = false ∧ (∀ k : Fin 13, n ≠ k → t.refs[k] = s.refs[k]) ∧
      Changes dt s t [.refs] [.count (0x050040 + n.val) 1, eventNote 0x0503 (begin dt s) n.val]) ∧
  (∀ (s : State) (dt : Nat) (n : Fin 13), (s.refs[n]).st = .disabled ∨ (s.refs[n]).st = .unavailable ∨ (s.refs[n]).st = .noSignal ∨
      (s.refs[n]).awaited = true ∨ slotHeld (begin dt s) n = true →
    Answers (.refSignalLoss dt n) s fun t => Changes dt s t [] []) ∧
  (∀ (s : State) (dt : Nat) (n : Fin 13), (s.refs[n]).st = .qualifying → qualifies (begin dt s) n = true →
    outsideWindow (begin dt s) n = false → slotHeld (begin dt s) n = false →
    Answers (.refQualified dt n) s fun t =>
      t.refs = s.refs.set n (if (s.refs[n]).returning then { s.refs[n] with st := .wtr, wtrSince := t.clk }
        else { s.refs[n] with st := .eligible, returning := true }) ∧
      Changes dt s t [.refs] [eventNote 0x0502 (begin dt s) n.val]) ∧
  (∀ (s : State) (dt : Nat) (n : Fin 13), slotHeld (begin dt s) n = true →
    Answers (.refQualified dt n) s (fun t => Changes dt s t [] []) ∧ Answers (.wtrExpiry dt n) s fun t => Changes dt s t [] []) ∧
  (∀ (s : State) (dt : Nat) (n : Fin 13), (s.refs[n]).st = .wtr → slotHeld (begin dt s) n = false →
    Answers (.wtrExpiry dt n) s fun t =>
      t.refs = s.refs.set n { s.refs[n] with st := .eligible, returning := true } ∧ Changes dt s t [.refs] []) ∧
  (∀ (s : State) (dt : Nat), s.gov.grace = true →
    Answers (.graceExpiry dt) s fun t =>
      (∀ n : Fin 13, (s.refs[n]).awaited = true → (t.refs[n]).st = .qualifying ∧ (t.refs[n]).awaited = false ∧
        (t.refs[n]).returning = true ∧ (t.refs[n]).samples = []) ∧
      (∀ n : Fin 13, (s.refs[n]).awaited = false → t.refs[n] = s.refs[n]) ∧
      t.gov = { s.gov with grace := false } ∧ Changes dt s t [.refs, .gov] [])

/-- R125, R127, R128, R129, R155 (`refDisagree`, `refRestoredAgreement`, `returnCorroborated`): a disagreement that persists is
counted and reported, with event 0x0506; between slots of unequal rank nothing more happens; between slots of equal rank the voters
decide: the one that voters stand against is outvoted, with event 0x0507, and where they do not decide, the one not selected is
disputed, or both. What agrees again waits to restore, with event 0x0508. These commands are part of step 3 of a tick and find step 2
done where its instant has come (log entry 81). In holdover a held slot that another of a different kind corroborates is released with
it from the return window, with event 0x0608. -/
def Obligations.DisagreementsAreVotedOn : Prop :=
  (∀ (s u : State) (dt : Nat) (i j : Fin 13), u = slotsFirst (begin dt s) → i ≠ j → inPlay u i = true → inPlay u j = true →
    slotsAgree u i j = false →
    (u.refs[i]).ql ≠ (u.refs[j]).ql ∨ (s.cfg.b05.slot[i]).refPriority ≠ (s.cfg.b05.slot[j]).refPriority →
    Answers (.refDisagree dt i j) s fun t =>
      ChangesFrom u s t [] [.count 0x050005 1, eventNote 0x0506 u i.val j.val]) ∧
  (∀ (s u : State) (dt : Nat) (i j : Fin 13) (a b : Bool), u = slotsFirst (begin dt s) → i ≠ j → inPlay u i = true → inPlay u j = true →
    slotsAgree u i j = false →
    (u.refs[i]).ql = (u.refs[j]).ql → (s.cfg.b05.slot[i]).refPriority = (s.cfg.b05.slot[j]).refPriority →
    a = (voters u i j).any (fun k => slotsAgree u k i && !slotsAgree u k j) →
    b = (voters u i j).any (fun k => slotsAgree u k j && !slotsAgree u k i) →
    Answers (.refDisagree dt i j) s fun t =>
      (a = true → b = false →
        t.refs = u.refs.set j { u.refs[j] with st := .outvoted } ∧
        ChangesFrom u s t [.refs] [eventNote 0x0507 u j.val, .count 0x050005 1, eventNote 0x0506 u i.val j.val]) ∧
      (b = true → a = false →
        t.refs = u.refs.set i { u.refs[i] with st := .outvoted } ∧
        ChangesFrom u s t [.refs] [eventNote 0x0507 u i.val, .count 0x050005 1, eventNote 0x0506 u i.val j.val]) ∧
      (a = b →
        (u.gov.sel = some i → t.refs = u.refs.set j { u.refs[j] with st := .disputed, partner := some i }) ∧
        (u.gov.sel = some j → t.refs = u.refs.set i { u.refs[i] with st := .disputed, partner := some j }) ∧
        (u.gov.sel ≠ some i → u.gov.sel ≠ some j →
          t.refs = (u.refs.set j { u.refs[j] with st := .disputed, partner := some i }).set i
            { u.refs[i] with st := .disputed, partner := some j }) ∧
        ChangesFrom u s t [.refs] [.count 0x050005 1, eventNote 0x0506 u i.val j.val])) ∧
  (∀ (s u : State) (dt : Nat) (n k : Fin 13), u = slotsFirst (begin dt s) → ((u.refs[n]).st = .outvoted ∧ u.gov.sel = some k) ∨
      ((u.refs[n]).st = .disputed ∧ (u.refs[n]).partner = some k) → slotsAgree u n k = true →
    Answers (.refRestoredAgreement dt n) s fun t =>
      t.refs = u.refs.set n { u.refs[n] with st := .wtr, wtrSince := t.clk, partner := none } ∧
      ChangesFrom u s t [.refs] [eventNote 0x0508 u n.val]) ∧
  (∀ (s : State) (dt : Nat) (i j : Fin 13), i ≠ j → govMode s = .holdover → (s.refs[i]).held = true →
    (s.refs[j]).held = true ∨ (s.refs[j]).st = .wtr ∨ (s.refs[j]).st = .eligible → refKind s i ≠ refKind s j →
    timeOrPhase (refKind s i) = true → timeOrPhase (refKind s j) = true →
    beyondNs ((s.refs[i]).x - (s.refs[j]).x) s.cfg.b05.fantail.disagreeNs = false →
    Answers (.returnCorroborated dt i j) s fun t =>
      (t.refs[i]).held = false ∧ (t.refs[i]).released = true ∧ (t.refs[j]).held = false ∧ (t.refs[j]).released = true ∧
      (∀ k : Fin 13, i ≠ k → j ≠ k → t.refs[k] = s.refs[k]) ∧
      Changes dt s t [.refs] [eventNote 0x0608 (begin dt s) i.val j.val])

/-- R114, R116, R243, R258 (`esmcRx`, `esmcTimeout`): an ESMC frame leaves its codes with the slot of its lane where the device
serves, or reloads (R116; log entry 102), and the link of the port that carries the lane is up, and is counted; in any other LOAD and
in SAFE it is dropped and counted; where it lies is recorded (R243; the command does not tell it, log entry 16); without the link
nothing arrives. Its absence leaves the slot no code. R251, R254, R260, R261 (`esmcInfoTx`): the information PDU of a second carries
the codes of R260 and is counted once it takes the line; a pause or a committed launch holds it; it is not sent in LOAD or SAFE. -/
def Obligations.EsmcIsReceivedAndSent : Prop :=
  (∀ (s : State) (dt : Nat) (k : Fin 2) (p : Fin 8) (ssm : Nat) (tlv : Option EsmcTlv),
    p = lanePort s (Fin.ofNat 8 (s.cfg.b05.slot[11 + k.val]).synceLane) → (s.ports[p]).link = true →
    serving s = true ∨ s.pwr.mode = .load ∧ s.pwr.loadKind = .reload →
    Answers (.esmcRx dt k ssm tlv) s fun t =>
      t.refs = s.refs.set (11 + k.val) { s.refs[11 + k.val] with ssm := some (ssm % 16, tlv) } ∧
      t.ports = (recordRx p (openPoint (begin dt s)) (begin dt s)).ports ∧ Changes dt s t [.refs, .ports] [.count (0x0A0028 + p.val) 1]) ∧
  (∀ (s : State) (dt : Nat) (k : Fin 2) (p : Fin 8) (ssm : Nat) (tlv : Option EsmcTlv),
    p = lanePort s (Fin.ofNat 8 (s.cfg.b05.slot[11 + k.val]).synceLane) → (s.ports[p]).link = true →
    s.pwr.mode = .load ∧ s.pwr.loadKind ≠ .reload ∨ s.pwr.mode = .safe →
    Answers (.esmcRx dt k ssm tlv) s fun t =>
      t.ports = (recordRx p (openPoint (begin dt s)) (begin dt s)).ports ∧ Changes dt s t [.ports] [.count (0x0A0048 + p.val) 1]) ∧
  (∀ (s : State) (dt : Nat) (k : Fin 2) (ssm : Nat) (tlv : Option EsmcTlv),
    (s.ports[lanePort s (Fin.ofNat 8 (s.cfg.b05.slot[11 + k.val]).synceLane)]).link = false →
    Answers (.esmcRx dt k ssm tlv) s fun t => Changes dt s t [] []) ∧
  (∀ (s : State) (dt : Nat) (k : Fin 2),
    Answers (.esmcTimeout dt k) s fun t =>
      t.refs = s.refs.set (11 + k.val) { s.refs[11 + k.val] with ssm := none } ∧ Changes dt s t [.refs] []) ∧
  (∀ (s : State) (dt : Nat) (p : Fin 8), esmcSends s p = true →
    pauseEnd (begin dt s) p (Fin.ofNat 8 (portCfg s p).untaggedPrio) = none → fitsBeside (begin dt s) p 64 = true →
    Answers (.esmcInfoTx dt p) s fun t =>
      t.out = [.esmc p (esmcCodes s p).1 (esmcTlv s (esmcCodes s p).2) false] ∧ (t.ports[p]).ssm = (esmcCodes s p).1 ∧
      (t.ports[p]).essm = (esmcCodes s p).2 ∧ (∀ k : Fin 8, p ≠ k → t.ports[k] = s.ports[k]) ∧
      (s.pwr.mode = .acquire ∨ dnuLoop s p = true → (esmcCodes s p).1 = 0xF) ∧
      Changes dt s t [.ports, .out] [.count (0x0A0090 + p.val) 1]) ∧
  (∀ (s : State) (dt : Nat) (p : Fin 8), esmcSends s p = true →
    pauseEnd (begin dt s) p (Fin.ofNat 8 (portCfg s p).untaggedPrio) ≠ none ∨ fitsBeside (begin dt s) p 64 = false →
    Answers (.esmcInfoTx dt p) s fun t =>
      t.out = [] ∧ (t.ports[p]).ssm = (esmcCodes s p).1 ∧ (t.ports[p]).essm = (esmcCodes s p).2 ∧
      (t.ports[p]).waiting.length = (s.ports[p]).waiting.length + 1 ∧ (∀ k : Fin 8, p ≠ k → t.ports[k] = s.ports[k]) ∧
      Changes dt s t [.ports] []) ∧
  (∀ (s : State) (dt : Nat) (p : Fin 8), esmcSends s p = false →
    Answers (.esmcInfoTx dt p) s fun t => Changes dt s t [] [])

/-- R196, R197, R201, R202, R203, R204 (`icStartEdge`, `icStopEdge`, `icWindowTimeout`, `icConversionDone`): the time of an edge is
the tick that follows it, less its count of fast cycles at the cell's calibrated step and its channel's delay (log entry 51); it waits
in its place until no edge that left its source before it can come any more, and is then taken (R196). A start so taken opens a
window, from 1 µs after the start before it, in single mode only where it is armed; an earlier one is counted and ignored; the edge of
a stop channel within 3 ps before it is claimed as coincident. A stop of an interval channel in the window is numbered, from 4 ns
after the one before it: after a start decided first its interval is recorded in whole picoseconds; one that is within 3 ps, or after
the start though decided before it, is recorded as coincident with interval 0; so is one decided after the start that is more than 3
ps before it, with event 0x0807; one that comes before the start, or with no window open, is counted as early; one under 4 ns after
the stop before it is counted as too close; beyond `MAX_STOPS` they are counted, the first with its overflow record and event 0x0801.
An edge that a timestamp or frequency channel counts to its divider is recorded with its stamp, or is counted where no pair is free.
An edge of a channel whose source is the second marker does not come this way. -/
def Obligations.StartOpensAWindowAndStopsAreTimed : Prop :=
  (∀ (s : State) (dt : Nat) (f : Fin 800) (u : Units), StartSettles dt s f u → (s.cfg.b08.ic.armMode = 2 → s.ic.singleArmed = true) →
    (∀ l, s.ic.lastStart = some l → (1000 * unitsPerNs : Nat) ≤ u - l) →
    Answers (.icStartEdge dt f) s fun t =>
      t.ic.windowOpen = true ∧ t.ic.startAt = u ∧ t.ic.lastStart = some u ∧ t.ic.singleArmed = false ∧
      t.ic.windowSeq = (s.ic.windowSeq + 1) % 2 ^ 32 ∧ t.ic.line = s.ic.line ∧
      ((∀ n : Fin 8, claims s n u = false) →
        (∀ n : Fin 8, t.ic.stop[n] = { s.ic.stop[n] with stops := 0, shut := false, overflowed := false, lastEdge := none }) ∧
        (s.ic.queue.length < 256 →
          (∃ r, t.ic.queue = insertRec r s.ic.queue ∧ r.kind = .start ∧ r.instant = u ∧ r.window = t.ic.windowSeq ∧
            r.stamp = stampOf u (degradedNow (begin dt s)) ∧ r.synth = false) ∧ Changes dt s t [.ic] []) ∧
        (256 ≤ s.ic.queue.length → t.ic.queue = s.ic.queue ∧ Changes dt s t [.ic] [.count 0x08000B 1])) ∧
      (∀ n : Fin 8, claims s n u = true → (∀ k : Fin 8, n ≠ k → claims s k u = false) → s.ic.queue.length < 255 →
        ∀ e, (s.ic.stop[n]).recent = some e →
        (t.ic.stop[n]).stops = 1 ∧ (t.ic.stop[n]).lastEdge = some e.1 ∧
        (∃ r ∈ t.ic.queue, r.kind = .stop n ∧ r.index = 0 ∧ r.coincident = true ∧ r.interval = 0 ∧ r.window = t.ic.windowSeq) ∧
        Changes dt s t [.ic] (.count 0x080008 1 :: (match e.2 with
          | some a => [.taken a 1]
          | none => [])))) ∧
  (∀ (s : State) (dt : Nat) (f : Fin 800) (u l : Units), StartSettles dt s f u → s.ic.lastStart = some l → u - l < (1000 * unitsPerNs : Nat) →
    Answers (.icStartEdge dt f) s fun t => Changes dt s t [] [.count 0x08000A 1]) ∧
  (∀ (s : State) (dt : Nat) (n : Fin 8) (f : Fin 800) (b : Bool) (u : Units), StopSettles dt s n f u → s.ic.windowOpen = true →
    (s.ic.stop[n]).shut = false → (∀ l, (s.ic.stop[n]).lastEdge = some l → (4 * unitsPerNs : Nat) ≤ u - l) →
    (s.ic.stop[n]).stops ≤ (s.cfg.b08.stop[n]).maxStops → s.ic.queue.length < 256 →
    b = true ∨ -((3 * unitsPerPs : Nat) : Int) ≤ u - s.ic.startAt →
    Answers (.icStopEdge dt n f b) s fun t =>
      (∃ r, t.ic.queue = insertRec r s.ic.queue ∧ r.kind = .stop n ∧ r.index = (s.ic.stop[n]).stops ∧
        r.coincident = !(b && decide ((3 * unitsPerPs : Nat) < u - s.ic.startAt)) ∧
        r.interval = (if r.coincident then 0 else (wholeOf (((u - s.ic.startAt : Int) : Rat) / (unitsPerPs : Nat))).toNat % 2 ^ 48) ∧
        r.stamp = stampOf u (degradedNow (begin dt s) || s.ic.startDegraded) ∧
        r.instant = u ∧ r.window = s.ic.windowSeq ∧ r.overflow = false ∧ r.spacing = (s.ic.stop[n]).spacingDue) ∧
      Changes dt s t [.ic] (if b = true ∧ (3 * unitsPerPs : Nat) < u - s.ic.startAt then [] else if u - s.ic.startAt < -((3 * unitsPerPs : Nat) : Int)
        then [eventNote 0x0807 (begin dt s) n.val, .count 0x080009 1] else [.count 0x080008 1]) ∧
      (t.ic.stop[n]).stops = (s.ic.stop[n]).stops + 1 ∧ (t.ic.stop[n]).lastEdge = some u ∧ (t.ic.stop[n]).spacingDue = false ∧
      (∀ k : Fin 8, n ≠ k → t.ic.stop[k] = s.ic.stop[k]) ∧ t.ic.windowOpen = true ∧ t.ic.ring = s.ic.ring ∧ t.ic.line = s.ic.line) ∧
  (∀ (s : State) (dt : Nat) (n : Fin 8) (f : Fin 800) (b : Bool) (u : Units), StopSettles dt s n f u →
    s.ic.windowOpen = false ∨ (s.ic.stop[n]).shut = true ∨ b = false ∧ u - s.ic.startAt < -((3 * unitsPerPs : Nat) : Int) →
    Answers (.icStopEdge dt n f b) s fun t =>
      t.ic = { s.ic with stop := s.ic.stop.set n { s.ic.stop[n] with recent := some (u, some 0x080005) } } ∧
      Changes dt s t [.ic] [.count 0x080005 1]) ∧
  (∀ (s : State) (dt : Nat) (n : Fin 8) (f : Fin 800) (u : Units), StopSettles dt s n f u → s.ic.windowOpen = true →
    (s.ic.stop[n]).shut = false → (3 * unitsPerPs : Nat) < u - s.ic.startAt →
    Answers (.icStopEdge dt n f true) s fun t =>
      (∀ l, (s.ic.stop[n]).lastEdge = some l → u - l < (4 * unitsPerNs : Nat) →
        t.ic = { s.ic with stop := s.ic.stop.set n { s.ic.stop[n] with spacingDue := true } } ∧
        Changes dt s t [.ic] [.count 0x080006 1]) ∧
      ((∀ l, (s.ic.stop[n]).lastEdge = some l → (4 * unitsPerNs : Nat) ≤ u - l) →
        (s.cfg.b08.stop[n]).maxStops < (s.ic.stop[n]).stops →
        ((s.ic.stop[n]).overflowed = false → s.ic.queue.length < 256 →
          (∃ r, t.ic.queue = insertRec r s.ic.queue ∧ r.kind = .stop n ∧ r.index = 15 ∧ r.overflow = true ∧ r.interval = 0 ∧
            r.stamp = stampOf u (degradedNow (begin dt s) || s.ic.startDegraded)) ∧
          t.ic.stop = s.ic.stop.set n { s.ic.stop[n] with recent := some (u, some 0x080007), overflowed := true } ∧
          Changes dt s t [.ic] [eventNote 0x0801 (begin dt s) n.val, .count 0x080007 1]) ∧
        ((s.ic.stop[n]).overflowed = true →
          t.ic = { s.ic with stop := s.ic.stop.set n { s.ic.stop[n] with recent := some (u, some 0x080007) } } ∧
          Changes dt s t [.ic] [.count 0x080007 1]))) ∧
  (∀ (s : State) (dt : Nat) (f : Fin 800) (u : Units), s.cfg.b08.ic.armMode ≠ 0 → s.ic.startCell ≠ none → s.cfg.b08.ic.startSrc ≠ 12 →
    u = edgeTime (begin dt s) s.ic.startCell f - s.cfg.b08.ic.startDelayPs * unitsPerPs → NoneSettled dt s →
    nowUnits (begin dt s) < u + icLag s →
    Answers (.icStartEdge dt f) s fun t =>
      t.ic = { s.ic with line := insertEdge ⟨.start, u, none, degradedNow (begin dt s), false⟩ s.ic.line } ∧
      Changes dt s t [.ic] []) ∧
  (∀ (s : State) (dt : Nat) (n : Fin 8) (f : Fin 800) (b : Bool) (u : Units), stopWorks s n = true → (s.cfg.b08.stop[n]).stopMode = 0 →
    (s.cfg.b08.stop[n]).stopSrc ≠ 12 →
    u = edgeTime (begin dt s) (s.ic.stop[n]).cell f - (s.cfg.b08.stop[n]).stopDelayPs * unitsPerPs → NoneSettled dt s →
    nowUnits (begin dt s) < u + icLag s →
    Answers (.icStopEdge dt n f b) s fun t =>
      t.ic = { s.ic with line := insertEdge ⟨.stop n, u, some b, degradedNow (begin dt s), false⟩ s.ic.line } ∧
      Changes dt s t [.ic] []) ∧
  (∀ (s : State) (dt : Nat) (n : Fin 8) (f : Fin 800) (b : Bool), stopWorks s n = true → (s.cfg.b08.stop[n]).stopMode ≠ 0 →
    (s.cfg.b08.stop[n]).stopSrc ≠ 12 → NoneSettled dt s →
    Answers (.icStopEdge dt n f b) s fun t =>
      ((s.ic.stop[n]).divCount + 1 < (s.cfg.b08.stop[n]).stopDiv →
        t.ic = { s.ic with stop := s.ic.stop.set n { s.ic.stop[n] with divCount := (s.ic.stop[n]).divCount + 1 } } ∧ Changes dt s t [.ic] []) ∧
      ((s.cfg.b08.stop[n]).stopDiv ≤ (s.ic.stop[n]).divCount + 1 → pairFree s (s.ic.stop[n]).cell (s.cfg.b08.stop[n]).stopSrc = false →
        t.ic = { s.ic with stop := s.ic.stop.set n { s.ic.stop[n] with divCount := 0, spacingDue := true } } ∧
        Changes dt s t [.ic] [.count 0x080006 1])) ∧
  (∀ (s : State) (dt : Nat) (n : Fin 8) (f : Fin 800) (b : Bool) (u : Units), stopWorks s n = true → (s.cfg.b08.stop[n]).stopMode ≠ 0 →
    (s.cfg.b08.stop[n]).stopSrc ≠ 12 → (s.cfg.b08.stop[n]).stopDiv ≤ (s.ic.stop[n]).divCount + 1 →
    pairFree s (s.ic.stop[n]).cell (s.cfg.b08.stop[n]).stopSrc = true → s.ic.queue.length < 256 →
    u = edgeTime (begin dt s) (s.ic.stop[n]).cell f - (s.cfg.b08.stop[n]).stopDelayPs * unitsPerPs → NoneSettled dt s →
    u + icLag s ≤ nowUnits (begin dt s) →
    Answers (.icStopEdge dt n f b) s fun t =>
      (∃ r, t.ic.queue = insertRec r s.ic.queue ∧ r.kind = .stop n ∧ r.instant = u ∧ r.stamp = stampOf u (degradedNow (begin dt s)) ∧
        r.spacing = (s.ic.stop[n]).spacingDue) ∧
      (t.ic.stop[n]).divCount = 0 ∧ (t.ic.stop[n]).spacingDue = false ∧
      (∀ k : Fin 8, n ≠ k → t.ic.stop[k] = s.ic.stop[k]) ∧ Changes dt s t [.ic] []) ∧
  (∀ (s : State) (dt : Nat) (f : Fin 800), s.cfg.b08.ic.startSrc = 12 → NoneSettled dt s →
    Answers (.icStartEdge dt f) s fun t => Changes dt s t [] []) ∧
  (∀ (s : State) (dt : Nat) (n : Fin 8) (f : Fin 800) (b : Bool), (s.cfg.b08.stop[n]).stopSrc = 12 → NoneSettled dt s →
    Answers (.icStopEdge dt n f b) s fun t => Changes dt s t [] []) ∧
  (∀ (s : State) (dt : Nat), NoneSettled dt s → Answers (.icWindowTimeout dt) s fun t =>
    t.ic = { s.ic with windowOpen := false } ∧ Changes dt s t [.ic] []) ∧
  (∀ (s : State) (dt : Nat) (c : Fin 12), Answers (.icConversionDone dt c) s fun t =>
    t.ic = { s.ic with busy := s.ic.busy.set c (s.ic.busy[c] - 1) } ∧ Changes dt s t [.ic] [])

/-- R204, R208, R209 (`icGateEnd`, `icFreqResult`): a frequency channel's gates: one with fewer than three stamps, or one that a step,
LOAD or a cell swap fell into, has no result and event 0x0803; another keeps its stamps, with its end, after the gates whose results
are still due; the next gate starts. The result of the oldest gate is computed and its record takes its place in the queue (log entry
97). R70, R205, R206, R210, R451, R474 (`icRingWrite`, `icCellSwap`): the records that wait stand in the order of the edges they
describe, and the first enters the ring once its place is settled (log entry 97), with the step epoch and the time validity of its
writing, and with event 0x0806 after a loss; until then it waits. A retired cell is replaced by the lowest spare one, with event
0x0804, and a cell that is not retired stays; a stop channel's open gate then holds a cell swap. The reserve of cells is one less,
reported by events 0x1109 and 0x110A where it is low or empty, and the item of retention RAM that counts it is rewritten. -/
def Obligations.GatesRingAndCellSwaps : Prop :=
  (∀ (s : State) (dt : Nat) (n : Fin 8) (g fresh : IcGate), stopWorks s n = true → (s.cfg.b08.stop[n]).stopMode = 2 →
    (s.ic.stop[n]).gate = some g → NoneSettled dt s →
    fresh = { bad := s.pwr.mode == .load, div := (s.cfg.b08.stop[n]).stopDiv, nom := (s.cfg.b08.stop[n]).nomFreqHz } →
    Answers (.icGateEnd dt n) s fun t =>
      (g.bad = true ∨ g.stamps.length < 3 →
        t.ic.stop = s.ic.stop.set n { s.ic.stop[n] with gate := some fresh } ∧
        Changes dt s t [.ic] [eventNote 0x0803 (begin dt s) n.val]) ∧
      (g.bad = false → 3 ≤ g.stamps.length →
        t.ic.stop = s.ic.stop.set n { s.ic.stop[n] with gate := some fresh, closed := (s.ic.stop[n]).closed ++ [{ g with
          stop := (nowUnits (begin dt s) - icLag s).toNat / unitsPerNs / ((s.cfg.b08.stop[n]).gateMs * 1000000) *
            ((s.cfg.b08.stop[n]).gateMs * 1000000)
          seg := s.ic.steps }] } ∧
        Changes dt s t [.ic] [])) ∧
  (∀ (s : State) (dt : Nat) (n : Fin 8) (g : IcGate) (l : List IcGate), (s.ic.stop[n]).closed = g :: l → s.ic.queue.length < 256 →
    Answers (.icFreqResult dt n) s fun t =>
      (t.ic.stop[n]).closed = l ∧
      (t.ic.stop[n]).freqResult = wholeOf ((regression g.stamps g.div g.nom).1 * (10 ^ 18 : Nat)) ∧
      (∃ r, t.ic.queue = insertRec r s.ic.queue ∧ r.kind = .freq n ∧ r.instant = ((g.stop * unitsPerNs : Nat) : Int) ∧ r.seg = g.seg ∧ r.freqN = g.stamps.length ∧
        r.freqResult = (t.ic.stop[n]).freqResult) ∧
      (∀ k : Fin 8, n ≠ k → t.ic.stop[k] = s.ic.stop[k]) ∧ Changes dt s t [.ic] []) ∧
  (∀ (s : State) (dt : Nat) (r : IcRec) (q : List IcRec), NoneSettled dt s → s.ic.queue = r :: q →
    recSettled (begin dt s) r = true →
    Answers (.icRingWrite dt) s fun t =>
      t.ic = { s.ic with queue := q, ring := (asWritten s r :: s.ic.ring).take 2048, head := (s.ic.head + 1) % 65536 } ∧
      t.tele = { s.tele with icUnsent := s.tele.icUnsent + 1 } ∧
      Changes dt s t [.ic, .tele] (if r.afterLoss then [eventNote 0x0806 (begin dt s)] else [])) ∧
  (∀ (s : State) (dt : Nat) (r : IcRec) (q : List IcRec), NoneSettled dt s → s.ic.queue = r :: q →
    recSettled (begin dt s) r = false →
    Answers (.icRingWrite dt) s fun t => Changes dt s t [] []) ∧
  (∀ (s : State) (dt : Nat) (c : Fin 12), cellRetired s s.ic.startCell = true → (spareCells s).head? = some c →
    Answers (.icCellSwap dt .start) s fun t =>
      t.ic = { s.ic with startCell := some c } ∧ CellTaken dt s t [eventNote 0x0804 (begin dt s) 8 c.val]) ∧
  (∀ (s : State) (dt : Nat) (n : Fin 8) (c : Fin 12), cellRetired s (s.ic.stop[n]).cell = true → (spareCells s).head? = some c →
    Answers (.icCellSwap dt (.stop n)) s fun t =>
      t.ic = { s.ic with stop := s.ic.stop.set n { s.ic.stop[n] with
        cell := some c, gate := (s.ic.stop[n]).gate.map fun g => { g with bad := true } } } ∧
      CellTaken dt s t [eventNote 0x0804 (begin dt s) n.val c.val]) ∧
  (∀ (s : State) (dt : Nat), cellRetired s s.ic.startCell = false →
    Answers (.icCellSwap dt .start) s fun t => Changes dt s t [] []) ∧
  (∀ (s : State) (dt : Nat) (n : Fin 8), cellRetired s (s.ic.stop[n]).cell = false →
    Answers (.icCellSwap dt (.stop n)) s fun t => Changes dt s t [] [])

/-- R216, R218, R219, R221 (`ppsEdge`, `ppsFall`): when a scheduled edge's instant has come, `PPS_DELAY_PS` before its time, an
unmuted output that is low makes a pulse of its width, counted; one still high defers it to the fall, or, where that would delay it by
more than its own width, skips it, counted; a muted one makes none. In each case a periodic output schedules the next edge, and an
armed one is done. Before its instant the edge changes nothing. The pulse falls; a mute that waited for it then takes effect, with
event 0x0906, and a deferred edge is made. -/
def Obligations.PulsesFollowTheirSchedule : Prop :=
  (∀ (s : State) (dt : Nat) (n : Fin 4) (T : Nat) (u : Units), (s.outs.pps[n]).next = some T →
    u = riseAt s n T → instantCome (begin dt s) u = true → (s.outs.pps[n]).muted = false → (s.outs.pps[n]).high = false →
    Answers (.ppsEdge dt n) s fun t =>
      t.outs = { s.outs with pps := s.outs.pps.set n { s.outs.pps[n] with
        high := true, deferred := false, fallAt := u + ppsWide s n
        st := if (s.outs.pps[n]).st = .armed then .done else (s.outs.pps[n]).st
        next := if (s.outs.pps[n]).st = .armed then none
          else if (s.outs.pps[n]).st = .periodic then some (T + (s.cfg.b09.pps[n]).ppsPeriod) else some T } } ∧
      t.out = [.pulse n u] ∧ Changes dt s t [.outs, .out] [.count (0x090010 + n.val) 1]) ∧
  (∀ (s : State) (dt : Nat) (n : Fin 4) (T : Nat) (u : Units), (s.outs.pps[n]).next = some T →
    u = riseAt s n T → instantCome (begin dt s) u = true → (s.outs.pps[n]).muted = true ∨ (s.outs.pps[n]).high = true →
    Answers (.ppsEdge dt n) s fun t =>
      t.outs = { s.outs with pps := s.outs.pps.set n { s.outs.pps[n] with
        deferred := if (s.outs.pps[n]).muted = false ∧ (s.outs.pps[n]).fallAt - u ≤ ppsWide s n then true else (s.outs.pps[n]).deferred
        st := if (s.outs.pps[n]).st = .armed then .done else (s.outs.pps[n]).st
        next := if (s.outs.pps[n]).st = .armed then none
          else if (s.outs.pps[n]).st = .periodic then some (T + (s.cfg.b09.pps[n]).ppsPeriod) else some T } } ∧
      Changes dt s t [.outs] (if (s.outs.pps[n]).muted = false ∧ ppsWide s n < (s.outs.pps[n]).fallAt - u
        then [.count (0x090014 + n.val) 1] else [])) ∧
  (∀ (s : State) (dt : Nat) (n : Fin 4), (s.outs.pps[n]).next = none ∨
      (∃ T, (s.outs.pps[n]).next = some T ∧ instantCome (begin dt s) (riseAt s n T) = false) →
    Answers (.ppsEdge dt n) s fun t => Changes dt s t [] []) ∧
  (∀ (s : State) (dt : Nat) (n : Fin 4), (s.outs.pps[n]).high = true → instantCome (begin dt s) (s.outs.pps[n]).fallAt = true →
    (s.outs.pps[n]).deferred = false → ppsMuteWanted s n = false ∨ (s.outs.pps[n]).muted = true →
    Answers (.ppsFall dt n) s fun t =>
      t.outs = { s.outs with pps := s.outs.pps.set n { s.outs.pps[n] with high := false } } ∧ Changes dt s t [.outs] []) ∧
  (∀ (s : State) (dt : Nat) (n : Fin 4), (s.outs.pps[n]).high = true → instantCome (begin dt s) (s.outs.pps[n]).fallAt = true →
    ppsMuteWanted s n = true → (s.outs.pps[n]).muted = false →
    Answers (.ppsFall dt n) s fun t =>
      t.outs = { s.outs with pps := s.outs.pps.set n { s.outs.pps[n] with high := false, muted := true, deferred := false } } ∧
      Changes dt s t [.outs] [eventNote 0x0906 (begin dt s) n.val]) ∧
  (∀ (s : State) (dt : Nat) (n : Fin 4), (s.outs.pps[n]).high = true → instantCome (begin dt s) (s.outs.pps[n]).fallAt = true →
    (s.outs.pps[n]).deferred = true → ppsMuteWanted s n = false →
    Answers (.ppsFall dt n) s fun t =>
      (t.outs.pps[n]).high = true ∧ (t.outs.pps[n]).deferred = false ∧
      (t.outs.pps[n]).fallAt = (s.outs.pps[n]).fallAt + ppsWide s n ∧ t.out = [.pulse n (s.outs.pps[n]).fallAt] ∧
      (∀ k : Fin 4, n ≠ k → t.outs.pps[k] = s.outs.pps[k]) ∧ Changes dt s t [.outs, .out] [.count (0x090010 + n.val) 1]) ∧
  (∀ (s : State) (dt : Nat) (n : Fin 4), (s.outs.pps[n]).high = false ∨ instantCome (begin dt s) (s.outs.pps[n]).fallAt = false →
    Answers (.ppsFall dt n) s fun t => Changes dt s t [] [])

/-- R222, R223, R224 (`clkDivChange`, `clkRealigned`): a changed divider takes effect, and the output drives its wave: of the odd
divider's periods the greater half high; a divider that is to be aligned restarts once at a second boundary, counted, with event
0x0904; elsewhere nothing changes. R226 to R230 (`todSentence`, `todEchoCheck`): the first sentence due whose moment has come is sent
and counted, or not sent where `TODTX` is low or the sentence is disabled; before its moment nothing is sent. What `TODRX` received is
compared with the sentence sent last, and where it differs counted, with event 0x0905, if the check is enabled. -/
def Obligations.DividersAndTodSentences : Prop :=
  (∀ (s : State) (dt : Nat) (n : Fin 2) (d : Nat), d = (s.cfg.b09.clk[n]).clkDiv → Answers (.clkDivChange dt n) s fun t =>
    t.outs = { s.outs with clk := s.outs.clk.set n { s.outs.clk[n] with
      divAct := d
      drive := if (s.outs.clk[n]).running then
        some { period := d, high := (d + 1) / 2, complement := !(s.cfg.b09.clk[n]).clkType } else none } } ∧
    Changes dt s t [.outs] []) ∧
  (∀ (s : State) (dt : Nat) (n : Fin 2), (s.outs.clk[n]).running = true → (s.outs.clk[n]).alignDue = true →
    atSecond (begin dt s) = true →
    Answers (.clkRealigned dt n) s fun t =>
      t.outs = { s.outs with clk := s.outs.clk.set n { s.outs.clk[n] with alignDue := false, aligned := true } } ∧
      Changes dt s t [.outs] [eventNote 0x0904 (begin dt s) n.val, .count 0x09001A 1]) ∧
  (∀ (s : State) (dt : Nat) (n : Fin 2), (s.outs.clk[n]).running = false ∨ (s.outs.clk[n]).alignDue = false ∨
      atSecond (begin dt s) = false →
    Answers (.clkRealigned dt n) s fun t => Changes dt s t [] []) ∧
  (∀ (s : State) (dt : Nat) (c : TodContent), s.outs.todDue.find? (fun c => instantCome (begin dt s) c.start) = some c →
    todLow s = false → s.cfg.b09.tod.todEn = true →
    Answers (.todSentence dt) s fun t =>
      t.outs = { s.outs with todDue := s.outs.todDue.erase c, todSent := some (todSentence c) } ∧ t.out = [.todTx (todSentence c)] ∧
      Changes dt s t [.outs, .out] [.count 0x09001C 1]) ∧
  (∀ (s : State) (dt : Nat) (c : TodContent), s.outs.todDue.find? (fun c => instantCome (begin dt s) c.start) = some c →
    todLow s = true ∨ s.cfg.b09.tod.todEn = false →
    Answers (.todSentence dt) s fun t => t.outs = { s.outs with todDue := s.outs.todDue.erase c } ∧ Changes dt s t [.outs] []) ∧
  (∀ (s : State) (dt : Nat), (∀ c ∈ s.outs.todDue, instantCome (begin dt s) c.start = false) →
    Answers (.todSentence dt) s fun t => Changes dt s t [] []) ∧
  (∀ (s : State) (dt : Nat) (b rx : Bytes), s.outs.todSent = some b →
    Answers (.todEchoCheck dt rx) s fun t =>
      t.outs = { s.outs with todSent := none } ∧
      Changes dt s t [.outs] (if s.cfg.b09.tod.todEchoEn = true ∧ rx ≠ b then [eventNote 0x0905 (begin dt s), .count 0x09001D 1] else [])) ∧
  (∀ (s : State) (dt : Nat) (rx : Bytes), s.outs.todSent = none → Answers (.todEchoCheck dt rx) s fun t => Changes dt s t [] [])

/-- R152, R153 (`holdoverExpired`): the budget of holdover exceeded, the expired state is set by the rate of growth, with event
0x0602, and the timer reads 0; a pulse output that is low is muted exactly where expiry is to mute it; beside that only the outputs'
own mutes follow. Where it is not exceeded, or no unexpired holdover runs, nothing changes. The command is part of step 4 of a tick
and finds its steps 2 and 3 done where its instant has come (log entry 81). R316, R317, R323 (`ntpLiChanged`, `ntsKeyActivated`,
`ntsKeyRetired`): a key slot that has reached its activation or its retirement takes that state, with event 0x0C01 or 0x0C02, and the
minting slot follows; the leap warning changes LI, with event 0x0C06. -/
def Obligations.HoldoverKeysAndLeapFollowTheTime : Prop :=
  (∀ (s u : State) (dt : Nat), u = disputesFirst (begin dt s) → u.ho.st = 1 → (u.ho.par.hoBudgetNs : Rat) < u.ho.e →
    Answers (.holdoverExpired dt) s fun t =>
      t.ho = { u.ho with remaining := 0, st :=
        if u.ho.f ≤ milli u.ho.par.cat1Ppb ∧ u.ho.dco = false then 2
        else if u.ho.f ≤ milli u.ho.par.cat2Ppb ∧ u.ho.dco = false then 3 else 4 } ∧
      (∃ e ∈ t.rep.ring, e.code = 0x0602 ∧ e.stamp = stampNow u) ∧
      (∀ n : Fin 4, (u.outs.pps[n]).high = false → (t.outs.pps[n]).muted = ppsMuteWanted t n) ∧
      t.outs.todDue = u.outs.todDue ∧ t.outs.todSent = u.outs.todSent ∧ KeepsBut [.rep, .ho, .outs] u t) ∧
  (∀ (s u : State) (dt : Nat), u = disputesFirst (begin dt s) → u.ho.st ≠ 1 ∨ u.ho.e ≤ (u.ho.par.hoBudgetNs : Rat) →
    Answers (.holdoverExpired dt) s fun t => ChangesFrom u s t [] []) ∧
  (∀ (s : State) (dt : Nat), s.pwr.mode ≠ .load → s.ntp.advLi ≠ liNow (begin dt s) →
    Answers (.ntpLiChanged dt) s fun t =>
      t.ntp = { s.ntp with advLi := liNow (begin dt s) } ∧ Changes dt s t [.ntp] [eventNote 0x0C06 (begin dt s)]) ∧
  (∀ (s : State) (dt : Nat) (n : Fin 64) (k : NtsKeyRec), s.pwr.mode ≠ .load → keyRec s n = some k →
    k.keyActivate ≤ (begin dt s).tb.sec → (begin dt s).tb.sec < k.keyRetire → s.ntp.key[n] ≠ .active →
    Answers (.ntsKeyActivated dt n) s fun t =>
      t.ntp.key = s.ntp.key.set n .active ∧ t.ntp.mintNone = false ∧
      (∀ m : Fin 64, m.val = t.ntp.mintSlot → t.ntp.key[m] = .active) ∧ t.ntp.mintSlot < 64 ∧
      (∃ e ∈ t.rep.ring, e.code = 0x0C01 ∧ e.inst1 = n.val ∧ e.stamp = stampNow (begin dt s)) ∧
      KeepsBut [.rep, .ntp] (begin dt s) t) ∧
  (∀ (s : State) (dt : Nat) (n : Fin 64) (k : NtsKeyRec), s.pwr.mode ≠ .load → keyRec s n = some k →
    k.keyActivate ≤ (begin dt s).tb.sec → k.keyRetire ≤ (begin dt s).tb.sec → s.ntp.key[n] ≠ .retired →
    (∀ m : Fin 64, n ≠ m → s.ntp.key[m] ≠ .active) → s.ntp.mintNone = false →
    Answers (.ntsKeyRetired dt n) s fun t =>
      t.ntp = { s.ntp with key := s.ntp.key.set n .retired, mintNone := true } ∧
      Changes dt s t [.ntp] [eventNote 0x0C03 (begin dt s), eventNote 0x0C02 (begin dt s) n.val])

/-- R164, R166, R167, R169, R172, R174, R175, R186 (`gnssStart`, `sampleLoss`, `sampleLossCleared`, `gnssSleep`, `gnssWake`): the
baseband starts, stops and sleeps. A start that is due searches with every channel in service. The loss of `GSCLK`, or an epoch whose
stamps show it more than ±200 ppm off (log entry 96), with event 0x070A, and sleep, with event 0x070B, stop every channel, the UTC
parameters standing; the loss cleared, with `GSCLK` able to run, makes a start due. Sleep begins where it is enabled, `REF4` is
eligible and not selected, a position is held and nothing asks to wake; it ends, with event 0x070C, once something does, and a start
is due then. -/
def Obligations.GnssStartsStopsSleepsAndWakes : Prop :=
  (∀ (s : State) (dt : Nat) (f : StartFacts), s.cfg.b07.gnss.gnssEnable = true → s.gnss.startDue = true → s.gnss.asleep = false →
    s.gnss.sampleLoss = false →
    Answers (.gnssStart dt f) s fun t =>
      t.gnss.started = true ∧ t.gnss.startDue = false ∧ t.gnss.startType = startType (begin dt s) f ∧ t.gnss.startAt = some t.clk ∧
      (∀ n : Fin 32, t.gnss.chan[n] = if chanServes s n then ({ role := .search } : GnssChan) else {}) ∧
      t.gnss.held = s.gnss.held ∧ t.gnss.timingState = 0 ∧ KeepsBut [.rep, .gnss, .out] (begin dt s) t) ∧
  (∀ (s : State) (dt : Nat), s.cfg.b07.gnss.gnssEnable = true → s.gnss.sampleLoss = false →
    Answers (.sampleLoss dt) s fun t =>
      (∀ n : Fin 32, t.gnss.chan[n] = {}) ∧ t.gnss.timingState = 0 ∧
      TimingFollows dt s t { stopChannels s.gnss with sampleLoss := true, startAt := none } [eventNote 0x070A (begin dt s)]) ∧
  (∀ (s : State) (dt week tow : Nat) (sats : List SatMeas) (e : GnssEpoch), gnssRuns s = true → 200000 < e.gsRatePpb.natAbs →
    Answers (.timingSolution dt week tow sats e) s fun t =>
      TimingFollows dt s t { stopChannels s.gnss with sampleLoss := true, startAt := none } [eventNote 0x070A (begin dt s)]) ∧
  (∀ (s : State) (dt : Nat), s.gnss.sampleLoss = true → gsclkMayRun s = true →
    Answers (.sampleLossCleared dt) s fun t =>
      t.gnss = { s.gnss with sampleLoss := false, startDue := true } ∧ Changes dt s t [.gnss] []) ∧
  (∀ (s : State) (dt : Nat), gnssRuns s = true → s.cfg.b07.gnss.sleepEn = true → s.pwr.mode = .locked → s.gov.sel ≠ some 4 →
    (s.refs[4]).st = .eligible → s.gnss.held ≠ none → wakesNow s = false →
    Answers (.gnssSleep dt) s fun t =>
      t.gnss.asleep = true ∧ t.gnss.sleepAt = t.clk ∧ t.gnss.utc = s.gnss.utc ∧ t.gnss.started = false ∧ (∀ n : Fin 32, t.gnss.chan[n] = {}) ∧
      t.gnss.timingState = 0 ∧ t.gnss.held = s.gnss.held ∧ (∃ e ∈ t.rep.ring, e.code = 0x070B ∧ e.stamp = stampNow (begin dt s)) ∧
      KeepsBut [.rep, .gnss, .out] (begin dt s) t) ∧
  (∀ (s : State) (dt : Nat), s.gnss.asleep = true →
    s.gnss.sleepAt + s.cfg.b07.gnss.sleepS * clkPerSec ≤ (begin dt s).clk ∨ s.cfg.b07.gnss.sleepEn = false ∨ wakesNow s = true →
    Answers (.gnssWake dt) s fun t =>
      t.gnss = { s.gnss with
        asleep := false, startDue := true
        wakeHot := decide (t.clk - s.gnss.sleepAt < 14400 * clkPerSec) && timeHeld s } ∧
      Changes dt s t [.gnss] [eventNote 0x070C (begin dt s)])

/-- R168, R184, R185 (`antFault`, `antFaultCleared`, `spoofSuspect`, `jamming`, `xcheckFail`): the antenna fault, with event 0x0709,
the spoofing suspicion, counted, with event 0x0707, jamming, counted, with event 0x0708, and the failed cross-check, with event
0x070E, rise and fall by their conditions, and do neither without them; the timing state follows them (R185: events 0x0702 and, at the
first state after a start, 0x0701 with its start time), the level of the antenna's ball is noted, and no channel and nothing else
changes. -/
def Obligations.GnssSuspicionFlagsSetTheTimingState : Prop :=
  (∀ (s : State) (l : AntLevel), s.cfg.b07.gnss.gnssEnable = true → s.cfg.b07.gnss.gantEn = true → s.gnss.antFault = false →
    l.high = s.cfg.b07.gnss.gantPol →
    Answers (.antFault l) s fun t =>
      TimingFollows l.dt s t { s.gnss with antHigh := l.high, antFault := true } [eventNote 0x0709 (begin l.dt s)]) ∧
  (∀ (s : State) (l : AntLevel), s.cfg.b07.gnss.gnssEnable = true → s.cfg.b07.gnss.gantEn = true → s.gnss.antFault = true →
    l.high = !s.cfg.b07.gnss.gantPol →
    Answers (.antFaultCleared l) s fun t =>
      TimingFollows l.dt s t { s.gnss with antHigh := l.high, antFault := false } []) ∧
  (∀ (s : State) (dt : Nat), s.gnss.spoof = false → gnssRuns s = true → spoofCondition s = true →
    Answers (.spoofSuspect dt true) s fun t =>
      TimingFollows dt s t { s.gnss with spoof := true } [eventNote 0x0707 (begin dt s), .count 0x070010 1]) ∧
  (∀ (s : State) (dt : Nat), s.gnss.spoof = true → spoofCondition s = false →
    Answers (.spoofSuspect dt false) s fun t =>
      TimingFollows dt s t { s.gnss with spoof := false } []) ∧
  (∀ (s : State) (dt : Nat), s.gnss.jamming = false → gnssRuns s = true → s.gnss.jamFresh = true →
    (10 * s.cfg.b07.gnss.jamDb : Int) ≤ s.gnss.jamLevel →
    Answers (.jamming dt true) s fun t =>
      TimingFollows dt s t { s.gnss with jamming := true } [eventNote 0x0708 (begin dt s), .count 0x070011 1]) ∧
  (∀ (s : State) (dt : Nat), s.gnss.jamming = true → trackedChans s ≠ [] → s.gnss.jamFresh = true →
    s.gnss.jamLevel < 10 * s.cfg.b07.gnss.jamDb - 10 →
    Answers (.jamming dt false) s fun t =>
      TimingFollows dt s t { s.gnss with jamming := false } []) ∧
  (∀ (s : State) (dt : Nat), s.gnss.xcheck = false → gnssRuns s = true → s.cfg.b07.gnss.xcheckNs ≠ 0 → timeHeld s = true →
    s.gov.sel ≠ some 4 → s.gnss.xFails = 10 →
    Answers (.xcheckFail dt true) s fun t =>
      TimingFollows dt s t { s.gnss with xcheck := true } [eventNote 0x070E (begin dt s)]) ∧
  (∀ (s : State) (dt : Nat), s.gnss.xcheck = true → s.gnss.xPasses = 10 →
    Answers (.xcheckFail dt false) s fun t =>
      TimingFollows dt s t { s.gnss with xcheck := false } []) ∧
  (∀ (s : State) (dt : Nat) (b : Bool),
    (s.gnss.spoof = b ∨ spoofCondition s = !b → Answers (.spoofSuspect dt b) s fun t => Changes dt s t [] []) ∧
    (s.gnss.jamming = b ∨ s.gnss.jamFresh = false → Answers (.jamming dt b) s fun t => Changes dt s t [] []) ∧
    (s.gnss.xcheck = b ∨ (if b then s.gnss.xFails else s.gnss.xPasses) ≠ 10 → Answers (.xcheckFail dt b) s fun t => Changes dt s t [] []))

/-- R169, R171, R182, R183 (`satAcquired`, `shadowVisit`, `satReadmitted`): a searching channel tracks a satellite found that is
searched, within the Doppler searched, while fewer than 16 are tracked, and the channels that do not track share the work (log entry
52); a second peak seen on two consecutive visits marks a satellite, with event 0x0706, counted, and excludes it where it was not
excluded, with event 0x0704, counted; a visit without one ends the run; an excluded satellite whose test has passed is admitted again,
with event 0x0705. -/
def Obligations.SatellitesAreAcquiredWatchedAndReadmitted : Prop :=
  (∀ (s : State) (dt : Nat) (n : Fin 32) (a : Acquired), gnssRuns s = true → chanServes s n = true → (s.gnss.chan[n]).role = .search →
    (trackedChans s).length < 16 → 1 ≤ a.prn → a.prn ≤ 32 → (∀ m ∈ trackedChans s, (s.gnss.chan[m]).prn ≠ a.prn) →
    notSearched (begin dt s) a = false → (a.dopp - doppPredicted (begin dt s) a).natAbs ≤ 1000 * s.cfg.b07.gnss.doppSearchKhz →
    Answers (.satAcquired dt n a) s fun t =>
      t.gnss.chan[n] = { role := .track, prn := a.prn } ∧
      (∀ m : Fin 32, n ≠ m → (s.gnss.chan[m]).role = .track → t.gnss.chan[m] = s.gnss.chan[m]) ∧
      t.gnss.held = s.gnss.held ∧ Changes dt s t [.gnss] []) ∧
  (∀ (s : State) (dt : Nat) (n : Fin 32) (peak : Nat) (db : Int) (m : Fin 32) (l : Vector GnssChan 32),
    l = s.gnss.chan.set m { s.gnss.chan[m] with prn := (s.gnss.chan[n]).prn } → gnssRuns s = true → chanServes s m = true → m ≠ n →
    (s.gnss.chan[m]).role = .shadow → (s.gnss.chan[n]).role = .track → (s.gnss.chan[n]).dupRun = 1 →
    s.cfg.b07.gnss.shadowRelDb ≠ 0 → 3 < peak → db ≤ (s.cfg.b07.gnss.shadowRelDb : Int) →
    Answers (.shadowVisit dt m n peak db) s fun t =>
      ((s.gnss.chan[n]).excl = 0 →
        TimingFollows dt s t { s.gnss with chan := l.set n { s.gnss.chan[n] with dupRun := 2, duplicate := true, excl := 4, testOk := false, used := false } }
          [eventNote 0x0704 (begin dt s) (s.gnss.chan[n]).prn, .count 0x07000E 1, eventNote 0x0706 (begin dt s) (s.gnss.chan[n]).prn,
           .count 0x07000F 1]) ∧
      ((s.gnss.chan[n]).excl ≠ 0 →
        t.gnss = { s.gnss with chan := l.set n { s.gnss.chan[n] with dupRun := 2, duplicate := true, testOk := (s.gnss.chan[n]).testOk && (s.gnss.chan[n]).excl != 4 } } ∧
        Changes dt s t [.gnss] [eventNote 0x0706 (begin dt s) (s.gnss.chan[n]).prn, .count 0x07000F 1])) ∧
  (∀ (s : State) (dt : Nat) (n : Fin 32) (peak : Nat) (db : Int) (m : Fin 32) (l : Vector GnssChan 32),
    l = s.gnss.chan.set m { s.gnss.chan[m] with prn := (s.gnss.chan[n]).prn } → gnssRuns s = true → chanServes s m = true → m ≠ n →
    (s.gnss.chan[m]).role = .shadow → (s.gnss.chan[n]).role = .track → s.cfg.b07.gnss.shadowRelDb ≠ 0 →
    peak ≤ 3 ∨ (s.cfg.b07.gnss.shadowRelDb : Int) < db →
    Answers (.shadowVisit dt m n peak db) s fun t =>
      t.gnss = { s.gnss with chan := l.set n { s.gnss.chan[n] with dupRun := 0, testOk := (s.gnss.chan[n]).testOk || (s.gnss.chan[n]).excl == 4 } } ∧
      Changes dt s t [.gnss] []) ∧
  (∀ (s : State) (dt : Nat) (n : Fin 32), gnssRuns s = true → (s.gnss.chan[n]).role = .track → (s.gnss.chan[n]).excl ≠ 0 →
    (s.gnss.chan[n]).testOk = true →
    Answers (.satReadmitted dt n) s fun t =>
      (t.gnss.chan[n]).excl = 0 ∧ (∀ m : Fin 32, n ≠ m → t.gnss.chan[m] = s.gnss.chan[m]) ∧
      Changes dt s t [.gnss] [eventNote 0x0705 (begin dt s) (s.gnss.chan[n]).prn])

/-- R176, R177, R178, R179, R186, R188 (`navWord`, `navFix`, `timingSolution`): a navigation word enters the navigation ring, one that
fails parity counted; the word that completes the GPS UTC parameters makes them valid and retained, with event 0x070D. A fix joins the
survey; the one that ends it makes the mean the held and retained position, with event 0x0703; the first fix within 50 m of a retained
surveyed position makes that the held one. A satellite alone in position hold gives its own time to `REF4`, corrected; without one the
navigation solution over four or five satellites does. The corrections and the navigation solution are operands, and the time of week
names a page of subframes 4 and 5 (log entry 52). -/
def Obligations.NavigationWordsFixesAndSolutions : Prop :=
  (∀ (s : State) (dt : Nat) (n : Fin 32) (w : BitVec 30) (sf wn tow : Nat) (u : Option GpsUtc), gnssRuns s = true →
    (s.gnss.chan[n]).role = .track →
    Answers (.navWord dt n w false sf wn tow u) s fun t =>
      t.gnss = { s.gnss with
        navRing := ({ word := w, parityOk := false, prn := (s.gnss.chan[n]).prn, subframe := sf % 8, wordNum := wn % 16,
                      tow := tow % 2 ^ 17 } :: s.gnss.navRing).take 512
        navHead := (s.gnss.navHead + 1) % 65536
        chan := s.gnss.chan.set n (noteParity sf wn tow false s.gnss.chan[n]) } ∧ Changes dt s t [.gnss] [.count 0x070012 1]) ∧
  (∀ (s : State) (dt : Nat) (n : Fin 32) (w : BitVec 30) (sf wn tow : Nat) (u : GpsUtc), gnssRuns s = true →
    (s.gnss.chan[n]).role = .track → utcComplete (noteParity sf wn tow true s.gnss.chan[n]) = true →
    Answers (.navWord dt n w true sf wn tow (some u)) s fun t =>
      t.gnss.utc = some u ∧ t.pd0.utcParams = keep u s.pd0.utcParams ∧ t.pd0.model = s.pd0.model ∧ t.pd0.position = s.pd0.position ∧
      (∃ e ∈ t.rep.ring, e.code = 0x070D ∧ e.stamp = stampNow (begin dt s)) ∧ KeepsBut [.rep, .gnss, .pd0] (begin dt s) t) ∧
  (∀ (s : State) (dt : Nat) (g : Gnss) (x y z : Int), gnssRuns s = true → s.cfg.b07.gnss.posMode = false → s.gnss.held = none →
    s.gnss.timingState ≠ 3 → s.gnss.retainedDue = false →
    g = { s.gnss with
      surveyN := s.gnss.surveyN + 1, sumX := s.gnss.sumX + x, sumY := s.gnss.sumY + y, sumZ := s.gnss.sumZ + z
      sumSq := s.gnss.sumSq + x * x + y * y + z * z } →
    Answers (.navFix dt x y z) s fun t =>
      (surveyDone (modGnss (fun _ => g) s) = false → t.gnss = g ∧ Changes dt s t [.gnss] []) ∧
      (surveyDone (modGnss (fun _ => g) s) = true →
        t.gnss.held = some (surveyMean g) ∧ t.gnss.posSource = 1 ∧ t.gnss.timingState = timingStateNow t ∧
        t.pd0.position = keep { x := (surveyMean g).1, y := (surveyMean g).2.1, z := (surveyMean g).2.2, source := 1 } s.pd0.position ∧
        (∃ e ∈ t.rep.ring, e.code = 0x0703 ∧ e.stamp = stampNow (begin dt s)) ∧ KeepsBut [.rep, .gnss, .pd0] (begin dt s) t)) ∧
  (∀ (s : State) (dt : Nat) (p : RetPosition) (x y z : Int), gnssRuns s = true → s.cfg.b07.gnss.posMode = false → s.gnss.held = none →
    s.gnss.timingState ≠ 3 → s.gnss.retainedDue = true → kept s.pd0.position = some p → p.source ≠ 2 →
    distSq (p.x, p.y, p.z) (x, y, z) ≤ 50000 * 50000 →
    Answers (.navFix dt x y z) s fun t =>
      t.gnss.held = some (p.x, p.y, p.z) ∧ t.gnss.posSource = 3 ∧ t.gnss.retainedDue = false ∧
      t.gnss.timingState = timingStateNow t ∧ KeepsBut [.rep, .gnss] (begin dt s) t) ∧
  (∀ (s : State) (dt week tow : Nat) (m : SatMeas) (e : GnssEpoch), gnssRuns s = true → s.gnss.held ≠ none →
    (s.gnss.chan[m.chan]).role = .track → (s.gnss.chan[m.chan]).prn = m.prn → (s.gnss.chan[m.chan]).excl = 0 →
    (s.gnss.chan[m.chan]).duplicate = false → (s.gnss.chan[m.chan]).ephBad = false → m.ephemerisOk = true → m.iodFails = false →
    s.cfg.b07.gnss.elevMaskDeg ≤ m.elevDeg → m.cn0 ≤ 10 * s.cfg.b07.gnss.powerMaxDbhz → sinSqDeg m.elevDeg ≠ 0 →
    e.gsRatePpb.natAbs ≤ 200000 →
    Answers (.timingSolution dt week tow [m] e) s fun t =>
      (t.refs[4]).delivered = some (satX s m) ∧ t.gnss.clockBias = satX s m ∧ t.gnss.solved = true ∧ t.gnss.towMs = tow % 2 ^ 32 ∧
      (∀ n : Fin 32, (t.gnss.chan[n]).used = decide (n = m.chan)) ∧ t.gnss.timingState = timingStateNow t ∧
      KeepsBut [.rep, .tele, .refs, .gnss, .pd0] (begin dt s) t ∧ (∀ k : Fin 13, k ≠ 4 → t.refs[k] = s.refs[k])) ∧
  (∀ (s : State) (dt week tow : Nat) (sats : List SatMeas) (e : GnssEpoch) (x : Units), gnssRuns s = true → s.gnss.held = none →
    4 ≤ sats.length → sats.length < 6 → (sats.map (·.chan)).Nodup →
    (∀ m ∈ sats, (s.gnss.chan[m.chan]).role = .track ∧ (s.gnss.chan[m.chan]).prn = m.prn ∧ (s.gnss.chan[m.chan]).excl = 0 ∧
      (s.gnss.chan[m.chan]).ephBad = false ∧ m.ephemerisOk = true ∧ s.cfg.b07.gnss.elevMaskDeg ≤ m.elevDeg ∧ satCause s m = 0) →
    e.navX.head? = some x → e.gsRatePpb.natAbs ≤ 200000 →
    Answers (.timingSolution dt week tow sats e) s fun t =>
      (t.refs[4]).delivered = some (x + rxDelay s) ∧ t.gnss.clockBias = x + rxDelay s ∧ t.gnss.solved = true ∧
      t.gnss.towMs = tow % 2 ^ 32 ∧
      (∀ n : Fin 32, (t.gnss.chan[n]).used = decide (n ∈ sats.map (·.chan))) ∧
      t.gnss.timingState = timingStateNow t ∧ KeepsBut [.rep, .tele, .refs, .gnss] (begin dt s) t ∧
      (∀ k : Fin 13, k ≠ 4 → t.refs[k] = s.refs[k]))

/-- R480 to R483, R496 (`avsSettleExpiry`, `avsVoutCheck`, `avsAlert`, `avsTakeoverRetry`): the AVS controller's transactions. A write
that is due is made; acknowledged it is counted, and a check is due; three transactions in a row that are not acknowledged, and a
reading more than 20 mV from the set point, are a fault, with event 0x1202. An alert is counted, with event 0x1205, its status word
read and faults cleared, each judged by its acknowledgement. In fault or with the takeover still awaited it is tried again: what it
reads is the set point, with event 0x1201; a `VOUT_MODE` that is not linear is a fault. That only acknowledged writes count, that a
takeover not acknowledged stays awaited, and that an alert is counted even where `STATUS_WORD` is not acknowledged, is log entry 31.
-/
def Obligations.AvsWritesChecksAndFaults : Prop :=
  (∀ (s : State) (dt v : Nat), s.avs.wanted = some v → s.avs.st = .active → pd4Runs s = true →
    Answers (.avsSettleExpiry dt true) s fun t =>
      t.avs = { s.avs with lastWrite := some t.clk, wanted := none, nakRun := 0, checkDue := true } ∧
      t.out = pmbusOps (avsCfg s) 0x21 (some (voutWord v s.avs.exponent)) ∧ Changes dt s t [.avs, .out] [.count 0x12000F 1]) ∧
  (∀ (s : State) (dt v : Nat), s.avs.wanted = some v → s.avs.st = .active → pd4Runs s = true →
    Answers (.avsSettleExpiry dt false) s fun t =>
      (s.avs.nakRun < 2 → t.avs = { s.avs with lastWrite := some t.clk, wanted := none, nakRun := s.avs.nakRun + 1 } ∧
        Changes dt s t [.avs, .out] [.count 0x120011 1]) ∧
      (2 ≤ s.avs.nakRun → t.avs.st = .fault ∧ t.avs.setMv = s.avs.setMv ∧
        Changes dt s t [.avs, .out] [eventNote 0x1202 (begin dt s), .count 0x120011 1])) ∧
  (∀ (s : State) (dt : Nat), s.avs.checkDue = true → s.avs.st = .active → pd4Runs s = true →
    Answers (.avsVoutCheck dt none) s fun t =>
      (s.avs.nakRun < 2 → t.avs = { s.avs with checkDue := false, nakRun := s.avs.nakRun + 1 } ∧ Changes dt s t [.avs, .out] [.count 0x120011 1]) ∧
      (2 ≤ s.avs.nakRun → t.avs.st = .fault ∧ t.avs.setMv = s.avs.setMv ∧
        Changes dt s t [.avs, .out] [eventNote 0x1202 (begin dt s), .count 0x120011 1])) ∧
  (∀ (s : State) (dt v : Nat), s.avs.checkDue = true → s.avs.st = .active → pd4Runs s = true →
    Answers (.avsVoutCheck dt (some v)) s fun t =>
      (s.avs.setMv ≤ v + 20 → v ≤ s.avs.setMv + 20 → t.avs = { s.avs with checkDue := false, nakRun := 0 } ∧ Changes dt s t [.avs, .out] []) ∧
      (v + 20 < s.avs.setMv ∨ s.avs.setMv + 20 < v →
        t.avs.st = .fault ∧ t.avs.setMv = s.avs.setMv ∧ Changes dt s t [.avs, .out] [eventNote 0x1202 (begin dt s)])) ∧
  (∀ (s : State) (dt w : Nat), pd4Runs s = true → s.pwr.applied = true → s.avs.st ≠ .disabled →
    (Answers (.avsAlert dt { status := some w, cleared := true }) s fun t =>
      t.avs = { s.avs with statusWord := w % 65536, nakRun := 0 } ∧
      t.out = pmbusOps (avsCfg s) 0x79 none ++ pmbusOps (avsCfg s) 0x03 none ∧
      Changes dt s t [.avs, .out] [.count 0x120010 1, eventNote 0x1205 (begin dt s)]) ∧
    (Answers (.avsAlert dt { status := some w, cleared := false }) s fun t =>
      t.avs = { s.avs with statusWord := w % 65536, nakRun := 1 } ∧
      Changes dt s t [.avs, .out] [.count 0x120011 1, .count 0x120010 1, eventNote 0x1205 (begin dt s)]) ∧
    (s.avs.nakRun < 2 → Answers (.avsAlert dt { status := none, cleared := true }) s fun t =>
      t.avs = { s.avs with nakRun := 0 } ∧
      Changes dt s t [.avs, .out] [.count 0x120010 1, eventNote 0x1205 (begin dt s), .count 0x120011 1])) ∧
  (∀ (s : State) (dt m v : Nat) (e : Int), pd4Runs s = true → s.pwr.applied = true → s.avs.st = .fault ∨ s.avs.st = .awaiting →
    linearExponent m = some e →
    Answers (.avsTakeoverRetry dt { voutMode := some m, voutMv := some v }) s fun t =>
      t.avs = { s.avs with st := .active, setMv := v, exponent := e, nakRun := 0, wanted := none, checkDue := false, takenAt := some t.clk } ∧
      t.out = pmbusOps (avsCfg s) 0x20 none ++ pmbusOps (avsCfg s) 0x8B none ∧
      Changes dt s t [.avs, .out] [eventNote 0x1201 (begin dt s)]) ∧
  (∀ (s : State) (dt m : Nat) (v : Option Nat), pd4Runs s = true → s.pwr.applied = true → s.avs.st = .awaiting → linearExponent m = none →
    Answers (.avsTakeoverRetry dt { voutMode := some m, voutMv := v }) s fun t =>
      t.avs.st = .fault ∧ Changes dt s t [.avs, .out] [eventNote 0x1202 (begin dt s)])

/-- R477, R484, R498 (`railMonitorSample`, `railOutOfRange`): every rail and the junction are measured, and the alarms follow them,
with events 0x1207, 0x1208 and 0x120B as they rise; where none of them rises no event is issued (but for a Tally monitor of one of the
two, past its limit, R427). The first measurement of `VDDIO_B` since `PGOOD` rose chooses its range. A rail outside its window is
counted and reported, with event 0x1206; one inside it changes nothing. R136, R157, R158 (`integrityFailure`, `hoIntegrityFailure`): a
failure of time integrity moves the device to SAFE, with its cause, with event 0x050C or in holdover 0x0606; nothing is selected, and
holdover ends; out of a reload the interval counter's next record carries `GAP` (R206). The timebase and PD0 go on. The slots that
0x050C names are log entry 73. Where its cause does not hold nothing changes. Both are part of step 4 of a tick and find its steps 2
and 3 done where its instant has come (log entry 81). -/
def Obligations.RailsAreWatchedAndIntegrityKept : Prop :=
  (∀ (s : State) (dt : Nat) (rails : List Nat) (tj : Int), pd4Runs s = true →
    Answers (.railMonitorSample dt rails tj) s fun t =>
      t.mon.vbat = rails.getD 0 0 % 65536 ∧ t.mon.vddio = rails.getD 1 0 % 65536 ∧ t.mon.vddioB = rails.getD 2 0 % 65536 ∧
      t.mon.vcore = rails.getD 3 0 % 65536 ∧ t.mon.vtb = rails.getD 4 0 % 65536 ∧ t.mon.vmem = rails.getD 5 0 % 65536 ∧
      t.mon.vsa = rails.getD 6 0 % 65536 ∧ t.mon.vsh = rails.getD 7 0 % 65536 ∧ t.mon.tjCenti = tj ∧
      t.mon.vbatLow = decide (rails.getD 0 0 % 65536 < 1900) ∧
      t.mon.tjAlarm = decide (tjLimit s < tj) ∧ t.mon.tjCritical = decide (12500 < tj) ∧
      t.mon.vddioB33 = some (vddioBHigh s (rails.getD 2 0 % 65536)) ∧ KeepsBut [.rep, .tele, .mon] (begin dt s) t ∧
      ((∀ n : Fin 24, (s.cfg.b10.tally[n]).tallySrc ≠ 5 ∧ (s.cfg.b10.tally[n]).tallySrc ≠ 6) →
        Changes dt s t [.mon] (
          (if t.mon.vbatLow = true ∧ s.mon.vbatLow = false then [eventNote 0x120B (begin dt s)] else []) ++
          (if t.mon.tjCritical = true ∧ s.mon.tjCritical = false then [eventNote 0x1208 (begin dt s)] else []) ++
          (if t.mon.tjAlarm = true ∧ s.mon.tjAlarm = false then [eventNote 0x1207 (begin dt s)] else [])))) ∧
  (∀ (s : State) (dt mv : Nat) (r : Fin 8), pd4Runs s = true →
    mv < (railWindow (vddioBHigh s mv) r).1 ∨ (railWindow (vddioBHigh s mv) r).2 < mv →
    Answers (.railOutOfRange dt r mv) s fun t =>
      t.mon = (if r = 2 then { s.mon with vddioB33 := some (vddioBHigh s mv) } else s.mon) ∧ Changes dt s t [.mon] [.count 0x120012 1, eventNote 0x1206 (begin dt s) r.val]) ∧
  (∀ (s : State) (dt mv : Nat) (r : Fin 8), r ≠ 2 ∨ s.mon.vddioB33 ≠ none →
    (railWindow (vddioBHigh s mv) r).1 ≤ mv → mv ≤ (railWindow (vddioBHigh s mv) r).2 →
    Answers (.railOutOfRange dt r mv) s fun t => Changes dt s t [] []) ∧
  (∀ (s u : State) (dt : Nat), u = disputesFirst (begin dt s) → s.cfg.b05.fantail.integrityLimitNs ≠ 0 → timeHeld s = true →
    timescaleOutvoted u = true →
    Answers (.integrityFailure dt 1) s fun t =>
      t.pwr.mode = .safe ∧ t.gov.integrityCause = 1 ∧ t.gov.sel = none ∧ t.gov.b = 0 ∧ t.ho.st = 0 ∧
      (∃ e ∈ t.rep.ring, e.code = 0x050C ∧ e.stamp = stampNow u) ∧
      t.ic = (if s.pwr.mode = .load then { u.ic with gapDue := true } else u.ic) ∧
      KeepsBut [.out, .ld, .rep, .tele, .pwr, .refs, .gov, .ho, .outs, .ic, .core, .garner, .ports, .weir, .cli, .leat, .ntp, .dress] u t) ∧
  (∀ (s u : State) (dt : Nat), u = disputesFirst (begin dt s) → s.cfg.b05.fantail.integrityLimitNs ≠ 0 → govMode s = .locked →
    untrackable u = true →
    Answers (.integrityFailure dt 2) s fun t =>
      t.pwr.mode = .safe ∧ t.gov.integrityCause = 2 ∧ t.gov.sel = none ∧ t.gov.b = 0 ∧ t.ho.st = 0 ∧
      (∃ e ∈ t.rep.ring, e.code = 0x050C ∧ e.stamp = stampNow u) ∧
      t.ic = (if s.pwr.mode = .load then { u.ic with gapDue := true } else u.ic) ∧
      KeepsBut [.out, .ld, .rep, .tele, .pwr, .refs, .gov, .ho, .outs, .ic, .core, .garner, .ports, .weir, .cli, .leat, .ntp, .dress] u t) ∧
  (∀ (s u : State) (dt cause : Nat), u = disputesFirst (begin dt s) →
    s.cfg.b05.fantail.integrityLimitNs = 0 ∨ ¬(cause = 1 ∧ timeHeld s = true ∧ timescaleOutvoted u = true) ∧
      ¬(cause = 2 ∧ govMode s = .locked ∧ untrackable u = true) →
    Answers (.integrityFailure dt cause) s fun t => ChangesFrom u s t [] []) ∧
  (∀ (s u : State) (dt cause : Nat), u = disputesFirst (begin dt s) → hoFails u cause = true →
    Answers (.hoIntegrityFailure dt cause) s fun t =>
      t.pwr.mode = .safe ∧ t.ho.integrityCause = cause ∧ t.gov.sel = none ∧ t.ho.st = 0 ∧ t.ho.e = 0 ∧
      (∃ e ∈ t.rep.ring, e.code = 0x0606 ∧ e.stamp = stampNow u) ∧
      t.ic = (if s.pwr.mode = .load then { u.ic with gapDue := true } else u.ic) ∧
      KeepsBut [.out, .ld, .rep, .tele, .pwr, .refs, .gov, .ho, .outs, .ic, .core, .garner, .ports, .weir, .cli, .leat, .ntp, .dress] u t) ∧
  (∀ (s u : State) (dt cause : Nat), u = disputesFirst (begin dt s) → hoFails u cause = false →
    Answers (.hoIntegrityFailure dt cause) s fun t => ChangesFrom u s t [] [])

/-- R453, R455, R456, R461, R57 (`wearCheck`, `uncorrectableError`): wear checks. A check that passes clears the run of failures of a
unit not worn; the third failure in a row finds the unit worn, with event 0x1101, and with `AUTO_RETIRE` 0 retires nothing; an
immediate condition of a Leat pair that carries its link retires it (log entry 99). An uncorrectable error retires the Hopper cell it
strikes, and leaves the rate or grant record it strikes invalid, whatever else it brings: the contents of that record and of every
other stand, where one is made invalid too. The bank it lies in is marked faulted; the fault makes its migration urgent (log entry
59), and a rate bank that was being copied switches at once with every record invalid. -/
def Obligations.WearChecksAndUncorrectableErrors : Prop :=
  (∀ (s : State) (dt : Nat) (k : Fin 12) (c : UnitCheck), pd4Runs s = true → unitChecked s k c.unit = true → c.immediate = false →
    checkFails (begin dt s) k c = false → bitAt s.dress.worn[k] c.unit = false → NothingWaits s →
    Answers (.wearCheck dt k [c]) s fun t =>
      failsOf t k c.unit = 0 ∧ t.dress.worn = s.dress.worn ∧ t.dress.retired = s.dress.retired ∧
      t.dress.probations = s.dress.probations ∧ KeepsBut [.rep, .dress, .pll] (begin dt s) t) ∧
  (∀ (s : State) (dt : Nat) (k : Fin 12) (c : UnitCheck), pd4Runs s = true → unitChecked s k c.unit = true → unitTested s k c.unit = true →
    c.immediate = false → checkFails (begin dt s) k c = true → failsOf s k c.unit = 2 → k ≠ 0 → s.cfg.b11.autoRetire = false →
    bitAt s.dress.worn[k] c.unit = false → NothingWaits s →
    Answers (.wearCheck dt k [c]) s fun t =>
      t.dress.worn = s.dress.worn.set k (setBit s.dress.worn[k] c.unit) ∧ failsOf t k c.unit = 3 ∧ newestEvent t = some 0x1101 ∧
      t.dress.retired = s.dress.retired ∧ KeepsBut [.rep, .dress, .pll] (begin dt s) t) ∧
  (∀ (s : State) (dt : Nat) (k : Fin 12) (c : UnitCheck), pd4Runs s = true → unitChecked s k c.unit = true → unitTested s k c.unit = true →
    c.immediate = true → 8 ≤ k.val → NothingWaits s →
    Answers (.wearCheck dt k [c]) s fun t =>
      t.dress.retired = s.dress.retired.set k (s.dress.retired[k] + 2 ^ c.unit) ∧
      t.dress.faulted = s.dress.faulted.set k (setBit s.dress.faulted[k] c.unit) ∧
      KeepsBut [.out, .rep, .pd0, .refs, .leat, .dress] (begin dt s) t) ∧
  (∀ (s : State) (dt : Nat) (c : Fin 18432), pd4Runs s = true → bitAt s.dress.retired[2] c.val = false →
    Answers (.uncorrectableError dt (.hopperCell c)) s fun t =>
      t.dress.retired = s.dress.retired.set 2 (s.dress.retired[2] + 2 ^ c.val) ∧
      t.pd0.maps = keep { retired := t.dress.retired, stressAge := s.dress.stressAge, reserves := Vector.ofFn fun k => reserveOf t k }
        s.pd0.maps ∧
      KeepsBut [.rep, .dress, .pd0] (begin dt s) t) ∧
  (∀ (s : State) (dt i : Nat), pd4Runs s = true → Memory.wf s.garner = true →
    Answers (.uncorrectableError dt (.rateRecord i)) s fun t =>
      rateRec t i = { rateRec s i with valid := false } ∧
      (∀ k, rateRec t k = rateRec s k ∨ rateRec t k = { rateRec s k with valid := false }) ∧ (∀ g < 2 ^ 20, grantRec t g = grantRec s g) ∧
      t.dress.faulted = s.dress.faulted.set 1 (setBit s.dress.faulted[1] (s.garner.bank[rateBank i]).phys) ∧
      KeepsBut [.rep, .tele, .pd0, .core, .garner, .dress] (begin dt s) t) ∧
  (∀ (s : State) (dt g : Nat), pd4Runs s = true → Memory.wf s.garner = true →
    Answers (.uncorrectableError dt (.grantRecord g)) s fun t =>
      grantRec t g = { grantRec s g with valid := false } ∧ (∀ e ∈ t.garner.calendar, e.1 ≠ g) ∧
      (∀ k < 2 ^ 20, grantRec t k = grantRec s k ∨ (grantRec s g).v6 = true ∧ k = g + 1 ∧ grantRec t k = { grantRec s k with valid := false } ∨ k = g) ∧
      (∀ k, rateRec t k = rateRec s k ∨ rateRec t k = { rateRec s k with valid := false }) ∧
      t.dress.faulted = s.dress.faulted.set 1 (setBit s.dress.faulted[1] (s.garner.bank[grantBank g]).phys) ∧
      KeepsBut [.rep, .tele, .pd0, .core, .garner, .dress] (begin dt s) t) ∧
  (∀ (s : State) (dt i p n : Nat) (b : Fin 48), pd4Runs s = true → Memory.wf s.garner = true → b = rateBank i → b.val < 32 →
    (s.garner.bank[b]).migrating = some (p, n) → bankOf s (s.garner.bank[b]).phys = some b → s.dress.toMigrate = [] →
    bitAt s.dress.retired[1] (s.garner.bank[b]).phys = false →
    Answers (.uncorrectableError dt (.rateRecord i)) s fun t =>
      (t.garner.bank[b]).phys = p ∧ (t.garner.bank[b]).migrating = none ∧
      (∀ k, rateRec t k = if rateBank k = b then { rateRec s k with valid := false } else rateRec s k) ∧
      t.dress.retired = s.dress.retired.set 1 (s.dress.retired[1] + 2 ^ (s.garner.bank[b]).phys) ∧ newestEvent t = some 0x1108)

/-- R454, R431 (`katRun`, `katPeriodExpiry`): over each period each Millstone in service runs once, in ascending order, where it has
no answer and no descriptor to take, or is withheld from them; the run takes a while that the manual gives only roughly (a free value,
log entry 16). One that disagrees faults its Millstone, which is retired; one that agrees leaves it in service; a unit that has found
no gap in the period is withheld from the dequeue arbiter, whether it holds an answer or not. A run of a unit that is not in service,
holds an answer, has run already or is not the next one, and a period of a unit that is not in service or has run, change nothing.
R457, R458, R459, R295 (`probationPassed`, `probationKatSupply`, `spareInService`, `msDrained`): a probation of 65,536 matching
comparisons passes, with event 0x1104; after `PROBATION_MAX_MS` known-answer vectors complete the count, or fail it: its spare is
retired, counted, with event 0x1105, and what it was for waits again. With nothing waiting, the spare of one that passed goes into
service, with event 0x1106, and the worn unit it replaces drains; a drained unit is retired where it is worn, and off otherwise. -/
def Obligations.KnownAnswerRunsAndProbations : Prop :=
  (∀ (s u : State) (dt : Nat) (m : Fin 40), u = katTurn (begin dt s) → katReady u m = true →
    Answers (.katRun dt m true) s fun t =>
      (t.core.ms[m]).st = .inService ∧ (t.core.ms[m]).withheld = false ∧ (t.core.ms[m]).katUntil = t.clk + Config.freeAt 17 t.clk ∧
      (∀ k : Fin 40, m ≠ k → t.core.ms[k] = s.core.ms[k]) ∧ t.dress = { u.dress with katRan := setBit u.dress.katRan m.val } ∧
      KeepsBut [.rep, .tele, .core, .dress] (begin dt s) t) ∧
  (∀ (s u : State) (dt : Nat) (m : Fin 40), u = katTurn (begin dt s) → katReady u m = true →
    bitAt s.dress.retired[0] m.val = false →
    Answers (.katRun dt m false) s fun t =>
      (t.core.ms[m]).st = .faulted ∧ t.dress.retired = s.dress.retired.set 0 (s.dress.retired[0] + 2 ^ m.val) ∧
      (∀ p : Fin 8, (t.ports[p]).link = (s.ports[p]).link) ∧ (∃ e ∈ t.rep.ring, e.code = 0x110B ∧ e.inst2 = m.val) ∧
      KeepsBut [.out, .rep, .tele, .pd0, .core, .garner, .ports, .dress, .leat, .weir] (begin dt s) t) ∧
  (∀ (s u : State) (dt : Nat) (m : Fin 40) (b : Bool), u = katTurn (begin dt s) →
    (s.core.ms[m]).st ≠ .inService ∨ (s.core.ms[m]).front ≠ none ∨ (s.core.ms[m]).back ≠ none ∨ katDone u m = true ∨
      katDoneBelow u m.val = false →
    Answers (.katRun dt m b) s fun t => t.dress = u.dress ∧ Changes dt s t [.dress] []) ∧
  (∀ (s u : State) (dt : Nat) (m : Fin 40), u = katTurn (begin dt s) → (s.core.ms[m]).st = .inService → katDone u m = false →
    u.dress.katSince + s.cfg.b11.katPeriodS * clkPerSec ≤ u.clk →
    Answers (.katPeriodExpiry dt m) s fun t =>
      t.core = { s.core with ms := s.core.ms.set m { s.core.ms[m] with withheld := true } } ∧ t.dress = u.dress ∧
      Changes dt s t [.core, .dress] []) ∧
  (∀ (s u : State) (dt : Nat) (m : Fin 40), u = katTurn (begin dt s) →
    (s.core.ms[m]).st ≠ .inService ∨ katDone u m = true ∨ u.clk < u.dress.katSince + s.cfg.b11.katPeriodS * clkPerSec →
    Answers (.katPeriodExpiry dt m) s fun t => t.dress = u.dress ∧ Changes dt s t [.dress] []) ∧
  (∀ (s : State) (dt : Nat) (k : Fin 4) (p : Probation), s.dress.probations[k] = some p → p.passed = false →
    (p.done = 65536 → Answers (.probationPassed dt k) s fun t =>
      t.dress = { s.dress with probations := s.dress.probations.set k (some { p with passed := true }) } ∧
      Changes dt s t [.dress] [eventNote 0x1104 (begin dt s) 0 p.unit.val]) ∧
    (p.done ≠ 65536 → Answers (.probationPassed dt k) s fun t => Changes dt s t [] [])) ∧
  (∀ (s : State) (dt : Nat) (k : Fin 4) (p : Probation), s.dress.probations[k] = some p → p.passed = false → p.done ≠ 65536 →
    (p.since + s.cfg.b11.probationMaxMs * 1000000 * clkPerNs ≤ (begin dt s).clk →
      (Answers (.probationKatSupply dt { probation := k, agrees := true }) s fun t =>
        t.dress = { s.dress with probations := s.dress.probations.set k (some { p with done := 65536 }) } ∧ Changes dt s t [.dress] []) ∧
      (bitAt s.dress.retired[0] p.unit.val = false → Answers (.probationKatSupply dt { probation := k, agrees := false }) s fun t =>
        (t.core.ms[p.unit]).st = .retired ∧ t.dress.retired = s.dress.retired.set 0 (s.dress.retired[0] + 2 ^ p.unit.val) ∧
        (∃ e ∈ t.rep.ring, e.code = 0x1105 ∧ e.inst2 = p.unit.val) ∧ KeepsBut [.rep, .pd0, .core, .dress] (begin dt s) t)) ∧
    ((begin dt s).clk < p.since + s.cfg.b11.probationMaxMs * 1000000 * clkPerNs → ∀ b,
      Answers (.probationKatSupply dt { probation := k, agrees := b }) s fun t => Changes dt s t [] [])) ∧
  (∀ (s : State) (dt : Nat) (k : Fin 4) (p : Probation) (w : Fin 40), s.dress.probations[k] = some p → p.passed = true →
    p.worn = some w → w ≠ p.unit → (s.core.ms[w]).st = .inService → s.dress.toReplace = [] → s.dress.toAdd = 0 →
    Answers (.spareInService dt k) s fun t =>
      (t.core.ms[p.unit]).st = .inService ∧ (t.core.ms[w]).st = .draining ∧
      t.dress = { s.dress with probations := s.dress.probations.set k none } ∧ newestEvent t = some 0x1106 ∧
      (∀ m : Fin 40, w ≠ m → p.unit ≠ m → t.core.ms[m] = s.core.ms[m]) ∧
      KeepsBut [.rep, .tele, .core, .dress] (begin dt s) t) ∧
  (∀ (s : State) (dt : Nat) (k : Fin 4) (p : Probation), s.dress.probations[k] = some p → p.passed = true →
    p.worn = none → s.dress.toReplace = [] → s.dress.toAdd = 0 →
    Answers (.spareInService dt k) s fun t =>
      t.core = { s.core with ms := s.core.ms.set p.unit { s.core.ms[p.unit] with st := .inService, since := t.clk } } ∧
      t.dress = { s.dress with probations := s.dress.probations.set k none } ∧
      Changes dt s t [.core, .dress] [eventNote 0x1106 (begin dt s) 0 p.unit.val]) ∧
  (∀ (s : State) (dt : Nat) (m : Fin 40), (s.core.ms[m]).st = .draining → (s.core.ms[m]).front = none → (s.core.ms[m]).back = none →
    Answers (.msDrained dt m) s fun t =>
      (msWorn s m = true → (t.core.ms[m]).st = .retired ∧ bitAt t.dress.retired[0] m.val = true) ∧
      (msWorn s m = false → (t.core.ms[m]).st = .off ∧ t.dress = s.dress) ∧
      (∀ k : Fin 40, m ≠ k → t.core.ms[k] = s.core.ms[k]) ∧ KeepsBut [.rep, .tele, .pd0, .core, .dress] (begin dt s) t)

/-- R98, R198, R286, R452, R460, R461 (`garnerMigrationBeat`, `retentionHourlyWrite`, `vcCalibration`, `adpllRetry`): the Dresser's
grant copies up to 16 beats of the bank that migrates, and gives way, counted, to a PRECEDENCE requester it has not finished for;
after the last beat the bank switches and the old one is retired, with event 0x1108; a record that cannot be copied is invalid,
counted. The hourly write keeps the maps. A vernier cell's calibration is noted, and one outside ±10 % retires the cell. An ADPLL that
may retry does so, counted, until `ADPLL_RETRY_MAX` retries have failed, which fault and retire it. -/
def Obligations.MigrationMapsCalibrationAndRetries : Prop :=
  (∀ (s : State) (dt beats : Nat) (b : Fin 48) (phys done : Nat), (s.garner.bank[b]).migrating = some (phys, done) →
    (∀ k : Fin 48, b ≠ k → (s.garner.bank[k]).migrating = none) → dresserHolds s b = true → (s.garner.bank[b]).susp = [] →
    done + min 16 beats < 32768 → 16 ≤ beats ∨ (∀ r ∈ bankEligible s b, r.2 ≠ .prec) →
    Answers (.garnerMigrationBeat dt beats []) s fun t =>
      (t.garner.bank[b]).migrating = some (phys, done + min 16 beats) ∧ (t.garner.bank[b]).phys = (s.garner.bank[b]).phys ∧
      (t.garner.bank[b]).holder = none ∧ (t.garner.bank[b]).susp = [] ∧ (∀ k : Fin 48, b ≠ k → t.garner.bank[k] = s.garner.bank[k]) ∧
      t.garner.rate = s.garner.rate ∧ t.garner.grant = s.garner.grant ∧ Changes dt s t [.garner] []) ∧
  (∀ (s : State) (dt beats : Nat) (b : Fin 48) (phys done : Nat), (s.garner.bank[b]).migrating = some (phys, done) →
    (∀ k : Fin 48, b ≠ k → (s.garner.bank[k]).migrating = none) → dresserHolds s b = true → (s.garner.bank[b]).susp = [] →
    beats < 16 → done + beats < 32768 → (bankEligible s b).any (fun r => r.2 == .prec) = true →
    Answers (.garnerMigrationBeat dt beats []) s fun t =>
      (t.garner.bank[b]).migrating = some (phys, done + beats) ∧ (t.garner.bank[b]).holder = none ∧ (t.garner.bank[b]).susp = [40] ∧
      t.garner.rate = s.garner.rate ∧ t.garner.grant = s.garner.grant ∧ Changes dt s t [.garner] [.count 0x0B0005 1]) ∧
  (∀ (s : State) (dt : Nat) (b : Fin 48) (phys done i : Nat), (s.garner.bank[b]).migrating = some (phys, done) →
    (∀ k : Fin 48, b ≠ k → (s.garner.bank[k]).migrating = none) → dresserHolds s b = true → (s.garner.bank[b]).susp = [] →
    done + 16 < 32768 → b.val < 32 → rateBank i = b →
    Answers (.garnerMigrationBeat dt 16 [i]) s fun t =>
      (t.garner.bank[b]).migrating = some (phys, done + 16) ∧ rateRec t i = { rateRec s i with valid := false } ∧
      (∀ k, k ≠ i → rateRec t k = rateRec s k) ∧ t.garner.grant = s.garner.grant ∧ Changes dt s t [.garner] [.count 0x110095 1]) ∧
  (∀ (s : State) (dt beats : Nat) (b : Fin 48) (phys done : Nat), (s.garner.bank[b]).migrating = some (phys, done) →
    (∀ k : Fin 48, b ≠ k → (s.garner.bank[k]).migrating = none) → dresserHolds s b = true →
    32768 ≤ done + min 16 beats → (s.garner.bank[b]).susp = [] → s.dress.toMigrate = [] →
    bitAt s.dress.retired[1] (s.garner.bank[b]).phys = false →
    Answers (.garnerMigrationBeat dt beats []) s fun t =>
      (t.garner.bank[b]).migrating = none ∧ (t.garner.bank[b]).phys = phys ∧ newestEvent t = some 0x1108 ∧
      t.dress.retired = s.dress.retired.set 1 (s.dress.retired[1] + 2 ^ (s.garner.bank[b]).phys) ∧
      t.garner.rate = s.garner.rate ∧ t.garner.grant = s.garner.grant ∧
      KeepsBut [.rep, .pd0, .garner, .dress] (begin dt s) t) ∧
  (∀ (s : State) (dt : Nat), pd4Runs s = true →
    Answers (.retentionHourlyWrite dt) s fun t =>
      t.pd0 = { s.pd0 with
        maps := keep { retired := s.dress.retired, stressAge := s.dress.stressAge, reserves := Vector.ofFn fun k => reserveOf s k }
          s.pd0.maps } ∧
      Changes dt s t [.pd0] []) ∧
  (∀ (s : State) (dt fs : Nat) (c : Fin 12), pd4Runs s = true → bitAt (retiredCells s) c.val = false →
    Answers (.vcCalibration dt c fs) s fun t =>
      t.ic = { s.ic with calFs := s.ic.calFs.set c fs } ∧
      (900 ≤ fs → fs ≤ 1100 → Changes dt s t [.ic] []) ∧
      (fs < 900 ∨ 1100 < fs → t.dress.retired = s.dress.retired.set 3 (s.dress.retired[3] + 2 ^ c.val) ∧
        KeepsBut [.rep, .pd0, .ic, .dress] (begin dt s) t)) ∧
  (∀ (s : State) (dt : Nat) (n : Fin 4), s.pll.oscinPresent = true → (s.pll.adpll[n]).st = .wordHold →
    (s.pll.adpll[n]).retries < s.cfg.b11.adpllRetryMax →
    Answers (.adpllRetry dt n) s fun t =>
      t.pll = modAdpll n (fun a => { a with st := .qualifying, windows := 0, retries := a.retries + 1 }) (begin dt s).pll ∧
      Changes dt s t [.pll] []) ∧
  (∀ (s : State) (dt : Nat) (n : Fin 4), retries s n = true → (s.pll.adpll[n]).st ≠ .wordHold →
    (s.pll.adpll[n]).retries < s.cfg.b11.adpllRetryMax →
    Answers (.adpllRetry dt n) s fun t =>
      (t.pll.adpll[n]).retries = (s.pll.adpll[n]).retries + 1 ∧ (∀ k : Fin 4, n ≠ k → t.pll.adpll[k] = s.pll.adpll[k]) ∧
      Changes dt s t [.pll] []) ∧
  (∀ (s : State) (dt : Nat) (n : Fin 4), retries s n = true →
    s.cfg.b11.adpllRetryMax ≤ (s.pll.adpll[n]).retries → bitAt s.dress.retired[4] n.val = false → s.pll.incoming = none →
    roleOf s.pll n ≠ some .sd → (roleOf s.pll n = some .tb → s.pll.spare ≠ none) →
    Answers (.adpllRetry dt n) s fun t =>
      t.dress.retired = s.dress.retired.set 4 (s.dress.retired[4] + 2 ^ n.val) ∧
      t.dress.faulted = s.dress.faulted.set 4 (setBit s.dress.faulted[4] n.val) ∧
      KeepsBut [.rep, .pll, .outs, .pd0, .dress] (begin dt s) t) ∧
  (∀ (s : State) (dt : Nat) (n : Fin 4), retries s n = true →
    s.cfg.b11.adpllRetryMax ≤ (s.pll.adpll[n]).retries → bitAt s.dress.retired[4] n.val = false → roleOf s.pll n = some .sd →
    Answers (.adpllRetry dt n) s fun t =>
      t.dress.retired = s.dress.retired.set 4 (s.dress.retired[4] + 2 ^ n.val) ∧
      t.dress.faulted = s.dress.faulted.set 4 (setBit s.dress.faulted[4] n.val) ∧ t.tb = (begin dt s).tb ∧
      (∀ n : Fin 13, n.val < 7 ∨ 10 < n.val → t.refs[n] = s.refs[n])) ∧
  (∀ (s : State) (dt : Nat) (n : Fin 4), retries s n = false → Answers (.adpllRetry dt n) s fun t => Changes dt s t [] [])

/-- R418 to R421 (`windowRead`, `windowReadId`, `windowUnknownOpcode`, `rcFieldRead`, `latchingRead`, `attnPendingRead`): a Window
transaction, of however many words, changes nothing but what its reads clear and latch, of the words it reads and no others; in RETAIN
and while `RESET_N` is low it answers nothing. -/
def Obligations.WindowReadsOnlyClearAndLatch : Prop :=
  (∀ (s : State) (dt words : Nat) (addr : BitVec 24) (b : Bool), counterWf s.rep.cnt = true →
    Answers (.windowRead dt addr words b) s (ReadsOnly dt s ((List.range words).map fun k => (addr.toNat + k) % 2 ^ 24)) ∧
    (∀ c ∈ [Instr.rcFieldRead dt addr b, .latchingRead dt addr b], Answers c s (ReadsOnly dt s [addr.toNat])) ∧
    Answers (.attnPendingRead dt b) s (ReadsOnly dt s [0x100001])) ∧
  (∀ (s : State) (dt words : Nat) (op : Byte), ∀ c ∈ [Instr.windowReadId dt words, .windowUnknownOpcode dt op],
    Answers c s fun t => Changes dt s t [.out] []) ∧
  (∀ (s : State) (dt words : Nat) (addr : BitVec 24) (b : Bool) (op : Byte),
    s.pwr.mode = .retain ∨ s.pwr.resetHeld ≠ .none →
    ∀ c ∈ [Instr.windowRead dt addr words b, .windowReadId dt words, .windowUnknownOpcode dt op, .rcFieldRead dt addr b,
        .latchingRead dt addr b, .attnPendingRead dt b],
      Answers c s fun t => Changes dt s t [] [])

/-- R8, R10, R269, R419, R420, R421, R425 (`windowRead`, `windowReadId`, `windowUnknownOpcode`, `rcFieldRead`, `latchingRead`,
`attnPendingRead`): what the Window's reads return and clear, each word most significant byte first. A live word of one read is
returned; the identity words repeat; an RC field and `ATTN_PENDING` lose what was returned; a word cut off before its 32nd bit loses
nothing; a field of an absent port reads 0; a latching word, cut off or not, loads its latches; an unknown opcode does nothing. -/
def Obligations.WindowReadsReturnAndClear : Prop :=
  (∀ (s : State) (dt : Nat) (a : BitVec 24), windowAnswers s = true → rcMax a.toNat = 0 → latchedBy a.toNat = [] → a ≠ 0x100001#24 →
    getIndexed a.toNat s.tele.latches = none →
    Answers (.windowRead dt a 1 false) s fun t =>
      t.out = [.window (misoBytes [BitVec.ofNat 32 (liveWord (settled (begin dt s)) a.toNat)])] ∧
      (∀ b, getIndexed b t.tele.latches = getIndexed b s.tele.latches) ∧ Changes dt s t [.out, .tele] []) ∧
  (∀ (s : State) (dt n : Nat), windowAnswers s = true →
    Answers (.windowReadId dt n) s fun t =>
      t.out = [.window (misoBytes ((List.range n).map fun k => BitVec.ofNat 32 (liveWord (begin dt s) (k % 2))))] ∧ Changes dt s t [.out] []) ∧
  (∀ (s : State) (dt : Nat) (op : Byte), Answers (.windowUnknownOpcode dt op) s fun t => Changes dt s t [] []) ∧
  (∀ (s : State) (dt : Nat) (a : BitVec 24), windowAnswers s = true → counterWf s.rep.cnt = true → rcMax a.toNat ≠ 0 →
    latchedBy a.toNat = [] → getIndexed a.toNat s.tele.latches = none → a ≠ 0x040013#24 → absentPort s a.toNat = false →
    Answers (.rcFieldRead dt a true) s fun t =>
      t.out = [.window (misoBytes [BitVec.ofNat 32 (counter a.toNat s)])] ∧ counter a.toNat t = 0 ∧
      (∀ b, b ≠ a.toNat → b ≠ 0x040013 → counter b t = counter b s) ∧ KeepsBut [.out, .rep, .tele] (begin dt s) t) ∧
  (∀ (s : State) (dt : Nat) (a : BitVec 24), windowAnswers s = true → rcMax a.toNat ≠ 0 → a ≠ 0x040013#24 →
    Answers (.rcFieldRead dt a false) s fun t => t.out = [.window []] ∧ counter a.toNat t = counter a.toNat s) ∧
  (∀ (s : State) (dt : Nat) (a : BitVec 24), windowAnswers s = true → rcMax a.toNat ≠ 0 →
    getIndexed a.toNat s.tele.latches = none → absentPort s a.toNat = true →
    Answers (.rcFieldRead dt a true) s fun t => t.out = [.window [0#8, 0#8, 0#8, 0#8]]) ∧
  (∀ (s : State) (dt : Nat) (a : BitVec 24) (whole : Bool), windowAnswers s = true → latchedBy a.toNat ≠ [] →
    Answers (.latchingRead dt a whole) s fun t =>
      (∀ b ∈ latchedBy a.toNat, b ≠ a.toNat → getIndexed b t.tele.latches = some (liveWord (settled (begin dt s)) b)) ∧
      KeepsBut [.out, .rep, .tele] (begin dt s) t) ∧
  (∀ (s : State) (dt : Nat), windowAnswers s = true → getIndexed 0x100001 s.tele.latches = none → s.rep.attnPending < 65536 →
    Answers (.attnPendingRead dt true) s fun t =>
      t.out = [.window (misoBytes [BitVec.ofNat 32 s.rep.attnPending])] ∧ t.rep.attnPending = 0 ∧ t.rep.attnLow = false ∧
      t.rep.ring = s.rep.ring ∧ KeepsBut [.out, .rep] (begin dt s) t)

/-- R427, R429, R433, R434, R436, R439 (`tallyIntervalEnd`, `tallyUsSample`, `samplerFired`, `sampleRingWrite`, `telemReport`): a
Tally interval publishes its set and begins the next, but for a monitor that is off or runs without intervals; the microsecond's
sample of the Hopper cells or of the queue wait is accumulated; a sampler that fires, the Millstones' time brought up to now where one
counts it, queues its oldest record, with event 0x1003 where it is asked for, and a full queue loses it, counted; the ring takes the
oldest record, with event 0x1005 after a loss; a report that is due is numbered, and sent or held for the line, or skipped where the
port's link is down. -/
def Obligations.TallySamplersAndReports : Prop :=
  (∀ (s : State) (dt : Nat) (n : Fin 24), (s.cfg.b10.tally[n]).tallySrc ≠ 0 → (s.cfg.b10.tally[n]).tallyMode = false →
    s.pwr.mode ≠ .retain →
    Answers (.tallyIntervalEnd dt n) s fun t =>
      t.tele.monitor = s.tele.monitor.set n
        { live := {}, published := some (s.tele.monitor[n]).live, setSeq := ((s.tele.monitor[n]).setSeq + 1) % 65536 } ∧
      t.tele = { s.tele with monitor := t.tele.monitor } ∧
      Changes dt s t [.tele] []) ∧
  (∀ (s : State) (dt : Nat) (n : Fin 24),
    (s.cfg.b10.tally[n]).tallySrc = 0 ∨ (s.cfg.b10.tally[n]).tallyMode = true ∨ s.pwr.mode = .retain →
    Answers (.tallyIntervalEnd dt n) s fun t => Changes dt s t [] []) ∧
  (∀ (s : State) (dt : Nat) (n : Fin 24) (v : Int), (s.cfg.b10.tally[n]).tallySrc = 3 ∧ v = (s.core.cellsUsed : Nat) ∨
      (s.cfg.b10.tally[n]).tallySrc = 4 ∧ v = waitNs (begin dt s) (workAll s) →
    Answers (.tallyUsSample dt n) s fun t =>
      (t.tele.monitor[n]).live = tallyAdd (s.cfg.b10.tally[n]).tallyShift v (s.tele.monitor[n]).live ∧
      (∀ k : Fin 24, n ≠ k → t.tele.monitor[k] = s.tele.monitor[k]) ∧ KeepsBut [.rep, .tele] (begin dt s) t) ∧
  (∀ (s u : State) (dt : Nat) (n : Fin 16) (r : SampleRec) (l : List SampleRec), u = countIdle (begin dt s) →
    (u.tele.sampler[n]).due = r :: l → u.tele.smpQueue.length < 64 →
    Answers (.samplerFired dt n) s fun t =>
      t.tele = { u.tele with
        sampler := u.tele.sampler.set n { u.tele.sampler[n] with due := l }, smpGap := false, smpLost := false
        smpQueue := u.tele.smpQueue ++ [{ r with gap := u.tele.smpGap || u.tele.smpLost, afterLoss := u.tele.smpLost }] } ∧
      KeepsBut [.tele, .core] (begin dt s) u ∧
      ChangesFrom u s t [.tele] (if (s.cfg.b10.sampler[n]).smpAttn then [eventNote 0x1003 (begin dt s) n.val] else [])) ∧
  (∀ (s u : State) (dt : Nat) (n : Fin 16) (r : SampleRec) (l : List SampleRec), u = countIdle (begin dt s) →
    (u.tele.sampler[n]).due = r :: l → 64 ≤ u.tele.smpQueue.length →
    Answers (.samplerFired dt n) s fun t =>
      t.tele = { u.tele with sampler := u.tele.sampler.set n { u.tele.sampler[n] with due := l }, smpLost := true } ∧
      ChangesFrom u s t [.tele] (if (s.cfg.b10.sampler[n]).smpAttn then [eventNote 0x1003 (begin dt s) n.val, .count 0x100008 1]
        else [.count 0x100008 1])) ∧
  (∀ (s u : State) (dt : Nat) (n : Fin 16), u = countIdle (begin dt s) → (u.tele.sampler[n]).due = [] →
    Answers (.samplerFired dt n) s fun t => ChangesFrom u s t [] []) ∧
  (∀ (s : State) (dt : Nat) (r : SampleRec) (q : List SampleRec), s.tele.smpQueue = r :: q →
    Answers (.sampleRingWrite dt) s fun t =>
      t.tele = { s.tele with
        smpQueue := q, smpRing := (r :: s.tele.smpRing).take 1024, smpHead := (s.tele.smpHead + 1) % 65536
        smpUnsent := s.tele.smpUnsent + 1 } ∧
      Changes dt s t [.tele] (if r.afterLoss then [eventNote 0x1005 (begin dt s)] else [])) ∧
  (∀ (s : State) (dt : Nat) (p : Fin 8), telemActive s = true → p = Fin.ofNat 8 s.cfg.b10.telem.telemPort →
    Answers (.telemReport dt) s fun t =>
      t.tele.telemSeq = (s.tele.telemSeq + 1) % 2 ^ 32 ∧ (∀ k : Fin 8, p ≠ k → t.ports[k] = s.ports[k]) ∧
      (portPresent s p = false ∨ (s.ports[p]).link = false → t.out = [] ∧ t.ports[p] = s.ports[p]) ∧
      (portPresent s p = true → (s.ports[p]).link = true →
        t.out ≠ [] ∨ (s.ports[p]).waiting.length < (t.ports[p]).waiting.length) ∧
      KeepsBut [.out, .rep, .tele, .ports] (begin dt s) t) ∧
  (∀ (s : State) (dt : Nat), telemActive s = false → Answers (.telemReport dt) s fun t => Changes dt s t [] [])

/-- R69, R514 (`secondMarker`, `governorTick`): out of DIRECT the marker and the tick move the time to the first advance at or after
their instant, and leave the device, its configuration and its OTP alone while `RESET_N` is low; while the timebase stands the marker
only counts the RTC on, and the tick does nothing. R123, R125, R74, R273 (`governorTick`): a tick in ACQUIRE with every slot disabled
selects nothing and steps nothing; the rate word stands within its limits; the rate of each Millstone in service is taken. -/
def Obligations.TicksMoveTheTimeAndHoldTheRate : Prop :=
  (∀ (s : State) (n : Nat), s.tb.running = true → s.pll.tbState ≠ .direct → s.tb.sec = s.tb.markerSec → s.tb.sub < subPerSec →
    s.tb.sec + 1 < 2 ^ 48 → s.tb.w.natAbs < 2 ^ 40 →
    Answers (.secondMarker n) s fun t =>
      t.tb.sec = s.tb.sec + 1 ∧ t.tb.markerSec = s.tb.sec + 1 ∧ t.tb.sub < 2 ^ 48 + 2 ^ 40 ∧ t.tb.w = s.tb.w ∧
      t.tb.stepCount = s.tb.stepCount ∧ t.pwr = s.pwr ∧ t.cfg = s.cfg ∧ t.otp = s.otp) ∧
  (∀ (s : State) (n : Nat), s.tb.running = false →
    Answers (.secondMarker n) s fun t =>
      t.pd0.rtcSec = (s.pd0.rtcSec + (s.pd0.rtcSub + n) / 32768) % 2 ^ 48 ∧ t.pd0.rtcSub = (s.pd0.rtcSub + n) % 32768 ∧
      Changes 0 s t [.pd0] []) ∧
  (∀ (s : State) (rates : List Nat) (i : Option Nat) (b : Bool), s.tb.running = true →
    s.pll.tbState ≠ .direct → s.tb.sec * 64 + s.tb.sub / subPerTick = s.tb.lastTick → s.tb.sub < subPerSec →
    s.tb.sec + 1 < 2 ^ 48 → s.tb.w.natAbs < 2 ^ 40 →
    Answers (.governorTick rates i b) s fun t =>
      (t.tb.stepCount = s.tb.stepCount →
        t.tb.lastTick = s.tb.lastTick + 1 ∧ t.tb.sec * 64 + t.tb.sub / subPerTick = t.tb.lastTick ∧
        t.tb.sub % subPerTick < 2 ^ 48 + 2 ^ 40 ∧ t.tb.markerSec = s.tb.markerSec) ∧
      (s.pwr.resetHeld ≠ .none →
        t.tb.stepCount = s.tb.stepCount ∧ t.tb.w = s.tb.w ∧ KeepsBut [.clk, .tb, .pll, .rep] (begin 0 s) t)) ∧
  (∀ (s : State) (rates : List Nat) (i : Option Nat) (b : Bool), s.tb.running = false →
    Answers (.governorTick rates i b) s fun t => Changes 0 s t [] []) ∧
  (∀ (s : State) (rates : List Nat) (i : Option Nat) (b : Bool), s.tb.running = true → s.pwr.resetHeld = .none →
    s.pwr.mode = .acquire → s.gov.sel = none → (∀ n : Fin 13, s.refs[n] = {}) →
    s.tb.w.natAbs ≤ (offsetLimit s).natAbs →
    Answers (.governorTick rates i b) s fun t =>
      t.gov.sel = none ∧ t.pwr.mode = .acquire ∧ t.tb.w = s.tb.w ∧ t.tb.stepCount = s.tb.stepCount ∧
      t.ts.rateClamped = false ∧ t.ts.slewLimited = false ∧ (∀ n : Fin 13, (t.refs[n]).st = .disabled) ∧
      (∀ m : Fin 40, (s.core.ms[m]).st = .inService → (t.core.ms[m]).rate = rates.getD m.val 0 % 65536) ∧
      t.cfg = s.cfg ∧ t.otp = s.otp ∧ t.ld = s.ld)

/-- R123, R124, R126, R130, R134, R148 (`governorTick`, step 5 of the tick): what a tick selects among the slots its steps 2 and 3
leave, and what the selection does. ACQUIRE locks by the step of R73, with the slot selected; LOCKED switches with its build-out,
enters HOLDOVER where no slot is left or OSCIN is lost, and applies an armed step at the lock after a reload; HOLDOVER ends with a
selection. The tick's other steps leave the selection, the mode and the time alone. The order of the steps and of their events is log
entry 81. R131, R132, R149 (`governorTick`, step 6 of the tick): the build-out drains, the loop is fed and the rate word written; in
HOLDOVER the rate word follows the model, or the rate at entry. The flags that pause the drain are those of the last rate write (log
entry 89). R74, R75: the rate word written moves by at most `MAX_RATE_CHANGE` and, once inside, stays within `MAX_FREQ_OFFSET`; a word
outside a limit that was narrowed comes back inside at the change limit; the flags say which limit binds, each such tick is counted in
`CLAMP_CNT`, and a flag that rises has event 0x0304. -/
def Obligations.GovernorSelectsAndSteers : Prop :=
  (∀ (s : State) (rates : List Nat) (i : Option Nat) (b : Bool), s.tb.running = true → s.pwr.resetHeld = .none →
    Answers (.governorTick rates i b) s fun t =>
      t.gov.sel = (selectionMade s).gov.sel ∧ t.pwr.mode = (selectionMade s).pwr.mode ∧
      t.tb = { (selectionMade s).tb with w := t.tb.w } ∧ t.cfg = s.cfg ∧ t.otp = s.otp ∧
      ∃ later, t.rep = applyNotes (later ++ (selectionMade s).notes) s.rep) ∧
  (∀ s : State, s.pwr.mode = .acquire → s.pwr.resetHeld = .none →
    let u := slotsSettled s
    let v := selectionMade s
    (chooseAmong u (candidates u) = none → v = u) ∧
    ∀ n, chooseAmong u (candidates u) = some n →
      (lockWaits u n = true → v = u) ∧
      (lockWaits u n = false →
        v.pwr.mode = .locked ∧ v.gov.sel = some n ∧ (v.refs[n]).st = .selected ∧ v.gov.b = 0 ∧ v.gov.e = 0 ∧ v.ts.stepArmed = false ∧
        ((v.tb.sec * subPerSec + v.tb.sub : Nat) : Int) =
          (((u.tb.sec * subPerSec + u.tb.sub : Nat) : Int) + subOfUnits (u.refs[n]).x) % ((2 ^ 48 * subPerSec : Nat) : Int) ∧
        v.tb.sub < subPerSec ∧ v.tb.stepCount = (u.tb.stepCount + 1) % 256 ∧
        v.tb.w = max (-(offsetLimit s)) (min (offsetLimit s) (rateOfPpb (ppbOfRate u.tb.w + (u.refs[n]).y))) ∧
        .count 0x050004 1 ∈ v.notes ∧ eventNote 0x0301 v ∈ v.notes ∧ eventNote 0x0D0B v ∈ v.notes ∧ eventNote 0x0501 v n.val ∈ v.notes)) ∧
  (∀ s : State, s.pwr.mode = .locked → s.pwr.resetHeld = .none →
    let u := slotsSettled s
    let v := selectionMade s
    (chooseAmong u (candidates u) = none →
      v.pwr.mode = .holdover ∧ v.gov.sel = none ∧ v.ho.st = 1 ∧ v.ho.lastSlot = u.gov.sel ∧ v.ho.ql = u.gov.fedQl ∧ v.ho.entry = nowUnits u ∧
      v.ho.e = entryError u ∧ v.tb = u.tb ∧ .count 0x06000C 1 ∈ v.notes ∧ eventNote 0x0601 u ∈ v.notes ∧
      eventNote 0x050A u ((u.gov.sel.map (·.val)).getD 0xFF) ∈ v.notes) ∧
    ∀ n, chooseAmong u (candidates u) = some n →
      (u.gov.oscinLost = true ∨ u.pll.oscinPresent = false →
        v.pwr.mode = .holdover ∧ v.gov.sel = none ∧ v.ho.st = 1 ∧ v.ho.lastSlot = u.gov.sel ∧ v.tb = u.tb ∧
        .count 0x06000C 1 ∈ v.notes ∧ eventNote 0x0601 u ∈ v.notes) ∧
      (u.gov.oscinLost = false → u.pll.oscinPresent = true →
        v.pwr.mode = .locked ∧ v.gov.sel = some n ∧
        (lockDue u n = false → v.tb = u.tb ∧
          (u.gov.sel = some n → v = u) ∧
          (u.gov.sel ≠ some n →
            v.gov.b = (u.refs[n]).x ∧ v.gov.e = 0 ∧ v.gov.i = u.gov.i ∧ (v.refs[n]).st = .selected ∧
            v.notes = eventNote 0x0501 u n.val :: .count 0x050004 1 :: u.notes)) ∧
        (lockDue u n = true → v.gov.lockAfter = none ∧ v.ts.stepArmed = false ∧
          (u.ts.stepArmed = false → v.tb = u.tb) ∧
          (u.ts.stepArmed = true → (u.refs[n]).x.natAbs < s.cfg.b03.timescale.stepMin * unitsPerNs →
            v.tb = u.tb ∧ .count 0x03000D 1 ∈ v.notes ∧ eventNote 0x0303 u ∈ v.notes) ∧
          (u.ts.stepArmed = true → s.cfg.b03.timescale.stepMin * unitsPerNs ≤ (u.refs[n]).x.natAbs →
            v.tb.stepCount = (u.tb.stepCount + 1) % 256 ∧
            ((v.tb.sec * subPerSec + v.tb.sub : Nat) : Int) =
              (((u.tb.sec * subPerSec + u.tb.sub : Nat) : Int) + subOfUnits (u.refs[n]).x) % ((2 ^ 48 * subPerSec : Nat) : Int) ∧
            eventNote 0x0301 v ∈ v.notes)))) ∧
  (∀ s : State, s.pwr.mode = .holdover → s.pwr.resetHeld = .none →
    let u := slotsSettled s
    let v := selectionMade s
    (u.pll.oscinPresent = false ∨ u.gov.needQualify = true ∨ candidates u = [] → v = u) ∧
    ∀ n, u.pll.oscinPresent = true → u.gov.needQualify = false → chooseAmong u (candidates u) = some n → outsideWindow u n = false →
      v.pwr.mode = .locked ∧ v.gov.sel = some n ∧ v.gov.b = (u.refs[n]).x ∧ v.gov.e = 0 ∧ v.ho.st = 0 ∧ v.ts.stepArmed = false ∧
      v.tb = u.tb ∧ .count 0x050004 1 ∈ v.notes ∧ eventNote 0x0501 u n.val ∈ v.notes ∧ eventNote 0x0603 u ∈ v.notes) ∧
  (∀ s : State, (s.pwr.mode = .load ∨ s.pwr.mode = .safe ∨ s.pwr.mode = .retain) → selectionMade s = slotsSettled s) ∧
  (∀ (s : State) (rates : List Nat) (i : Option Nat) (b : Bool) (n : Fin 13), s.tb.running = true → s.pwr.resetHeld = .none →
    let u := slotsSettled s
    let v := selectionMade s
    let d : Nat := s.cfg.b05.fantail.buildoutDrain * unitsPerNs / 64
    let b' : Int := if draining v = false ∨ v.ts.rateClamped = true ∨ v.ts.slewLimited = true then v.gov.b
      else if v.gov.b.natAbs ≤ d then 0 else if v.gov.b < 0 then v.gov.b + d else v.gov.b - d
    let e := (v.refs[n]).x - b'
    let ns : Rat := (e : Rat) / (unitsPerNs : Nat)
    let wn := 2 * piOf * (min (trackBw v n) 20000 / 10000) / (2058 / 1000)
    let sum := v.gov.i + wn * wn * ns / 64
    let yc := 1414 / 1000 * wn * ns + sum
    u.gov.sel = some n → v.gov.sel = some n → v.tb.stepCount = u.tb.stepCount → feedsNow v n = true →
    Answers (.governorTick rates i b) s fun t =>
      t.gov.b = b' ∧ t.gov.e = e ∧ t.gov.lastFed = e ∧ t.gov.yc = yc ∧ t.tb.w = (writeRate (rateOfPpb yc) v).tb.w ∧
      t.ts.rateClamped = (writeRate (rateOfPpb yc) v).ts.rateClamped ∧ t.ts.slewLimited = (writeRate (rateOfPpb yc) v).ts.slewLimited ∧
      t.gov.i = if t.ts.rateClamped = true ∨ t.ts.slewLimited = true then v.gov.i else sum) ∧
  (∀ (s : State) (rates : List Nat) (i : Option Nat) (b : Bool), s.tb.running = true → s.pwr.resetHeld = .none →
    (selectionMade s).gov.sel = none → (selectionMade s).pwr.mode = .holdover →
    let v := selectionMade s
    let y := if v.ho.modelState = 2 ∨ (v.ho.modelState = 1 ∧ 64 ≤ v.ho.age) then modelRate v else v.ho.entryRate
    Answers (.governorTick rates i b) s fun t => t.gov.i = y ∧ t.gov.yc = y ∧ t.tb.w = (writeRate (rateOfPpb y) v).tb.w) ∧
  (∀ (s : State) (d : Int),
    let t := writeRate d s
    (t.tb.w - s.tb.w).natAbs ≤ (changeLimit s).natAbs ∧
    (-(offsetLimit s) ≤ s.tb.w → s.tb.w ≤ offsetLimit s → -(offsetLimit s) ≤ t.tb.w ∧ t.tb.w ≤ offsetLimit s) ∧
    (offsetLimit s < s.tb.w → t.tb.w ≤ s.tb.w ∧ (t.tb.w ≤ offsetLimit s ∨ t.tb.w = s.tb.w - changeLimit s)) ∧
    (s.tb.w < -(offsetLimit s) → s.tb.w ≤ t.tb.w ∧ (-(offsetLimit s) ≤ t.tb.w ∨ t.tb.w = s.tb.w + changeLimit s)) ∧
    (t.ts.rateClamped = true ↔ d < -(offsetLimit s) ∨ offsetLimit s < d) ∧
    (t.ts.slewLimited = true ↔ changeLimit s < ((max (-(offsetLimit s)) (min (offsetLimit s) d)) - s.tb.w).natAbs) ∧
    (t.tb.w = d ↔ t.ts.rateClamped = false ∧ t.ts.slewLimited = false) ∧
    t.notes = (if (t.ts.rateClamped = true ∧ s.ts.rateClamped = false) ∨ (t.ts.slewLimited = true ∧ s.ts.slewLimited = false) then
        [eventNote 0x0304 s] else []) ++
      (if t.ts.rateClamped = true ∨ t.ts.slewLimited = true then [.count 0x03000E 1] else []) ++ s.notes ∧
    t.tb = { s.tb with w := t.tb.w } ∧ t.ts = { s.ts with rateClamped := t.ts.rateClamped, slewLimited := t.ts.slewLimited } ∧
    KeepsBut [.tb, .ts] s t)

/-- R49, R21, R51 (`applyTick`): the apply tick. Every pending set becomes active, LOAD ends in ACQUIRE, or after a reload in the mode
it left, and the loader shows the slot it took. In any other state the command changes nothing. -/
def Obligations.ApplyTickActivatesTheImageAndEndsLoad : Prop :=
  (∀ (s : State) (r : AvsTakeover), s.pwr.mode = .load → s.pwr.resetHeld = .none → s.ld.stage = 4 → s.tb.running = true →
    Answers (.applyTick r) s fun t =>
      t.pwr.mode = (if s.pwr.loadKind = .reload then s.pwr.modeLeft else .acquire) ∧ t.pwr.applied = true ∧
      t.cfg = comingCfg s ∧ t.ld.stage = 0 ∧ t.ld.activeSlot = s.ld.trying ∧ t.ld.fallbackUsed = s.ld.second ∧
      t.ld.sectionsActive = s.ld.sectionsPending ∧ t.ld.sectionsPending = 0 ∧ t.otp = s.otp ∧
      t.tb.stepCount = s.tb.stepCount ∧ t.tb.w = s.tb.w) ∧
  (∀ (s : State) (r : AvsTakeover), s.pwr.mode ≠ .load ∨ s.ld.stage ≠ 4 →
    Answers (.applyTick r) s fun t => Changes 0 s t [] [])

/-- R87, R239, R248, R255, R269, R504 (`linkUp`, `linkDown`): what the PHY of a port reports is held, and the codewords corrected are
counted. Where every condition of the link holds it is up, with event 0x0A01, and under `GARP_EN` a bound address is announced; where
one fails it stays down, or is down, with event 0x0A02: its pauses end, what waits on it is dropped, its slots and the frame that
crosses are cancelled and counted, and no slot stays. Remote fault is sent where local fault begins. A port whose PHY does not run
takes no report. R262, R263, R269, R270 (`eqSliceSwapped`, `fecUncorrectable`): a worn slice's spare that matched takes the lane, with
event 0x0A07; one that did not is retired itself, with event 0x0A08. The swap waits for the link to be up and for no pause. An
uncorrectable codeword is counted, with the codewords corrected before it, the first after 1 s without one with event 0x0A03; a port
that is absent or off counts none. -/
def Obligations.LinksEqualisersAndFec : Prop :=
  (∀ (s : State) (dt : Nat) (l : LineState), phyRuns s l.port = true → (s.ports[l.port]).link = false →
    linkGood (takePhy l (begin dt s)) l.port = true → (portCfg s l.port).garpEn = false →
    Answers (.linkUp dt l) s fun t =>
      (t.ports[l.port]).link = true ∧ (t.ports[l.port]).phy.skewPs = l.skewPs ∧ (t.ports[l.port]).phy.phasePs = l.phasePs ∧
      (∀ k : Fin 8, l.port ≠ k → t.ports[k] = s.ports[k]) ∧
      Changes dt s t [.ports] (eventNote 0x0A01 (begin dt s) l.port.val ::
        if l.corrected = 0 then [] else [.count (0x0A0060 + l.port.val) l.corrected])) ∧
  (∀ (s : State) (dt : Nat) (l : LineState) (a : ServingAddrRec), phyRuns s l.port = true → (s.ports[l.port]).link = false →
    linkGood (takePhy l (begin dt s)) l.port = true → (portCfg s l.port).garpEn = true → serving s = true →
    boundAddrs s l.port = [a] → a.addrAnycast = false → (s.ports[l.port]).book = [] →
    (∀ k : Fin 8, pauseEnd (begin dt s) l.port k = none) →
    Answers (.linkUp dt l) s fun t =>
      (t.ports[l.port]).link = true ∧ (∀ k : Fin 8, l.port ≠ k → t.ports[k] = s.ports[k]) ∧
      t.out = [.frame l.port (if a.addrV6 then unsolicitedNa s l.port a else garpFrame s l.port a) none] ∧
      Changes dt s t [.ports, .out] (.count (0x0A0070 + l.port.val) 1 :: eventNote 0x0A01 (begin dt s) l.port.val ::
        if l.corrected = 0 then [] else [.count (0x0A0060 + l.port.val) l.corrected])) ∧
  (∀ (s : State) (dt : Nat) (l : LineState), phyRuns s l.port = true → (s.ports[l.port]).link = false →
    linkGood (takePhy l (begin dt s)) l.port = false →
    Answers (.linkUp dt l) s fun t =>
      (t.ports[l.port]).link = false ∧ (∀ k : Fin 8, l.port ≠ k → t.ports[k] = s.ports[k]) ∧
      t.out = (if l.localFault = true ∧ (s.ports[l.port]).phy.localFault = false then [.remoteFault l.port] else []) ∧
      Changes dt s t [.ports, .out] (if l.corrected = 0 then [] else [.count (0x0A0060 + l.port.val) l.corrected])) ∧
  (∀ (s : State) (dt : Nat) (l : LineState), phyRuns s l.port = true → (s.ports[l.port]).link = true →
    linkGood (takePhy l (begin dt s)) l.port = false →
    Answers (.linkDown dt l) s fun t =>
      (t.ports[l.port]).link = false ∧ (t.ports[l.port]).pause = none ∧ (∀ k : Fin 8, (t.ports[l.port]).pfc[k] = none) ∧
      (t.ports[l.port]).waiting = [] ∧ (t.ports[l.port]).crossing = none ∧
      (t.ports[l.port]).book = [] ∧ (t.ports[l.port]).lastPause = lastInForce (begin dt s) l.port ∧
      (∀ j ∈ t.core.park, j.port ≠ l.port ∨ j.recommit = false) ∧
      (∀ k : Fin 8, l.port ≠ k → (t.ports[k]).link = (s.ports[k]).link) ∧
      t.cfg = s.cfg ∧ t.gov = s.gov ∧ t.ntp = s.ntp ∧ t.cli = s.cli ∧
      NotesFirst dt s t
        (cancelNotes dt s l.port (bookedSlots s l.port (fun _ => true) + if crossingNow (begin dt s) l.port then 1 else 0) ++
         (if crossingNow (begin dt s) l.port then [.count (0x0B0090 + l.port.val) 1] else []) ++
         .count (0x0A0088 + l.port.val) 1 :: eventNote 0x0A02 (begin dt s) l.port.val ::
         if l.corrected = 0 then [] else [.count (0x0A0060 + l.port.val) l.corrected])) ∧
  (∀ (s : State) (dt : Nat) (l : LineState), phyRuns s l.port = true → (s.ports[l.port]).link = true →
    linkGood (takePhy l (begin dt s)) l.port = false → (s.ports[l.port]).book = [] → (s.ports[l.port]).crossing = none →
    s.core.park = [] → s.core.precQ = [] → s.core.assuredQ = [] → s.core.generalQ = [] →
    Answers (.linkDown dt l) s fun t =>
      t.out = (if l.localFault = true ∧ (s.ports[l.port]).phy.localFault = false then [.remoteFault l.port] else []) ∧
      Changes dt s t [.ports, .core, .out] (.count (0x0A0088 + l.port.val) 1 :: eventNote 0x0A02 (begin dt s) l.port.val ::
        if l.corrected = 0 then [] else [.count (0x0A0060 + l.port.val) l.corrected])) ∧
  (∀ (s : State) (dt : Nat) (l : LineState), phyRuns s l.port = false →
    ∀ c ∈ [Instr.linkUp dt l, .linkDown dt l], Answers c s fun t => Changes dt s t [] []) ∧
  (∀ (s : State) (dt : Nat) (g : Fin 2) (lane : Fin 4) (k : Fin 5), eqSpare s g = some k →
    eqRetires s g (s.dress.eqMap[g])[lane] = true → (s.ports[lanePort s (Fin.ofNat 8 (4 * g.val + lane.val))]).link = true →
    anyPause (begin dt s) (lanePort s (Fin.ofNat 8 (4 * g.val + lane.val))) = false →
    Answers (.eqSliceSwapped dt g lane true) s fun t =>
      (t.dress.eqMap[g])[lane] = k.val ∧ bitAt (t.dress.retired[(Fin.ofNat 12 (6 + g.val) : Fin 12)]) ((s.dress.eqMap[g])[lane]) = true ∧
      (∀ l : Fin 4, lane ≠ l → (t.dress.eqMap[g])[l] = (s.dress.eqMap[g])[l]) ∧
      t.ports = s.ports ∧ t.core = s.core ∧ t.cfg = s.cfg ∧
      NotesFirst dt s t [eventNote 0x0A07 (begin dt s) g.val k.val, .count 0x0A0006 1]) ∧
  (∀ (s : State) (dt : Nat) (g : Fin 2) (lane : Fin 4) (k : Fin 5), eqSpare s g = some k →
    eqRetires s g (s.dress.eqMap[g])[lane] = true → (s.ports[lanePort s (Fin.ofNat 8 (4 * g.val + lane.val))]).link = true →
    anyPause (begin dt s) (lanePort s (Fin.ofNat 8 (4 * g.val + lane.val))) = false →
    Answers (.eqSliceSwapped dt g lane false) s fun t =>
      t.dress.eqMap = s.dress.eqMap ∧ bitAt (t.dress.retired[(Fin.ofNat 12 (6 + g.val) : Fin 12)]) k.val = true ∧
      t.ports = s.ports ∧ t.core = s.core ∧ t.cfg = s.cfg ∧ NotesFirst dt s t [eventNote 0x0A08 (begin dt s) g.val k.val]) ∧
  (∀ (s : State) (dt : Nat) (g : Fin 2) (lane : Fin 4) (ok : Bool),
    eqSpare s g = none ∨ eqRetires s g (s.dress.eqMap[g])[lane] = false ∨
    (s.ports[lanePort s (Fin.ofNat 8 (4 * g.val + lane.val))]).link = false ∨
    anyPause (begin dt s) (lanePort s (Fin.ofNat 8 (4 * g.val + lane.val))) = true →
    Answers (.eqSliceSwapped dt g lane ok) s fun t => Changes dt s t [] []) ∧
  (∀ (s : State) (dt : Nat) (r : FecReport), portPresent s r.port = true → (portCfg s r.port).portEn = true →
    Answers (.fecUncorrectable dt r) s fun t =>
      t.ports = s.ports.set r.port { s.ports[r.port] with fecAt := some (begin dt s).clk } ∧
      Changes dt s t [.ports]
        ((if (s.ports[r.port]).fecAt.all (fun u => decide (u + clkPerSec ≤ (begin dt s).clk)) then
          [eventNote 0x0A03 (begin dt s) r.port.val] else []) ++
        .count (0x0A0068 + r.port.val) 1 :: (if r.corrected = 0 then [] else [.count (0x0A0060 + r.port.val) r.corrected]))) ∧
  (∀ (s : State) (dt : Nat) (r : FecReport), portPresent s r.port = false ∨ (portCfg s r.port).portEn = false →
    Answers (.fecUncorrectable dt r) s fun t => Changes dt s t [] [])

/-- R243, R252, R253, R254, R269 (`pauseFrame`, `pfcFrame`, `pauseEnd`): every control frame is counted in `Pn_PAUSE_RX_CNT`. With
`PAUSE_OBEY` a pause frame sets the end of the pause, and with `PFC_OBEY` a PFC frame those of the priorities it enables, each
replacing the one before; a time of zero ends it. The first after 1 s without one issues event 0x0A04. Every launch booked within the
pause is cancelled and counted. A frame not obeyed has no other effect. A pause that has run out is forgotten. (Where no answer is
booked, parked or waiting, nothing else changes.) -/
def Obligations.PausesHoldAPort : Prop :=
  (∀ (s : State) (dt : Nat) (p : Fin 8) (q : Nat), serving s = true → (s.ports[p]).link = true →
    (portCfg s p).pauseObey = true → q < 65536 →
    let now := nowUnits (begin dt s)
    let stop := now + (q : Int) * quantum s p
    Answers (.pauseFrame dt p q true) s fun t =>
      (t.ports[p]).pause = (if q = 0 then none else some stop) ∧ (t.ports[p]).pfc = (s.ports[p]).pfc ∧
      (t.ports[p]).lastPause = lastInForce (begin dt s) p ∧
      (∀ b ∈ (t.ports[p]).book, b.void = true ∨ b.ttx < now ∨ stop ≤ b.ttx) ∧
      (∀ k : Fin 8, p ≠ k → t.ports[k] = s.ports[k]) ∧ t.cfg = s.cfg ∧ t.tb = (begin dt s).tb ∧
      NotesFirst dt s t
        (cancelNotes dt s p (bookedSlots s p fun b => decide (now ≤ b.ttx ∧ b.ttx < stop)) ++
         (if pausedLately (begin dt s) p = false ∧ now < stop then [eventNote 0x0A04 (begin dt s) p.val] else []) ++
         [.count (0x0A0050 + p.val) 1])) ∧
  (∀ (s : State) (dt : Nat) (p : Fin 8) (q : Nat), serving s = true → (s.ports[p]).link = true →
    (portCfg s p).pauseObey = true → (s.ports[p]).book = [] → (s.ports[p]).waiting = [] → s.core.park = [] → q < 65536 →
    Answers (.pauseFrame dt p q true) s fun t =>
      (q = 0 ∨ pausedLately (begin dt s) p = true → (s.ports[p]).pfc = Vector.replicate 8 none →
        Changes dt s t [.ports] [.count (0x0A0050 + p.val) 1]) ∧
      (0 < q → 0 < quantum s p → pausedLately (begin dt s) p = false →
        Changes dt s t [.ports] [eventNote 0x0A04 (begin dt s) p.val, .count (0x0A0050 + p.val) 1])) ∧
  (∀ (s : State) (dt : Nat) (p : Fin 8) (q : Nat) (w : Bool), serving s = true → (s.ports[p]).link = true →
    (portCfg s p).pauseObey = false ∨ w = false →
    Answers (.pauseFrame dt p q w) s fun t =>
      t.ports = rxPorts dt s p ∧ Changes dt s t [.ports] [.count (0x0A0050 + p.val) 1]) ∧
  (∀ (s : State) (dt : Nat) (p : Fin 8) (times : PfcTimes), serving s = true → (s.ports[p]).link = true →
    (portCfg s p).pfcObey = true →
    let now := nowUnits (begin dt s)
    let stop (k : Nat) : Units := now + ((times.quanta.getD k 0 % 65536 : Nat) : Int) * quantum s p
    let covered (b : Booking) : Bool := bitAt times.enable b.prio && decide (now ≤ b.ttx ∧ b.ttx < stop b.prio)
    Answers (.pfcFrame dt p times true) s fun t =>
      (∀ k : Fin 8, bitAt times.enable k.val = true → (t.ports[p]).pfc[k] = if stop k.val = now then none else some (stop k.val)) ∧
      (∀ k : Fin 8, bitAt times.enable k.val = false → (t.ports[p]).pfc[k] = (s.ports[p]).pfc[k]) ∧
      (t.ports[p]).pause = (s.ports[p]).pause ∧ (t.ports[p]).lastPause = lastInForce (begin dt s) p ∧
      (∀ b ∈ (t.ports[p]).book, b.void = true ∨ covered b = false) ∧
      (∀ k : Fin 8, p ≠ k → t.ports[k] = s.ports[k]) ∧ t.cfg = s.cfg ∧ t.tb = (begin dt s).tb ∧
      NotesFirst dt s t
        (cancelNotes dt s p (bookedSlots s p covered) ++
         (if pausedLately (begin dt s) p = false ∧ (∃ k : Fin 8, bitAt times.enable k.val = true ∧ now < stop k.val) then
           [eventNote 0x0A04 (begin dt s) p.val] else []) ++
         [.count (0x0A0050 + p.val) 1]) ∧
      ((s.ports[p]).book = [] → (s.ports[p]).waiting = [] → s.core.park = [] → KeepsBut [.ports, .rep] (begin dt s) t)) ∧
  (∀ (s : State) (dt : Nat) (p : Fin 8) (times : PfcTimes) (w : Bool), serving s = true → (s.ports[p]).link = true →
    (portCfg s p).pfcObey = false ∨ w = false →
    Answers (.pfcFrame dt p times w) s fun t =>
      t.ports = rxPorts dt s p ∧ Changes dt s t [.ports] [.count (0x0A0050 + p.val) 1]) ∧
  (∀ (s : State) (dt : Nat) (p : Fin 8) (k : Option (Fin 8)), (s.ports[p]).waiting = [] → s.core.park = [] →
    Answers (.pauseEnd dt p k) s fun t =>
      (k = none → (∀ u, (s.ports[p]).pause = some u → u ≤ nowUnits (begin dt s) → (t.ports[p]).pause = none) ∧
        (t.ports[p]).pfc = (s.ports[p]).pfc) ∧
      (∀ n : Fin 8, k = some n → (∀ u, (s.ports[p]).pfc[n] = some u → u ≤ nowUnits (begin dt s) → (t.ports[p]).pfc[n] = none) ∧
        (t.ports[p]).pause = (s.ports[p]).pause) ∧
      (∀ n : Fin 8, p ≠ n → t.ports[n] = s.ports[n]) ∧ Changes dt s t [.ports] [])

/-- R243, R247 to R251, R254 (`arpRequest`, `neighbourSolicitation`, `echoRequest`): an ARP request, a Neighbour Solicitation or an
echo request for a serving address of the port is answered, counted, and takes the line as soon as that is free; where a pause holds
it, or a committed launch comes first, it waits; over its limit it is counted in `Pn_RESP_DROP_CNT` and not answered. -/
def Obligations.TheResponderAnswers : Prop :=
  (∀ (s : State) (dt : Nat) (p : Fin 8) (f : Frame) (m : Meter), serving s = true → (s.ports[p]).link = true → f.fcsOk = true →
    refuseCause s p f = none → f.etherType = 0x0806 → f.arpOp = 1 → (portCfg s p).arpNdEn = true →
    isServing s p f false f.target = true → takeToken (begin dt s) (portCfg s p).respRate (s.ports[p]).resp = some m →
    pauseEnd (begin dt s) p (framePrio s p (arpReply s p f)) = none → fitsBeside (begin dt s) p f.len = true →
    Answers (.arpRequest dt p f) s fun t =>
      t.out = [.frame p (arpReply s p f) none] ∧ (arpReply s p f).dst = f.src ∧ (arpReply s p f).src = (portCfg s p).portMac ∧
      (arpReply s p f).arpOp = 2 ∧ t.ports = (rxPorts dt s p).set p { (rxPorts dt s p)[p] with
        resp := m, lineBusy := some (lineFree (begin dt s) p + ((f.len + 20 : Nat) : Int) * byteTime s p) } ∧
      Changes dt s t [.ports, .out] [.count (0x0A0070 + p.val) 1, .count (0x0A0028 + p.val) 1]) ∧
  (∀ (s : State) (dt : Nat) (p : Fin 8) (f : Frame) (m : Meter), serving s = true → (s.ports[p]).link = true → f.fcsOk = true →
    refuseCause s p f = none → f.etherType = 0x0806 → f.arpOp = 1 → (portCfg s p).arpNdEn = true →
    isServing s p f false f.target = true → takeToken (begin dt s) (portCfg s p).respRate (s.ports[p]).resp = some m →
    pauseEnd (begin dt s) p (framePrio s p (arpReply s p f)) ≠ none ∨ fitsBeside (begin dt s) p f.len = false →
    Answers (.arpRequest dt p f) s fun t =>
      t.out = [] ∧ t.ports = (rxPorts dt s p).set p { (rxPorts dt s p)[p] with
        resp := m, waiting := (s.ports[p]).waiting ++ [{
          prio := framePrio s p (arpReply s p f), counter := some (0x0A0070 + p.val), what := .frame p (arpReply s p f) none }] } ∧
      Changes dt s t [.ports] [.count (0x0A0028 + p.val) 1]) ∧
  (∀ (s : State) (dt : Nat) (p : Fin 8) (f : Frame), serving s = true → (s.ports[p]).link = true → f.fcsOk = true →
    refuseCause s p f = none → f.etherType = 0x0806 → f.arpOp = 1 → (portCfg s p).arpNdEn = true →
    isServing s p f false f.target = true → takeToken (begin dt s) (portCfg s p).respRate (s.ports[p]).resp = none →
    Answers (.arpRequest dt p f) s fun t =>
      t.ports = rxPorts dt s p ∧
      (Changes dt s t [.tele, .ports] [.count (0x0A0078 + p.val) 1, .count (0x0A0028 + p.val) 1] ∨
      Changes dt s t [.tele, .ports] [eventNote 0x0A0A (begin dt s) p.val, .count (0x0A0078 + p.val) 1, .count (0x0A0028 + p.val) 1])) ∧
  (∀ (s : State) (dt : Nat) (p : Fin 8) (f : Frame) (a : ServingAddrRec) (m : Meter), serving s = true → (s.ports[p]).link = true →
    f.fcsOk = true → refuseCause s p f = none → f.etherType = 0x86DD → f.icmpType = some 135 → (portCfg s p).arpNdEn = true →
    servingRec s p f f.target = some a → takeToken (begin dt s) (portCfg s p).respRate (s.ports[p]).resp = some m →
    pauseEnd (begin dt s) p (framePrio s p (solicitedNa s p f a)) = none →
    fitsBeside (begin dt s) p (solicitedNa s p f a).len = true →
    Answers (.neighbourSolicitation dt p f) s fun t =>
      t.out = [.frame p (solicitedNa s p f a) none] ∧ (solicitedNa s p f a).icmpType = some 136 ∧
      (solicitedNa s p f a).payload = (if a.addrAnycast then 0x40#8 else 0x60#8) :: beBytes 6 (portCfg s p).portMac ∧
      t.ports = (rxPorts dt s p).set p { (rxPorts dt s p)[p] with
        resp := m, lineBusy := some (lineFree (begin dt s) p + (((solicitedNa s p f a).len + 20 : Nat) : Int) * byteTime s p) } ∧
      Changes dt s t [.ports, .out] [.count (0x0A0070 + p.val) 1, .count (0x0A0028 + p.val) 1]) ∧
  (∀ (s : State) (dt : Nat) (p : Fin 8) (f : Frame) (a : ServingAddrRec), serving s = true → (s.ports[p]).link = true →
    f.fcsOk = true → refuseCause s p f = none → f.etherType = 0x86DD → f.icmpType = some 135 → (portCfg s p).arpNdEn = true →
    servingRec s p f f.target = some a → takeToken (begin dt s) (portCfg s p).respRate (s.ports[p]).resp = none →
    Answers (.neighbourSolicitation dt p f) s fun t =>
      t.ports = rxPorts dt s p ∧
      (Changes dt s t [.tele, .ports] [.count (0x0A0078 + p.val) 1, .count (0x0A0028 + p.val) 1] ∨
      Changes dt s t [.tele, .ports] [eventNote 0x0A0A (begin dt s) p.val, .count (0x0A0078 + p.val) 1, .count (0x0A0028 + p.val) 1])) ∧
  (∀ (s : State) (dt : Nat) (p : Fin 8) (f : Frame) (h : IpHdr) (m : Meter), serving s = true → (s.ports[p]).link = true →
    f.fcsOk = true → refuseCause s p f = none → f.ip = some h → h.proto = (if h.v6 then 58 else 1) →
    f.icmpType = some (if h.v6 then 128 else 8) → isServing s p f h.v6 h.dst = true →
    takeToken (begin dt s) (portCfg s p).echoRate (s.ports[p]).echo = some m →
    pauseEnd (begin dt s) p (framePrio s p (echoReply s p f)) = none → fitsBeside (begin dt s) p f.len = true →
    Answers (.echoRequest dt p f) s fun t =>
      t.out = [.frame p (echoReply s p f) none] ∧ (echoReply s p f).icmpType = some (if h.v6 then 129 else 0) ∧
      (echoReply s p f).payload = f.payload ∧ (echoReply s p f).dst = f.src ∧ t.ports = (rxPorts dt s p).set p { (rxPorts dt s p)[p] with
        echo := m, lineBusy := some (lineFree (begin dt s) p + ((f.len + 20 : Nat) : Int) * byteTime s p) } ∧
      Changes dt s t [.ports, .out] [.count (0x0A0080 + p.val) 1, .count (0x0A0028 + p.val) 1]) ∧
  (∀ (s : State) (dt : Nat) (p : Fin 8) (f : Frame) (h : IpHdr), serving s = true → (s.ports[p]).link = true →
    f.fcsOk = true → refuseCause s p f = none → f.ip = some h → h.proto = (if h.v6 then 58 else 1) →
    f.icmpType = some (if h.v6 then 128 else 8) → isServing s p f h.v6 h.dst = true →
    takeToken (begin dt s) (portCfg s p).echoRate (s.ports[p]).echo = none →
    Answers (.echoRequest dt p f) s fun t =>
      t.ports = rxPorts dt s p ∧
      (Changes dt s t [.tele, .ports] [.count (0x0A0078 + p.val) 1, .count (0x0A0028 + p.val) 1] ∨
      Changes dt s t [.tele, .ports] [eventNote 0x0A0A (begin dt s) p.val, .count (0x0A0078 + p.val) 1, .count (0x0A0028 + p.val) 1]))

/-- R243, R245, R246, R258, R300, R312, R377, R382 (`frameRefused`, `ntpRequest`): a frame refused is counted with its cause, in LOAD
and SAFE as dropped; one longer than `MAX_FRAME` has cause 9 whatever its FCS. The timestamp unit records where every frame crossed,
which a command that does not tell it leaves open (log entry 16). One the Sluice refuses is counted at its step; one the access rule
drops with no answer is counted; one of an ASSURED or GENERAL class that no meter judges and that is not spilled joins the tail of its
class queue, with its T2 and its cells; one its class meter refuses, with the KoD budget spent, is counted and queued nowhere. -/
def Obligations.FramesAreCheckedAndRequestsQueued : Prop :=
  (∀ (s : State) (dt : Nat) (p : Fin 8) (f : Frame), serving s = true → (s.ports[p]).link = true → f.fcsOk = false →
    tooLong s p f = false →
    Answers (.frameRefused dt p f) s fun t => t.ports = rxPorts dt s p ∧ Changes dt s t [.ports] [.count (0x0A0038 + p.val) 1]) ∧
  (∀ (s : State) (dt : Nat) (p : Fin 8) (f : Frame) (c : Nat), serving s = true → (s.ports[p]).link = true →
    f.fcsOk = true ∨ tooLong s p f = true → refuseCause s p f = some c →
    Answers (.frameRefused dt p f) s fun t =>
      t.ports = (rxPorts dt s p).set p { (rxPorts dt s p)[p] with refuseCause := c } ∧ (tooLong s p f = true → c = 9) ∧ Changes dt s t [.ports] [.count (0x0A0040 + p.val) 1]) ∧
  (∀ (s : State) (dt : Nat) (p : Fin 8) (f : Frame), s.pwr.mode = .load ∨ s.pwr.mode = .safe → (s.ports[p]).link = true →
    Answers (.frameRefused dt p f) s fun t => t.ports = rxPorts dt s p ∧ Changes dt s t [.ports] [.count (0x0A0048 + p.val) 1]) ∧
  (∀ (s : State) (dt : Nat) (p : Fin 8) (r : RxPoint) (f : Frame) (a : Nat), serving s = true → (s.ports[p]).link = true →
    f.fcsOk = true → refuseCause s p f = none → f.ip.isSome = true → (f.udp.map (·.dstPort)) = some 123 →
    sluiceRefuses s f.payload = some a →
    Answers (.ntpRequest dt p r f) s fun t =>
      t.ports = (recordRx p r s).ports ∧ Changes dt s t [.ports] [.count a 1, .count (0x0A0028 + p.val) 1]) ∧
  (∀ (s : State) (dt : Nat) (p : Fin 8) (r : RxPoint) (f : Frame), serving s = true → (s.ports[p]).link = true →
    f.fcsOk = true → refuseCause s p f = none → f.ip.isSome = true → (f.udp.map (·.dstPort)) = some 123 →
    sluiceRefuses s f.payload = none → accessDecision s p f (ntpKind f == .nts) = (false, false) →
    Answers (.ntpRequest dt p r f) s fun t =>
      t.ports = (recordRx p r s).ports ∧ Changes dt s t [.ports] [.count 0x0C001C 1, .count (0x0A0028 + p.val) 1]) ∧
  (∀ (s : State) (dt : Nat) (p : Fin 8) (r : RxPoint) (f : Frame) (c : Cls) (b need : Nat), serving s = true → (s.ports[p]).link = true →
    f.fcsOk = true → refuseCause s p f = none → f.ip.isSome = true → (f.udp.map (·.dstPort)) = some 123 →
    sluiceRefuses s f.payload = none → (accessDecision s p f (ntpKind f == .nts)).1 = true →
    classify s p (ntpKind f) f = (c, b) → c ≠ .prec → s.cfg.b0E.weir.spillEn = false → classMeter s c = none →
    need = ((portCfg s p).maxFrame + 255) / 256 → need + s.cfg.b0A.hopper.precReserve ≤ hopperFree s →
    Answers (.ntpRequest dt p r f) s fun t =>
      (∃ j, queueOf t c = queueOf s c ++ [j] ∧ j.req = f ∧ j.port = p ∧ j.kind = ntpKind f ∧ j.bkt = b ∧
        j.t2 = t2Of (begin dt s) p r ∧ j.kod = none ∧ j.cells = cellsFor f) ∧
      (∀ d ∈ [Cls.prec, .assured, .general], d ≠ c → queueOf t d = queueOf s d) ∧
      t.core.cellsUsed = s.core.cellsUsed + cellsFor f ∧ t.ports = (recordRx p r s).ports ∧
      KeepsBut [.rep, .tele, .core, .weir, .ports] (begin dt s) t) ∧
  (∀ (s : State) (dt : Nat) (p : Fin 8) (r : RxPoint) (f : Frame) (b : Nat), serving s = true → (s.ports[p]).link = true →
    f.fcsOk = true → refuseCause s p f = none → f.ip.isSome = true → (f.udp.map (·.dstPort)) = some 123 →
    sluiceRefuses s f.payload = none → (accessDecision s p f (ntpKind f == .nts)).1 = true →
    classify s p (ntpKind f) f = (.general, b) → s.cfg.b0E.weir.spillEn = false → s.weir.shedGeneral = true →
    s.cfg.b0E.weir.wmLowNs = 0 → s.cfg.b0E.weir.kodBudget = 0 →
    Answers (.ntpRequest dt p r f) s fun t =>
      t.ports = (recordRx p r s).ports ∧
      (Changes dt s t [.ports, .weir, .tele] [.count 0x0E0013 1, .count 0x0E0011 1, .count (0x0A0028 + p.val) 1] ∨
        Changes dt s t [.ports, .weir, .tele]
          [.count 0x0E0013 1, eventNote 0x0E03 (begin dt s), .count 0x0E0011 1, .count (0x0A0028 + p.val) 1]))

/-- R243, R333, R339, R348, R382 (`delayReq`, `signalingRequest`, `ptpMessageDropped`): a Delay_Req or a Signaling request on a master
port, of an ASSURED or GENERAL class that no meter judges, and not spilled, joins the tail of its class queue, a Signaling frame with
its `NH_MAC` entry, taken or refreshed, or with event 0x0D03 where it asks for a grant and none is free; a message that R333 drops is
counted under its row, and a request in ACQUIRE with `ACQ_MODE` = 0 in `PTP_ACQ_DROP_CNT`. -/
def Obligations.PtpRequestsAreQueuedOrDropped : Prop :=
  (∀ (s : State) (dt : Nat) (p : Fin 8) (r : RxPoint) (f : Frame) (c : Cls) (b : Nat), serving s = true → ptpSilent s = false →
    (s.ports[p]).link = true → f.fcsOk = true → refuseCause s p f = none → isPtpFrame f = true → ptpOutcome s p f = .delayReq →
    classify s p .delayReq f = (c, b) → c ≠ .prec → s.cfg.b0E.weir.spillEn = false → classMeter s c = none →
    ((portCfg s p).maxFrame + 255) / 256 + s.cfg.b0A.hopper.precReserve ≤ hopperFree s →
    Answers (.delayReq dt p r f) s fun t =>
      (∃ j, queueOf t c = queueOf s c ++ [j] ∧ j.req = f ∧ j.port = p ∧ j.kind = .delayReq ∧
        j.t2 = t2Of (begin dt s) p r ∧ j.cells = cellsFor f) ∧
      (∀ d ∈ [Cls.prec, .assured, .general], d ≠ c → queueOf t d = queueOf s d) ∧
      t.ports = (recordRx p r s).ports ∧ KeepsBut [.rep, .tele, .core, .weir, .ports] (begin dt s) t) ∧
  (∀ (s : State) (dt : Nat) (p : Fin 8) (r : RxPoint) (f : Frame) (c : Cls) (b i : Nat), serving s = true → ptpSilent s = false →
    (s.ports[p]).link = true → f.fcsOk = true → refuseCause s p f = none → isPtpFrame f = true → ptpOutcome s p f = .signaling →
    classify s p .signaling f = (c, b) → c ≠ .prec → s.cfg.b0E.weir.spillEn = false → classMeter s c = none →
    ((portCfg s p).maxFrame + 255) / 256 + s.cfg.b0A.hopper.precReserve ≤ hopperFree s → (takeMac p f.src s).1 = some i →
    Answers (.signalingRequest dt p r f) s fun t =>
      (∃ j, queueOf t c = queueOf s c ++ [j] ∧ j.req = f ∧ j.port = p ∧ j.kind = .signaling ∧ j.macIdx = some i) ∧
      (∀ d ∈ [Cls.prec, .assured, .general], d ≠ c → queueOf t d = queueOf s d) ∧
      t.garner = { s.garner with nhMac := putIndexed i (f.src, p.val, (begin dt s).clk) s.garner.nhMac } ∧
      t.ports = (recordRx p r s).ports ∧ KeepsBut [.rep, .tele, .core, .weir, .garner, .ports] (begin dt s) t) ∧
  (∀ (s : State) (dt : Nat) (p : Fin 8) (r : RxPoint) (f : Frame) (c : Cls) (b : Nat), serving s = true → ptpSilent s = false →
    (s.ports[p]).link = true → f.fcsOk = true → refuseCause s p f = none → isPtpFrame f = true → ptpOutcome s p f = .signaling →
    classify s p .signaling f = (c, b) → c ≠ .prec → s.cfg.b0E.weir.spillEn = false → classMeter s c = none →
    ((portCfg s p).maxFrame + 255) / 256 + s.cfg.b0A.hopper.precReserve ≤ hopperFree s → (takeMac p f.src s).1 = none →
    Answers (.signalingRequest dt p r f) s fun t =>
      (∃ j, queueOf t c = queueOf s c ++ [j] ∧ j.req = f ∧ j.port = p ∧ j.kind = .signaling ∧ j.macIdx = none) ∧
      (((f.ptp.getD {}).tlvs.any fun x => x.tlvType == 4) = true → 
        NotesFirst dt s t [eventNote 0x0D03 (begin dt s) p.val, .count (0x0A0028 + p.val) 1]) ∧
      t.ports = (recordRx p r s).ports ∧
      KeepsBut [.rep, .tele, .core, .weir, .ports] (begin dt s) t) ∧
  (∀ (s : State) (dt : Nat) (p : Fin 8) (f : Frame) (a : Nat), serving s = true → (s.ports[p]).link = true → f.fcsOk = true →
    refuseCause s p f = none → isPtpFrame f = true → ptpOutcome s p f = .drop a →
    Answers (.ptpMessageDropped dt p f) s fun t =>
      t.ports = rxPorts dt s p ∧ Changes dt s t [.ports] [.count a 1, .count (0x0A0028 + p.val) 1]) ∧
  (∀ (s : State) (dt : Nat) (p : Fin 8) (r : RxPoint) (f : Frame), s.pwr.mode = .acquire → s.cfg.b0D.ptp.acqMode = false →
    (s.ports[p]).link = true → f.fcsOk = true → refuseCause s p f = none → isPtpFrame f = true →
    ptpOutcome s p f = .delayReq ∨ ptpOutcome s p f = .signaling →
    ∀ c ∈ [Instr.delayReq dt p r f, .signalingRequest dt p r f],
      Answers c s fun t => t.ports = (recordRx p r s).ports ∧ Changes dt s t [.ports] [.count 0x0D0010 1, .count (0x0A0028 + p.val) 1])

/-- R340, R341, R343, R347, R348 (`scheduledMessageDue`, `grantSweep`, `nhMacExpiry`): at t_k a stream's descriptor joins the tail of
the queue of its class, with t_k, the last instant of its stream, in place of T2; on a port that is absent or whose link is down it is
counted in `SCHED_SKIP_CNT` instead, and while the answer of its grant has not left it is not placed. A sweep descriptor for a block
joins the GENERAL queue. An entry not refreshed for 2,048 s is freed, and no other. In LOAD and SAFE nothing is placed. -/
def Obligations.SchedulesSweepsAndExpiry : Prop :=
  (∀ (s : State) (dt : Nat) (src : SchedSource) (ann : Bool) (p : Fin 8) (c : Cls) (l : Int) (i phase : Units),
    serving s = true → ptpSilent s = false → streamOf s src ann = some (p, c, l) → i = interval l →
    phase = (match src with
      | .grant g => grantPhase g.toNat i
      | .port n => portPhase n i) →
    (match src with
      | .grant g => awaitsGrantAnswer s g.toNat ann
      | .port _ => false) = false →
    portPresent s p = true → (s.ports[p]).link = true →
    Answers (.scheduledMessageDue dt src ann) s fun t =>
      (∃ j, queueOf t c = queueOf s c ++ [j] ∧ j.kind = (if ann then .announce else .sync) ∧ j.port = p ∧
        j.mcast = (match src with
          | .grant _ => false
          | .port _ => true) ∧ j.t2 = (nowUnits (begin dt s) - phase) / i * i + phase) ∧
      (∀ d ∈ [Cls.prec, .assured, .general], d ≠ c → queueOf t d = queueOf s d) ∧ KeepsBut [.rep, .tele, .core, .weir] (begin dt s) t) ∧
  (∀ (s : State) (n : Fin 8) (ann : Bool), (ptpPort s n).masterEn = true → (ptpPort s n).profile ≠ 2 →
    streamOf s (.port n) ann = some (n, if (ptpPort s n).mcastPrec then .prec else .general,
      if ann then (ptpPort s n).logAnnounce else (ptpPort s n).logSync)) ∧
  (∀ (s : State) (dt : Nat) (src : SchedSource) (ann : Bool) (p : Fin 8) (c : Cls) (l : Int),
    serving s = true → ptpSilent s = false → streamOf s src ann = some (p, c, l) →
    (match src with
      | .grant g => awaitsGrantAnswer s g.toNat ann
      | .port _ => false) = false →
    portPresent s p = false ∨ (s.ports[p]).link = false →
    Answers (.scheduledMessageDue dt src ann) s fun t => Changes dt s t [] [.count 0x0D000D 1]) ∧
  (∀ (s : State) (dt : Nat) (g : BitVec 20) (ann : Bool), awaitsGrantAnswer s g.toNat ann = true →
    Answers (.scheduledMessageDue dt (.grant g) ann) s fun t => Changes dt s t [] []) ∧
  (∀ (s : State) (dt : Nat) (b : Fin 16384), serving s = true →
    Answers (.grantSweep dt b) s fun t =>
      (∃ j, t.core.generalQ = s.core.generalQ ++ [j] ∧ j.kind = .sweep ∧ j.grant = b.val) ∧
      t.garner = s.garner ∧ KeepsBut [.rep, .tele, .core, .weir] (begin dt s) t) ∧
  (∀ (s : State) (dt : Nat) (src : SchedSource) (ann : Bool) (b : Fin 16384), serving s = false →
    ∀ c ∈ [Instr.scheduledMessageDue dt src ann, .grantSweep dt b], Answers c s fun t => Changes dt s t [] []) ∧
  (∀ (s : State) (dt : Nat) (e : Fin 4096), Answers (.nhMacExpiry dt e) s fun t =>
    (∀ x ∈ s.garner.nhMac, x ∈ t.garner.nhMac ↔ x.1 ≠ e.val ∨ (begin dt s).clk < x.2.2.2 + 2048 * clkPerSec) ∧
    (∀ x ∈ t.garner.nhMac, x ∈ s.garner.nhMac) ∧ t.garner.rate = s.garner.rate ∧ t.garner.grant = s.garner.grant ∧
    t.garner.calendar = s.garner.calendar ∧ Changes dt s t [.garner] [])

/-- R113, R243, R258, R351, R352, R353, R357 (`clientAnnounceRx`, `clientSyncRx`, `clientFollowUpRx`, `clientDelayRespRx`,
`clientSignalingRx`, `followUpTimeout`, `msBuildDone`): a message of the client's domain joins the tail of the PRECEDENCE queue, with
T2 where it is a Sync, and is processed when a Millstone completes it. A master of a profile 2 client is qualified by its Announce;
the first Announce of one heard on profiles 0 and 1 qualifies nothing; the best master is the best of the candidates after each. A
Sync of the best master gives x = t1 + dbar + `ASYM_CORR_NS` − t2, which the slot is delivered unless x is withheld, at once for a
one-step master and at the Follow_Up for a two-step one; without its Follow_Up it is discarded. A Delay_Resp gives one d_j; one that
departs from dbar by more than `ASYM_DELAY_NS` withholds x. Messages of another master change nothing of the client, and in LOAD and
SAFE every one is dropped and counted. (That a stamp of another step epoch makes no exchange is log entry 57.) -/
def Obligations.ClientsMeasureTheirMaster : Prop :=
  (∀ (s : State) (dt : Nat) (i : Fin 2) (src : Nat) (r : RxPoint) (m : PtpMsg), serving s = true → (cliCfg s i).cEn = true →
    (s.ports[cliPort s i]).link = true → m.domain = (cliCfg s i).cDomain →
    ∀ e ∈ [(Instr.clientAnnounceRx dt i src m, 0xB), (.clientSyncRx dt i src r m, 0), (.clientFollowUpRx dt i src m, 8),
        (.clientDelayRespRx dt i src m, 9), (.clientSignalingRx dt i src m, 0xC)],
      Answers e.1 s fun t =>
        t.cli = s.cli ∧ t.refs = s.refs ∧
        t.ports = (if e.2 = 0 then (recordRx (cliPort s i) r s).ports else rxPorts dt s (cliPort s i)) ∧
        (((portCfg s (cliPort s i)).maxFrame + 255) / 256 ≤ hopperFree s →
          (∃ j, t.core.precQ = s.core.precQ ++ [j] ∧ j.kind = .clientRx ∧ j.client = i ∧ j.grant = src ∧ j.k = e.2 ∧ j.req.ptp = some m ∧
            j.stepEpoch = s.tb.stepCount ∧
            j.t2 = if e.2 = 0 then t2Of (begin dt s) (cliPort s i) r else nowUnits (begin dt s)) ∧
          t.core.assuredQ = s.core.assuredQ ∧ t.core.generalQ = s.core.generalQ ∧
          KeepsBut [.rep, .tele, .core, .weir, .ports] (begin dt s) t) ∧
        (hopperFree s < ((portCfg s (cliPort s i)).maxFrame + 255) / 256 →
          KeepsBut [.rep, .tele, .weir, .ports] (begin dt s) t ∧
          NotesFirst dt s t [.count 0x0A0004 1, .count (0x0A0028 + (cliPort s i).val) 1])) ∧
  (∀ (s : State) (dt : Nat) (i : Fin 2) (src : Nat) (r : RxPoint) (m : PtpMsg), s.pwr.mode = .load ∨ s.pwr.mode = .safe →
    (cliCfg s i).cEn = true → (s.ports[cliPort s i]).link = true →
    ∀ e ∈ [(Instr.clientAnnounceRx dt i src m, 0xB), (.clientSyncRx dt i src r m, 0), (.clientFollowUpRx dt i src m, 8),
        (.clientDelayRespRx dt i src m, 9), (.clientSignalingRx dt i src m, 0xC)],
      Answers e.1 s fun t =>
        t.ports = (if e.2 = 0 then (recordRx (cliPort s i) r s).ports else rxPorts dt s (cliPort s i)) ∧
        Changes dt s t [.ports] [.count (0x0A0048 + (cliPort s i).val) 1]) ∧
  (∀ (s : State) (dt : Nat) (n : Fin 40) (j : Job), (s.core.ms[n]).front = some (j, .cells 0) → j.kind = .clientRx →
    Answers (.msBuildDone dt n) s fun t =>
      (t.core.ms[n]).front = none ∧ t.core.cellsUsed = s.core.cellsUsed - j.cells ∧
      (∀ k : Fin 2, j.client ≠ k → t.cli[k] = s.cli[k]) ∧ (∀ k : Fin 13, cliSlot j.client ≠ k → t.refs[k] = s.refs[k]) ∧
      KeepsBut [.rep, .tele, .core, .weir, .cli, .refs] (begin dt s) t ∧
      (j.k ∈ [0, 8, 9] → (s.cli[j.client]).best ≠ some j.grant →
        t.cli = s.cli ∧ t.refs = s.refs ∧ t.rep = applyNotes (begin dt s).notes s.rep)) ∧
  (∀ (s : State) (dt : Nat) (n : Fin 40) (j : Job) (i : Fin 2) (m : PtpMsg), (s.core.ms[n]).front = some (j, .cells 0) →
    j.kind = .clientRx → j.k = 0xB → j.client = i → j.req.ptp = some m →
    Answers (.msBuildDone dt n) s fun t =>
      (t.cli[i]).cands = hearAnnounce (cliCfg s i) (begin dt s).clk j.grant m (s.cli[i]).cands ∧
      (t.cli[i]).best = bestMaster (cliCfg s i) (t.cli[i]).cands ∧
      ((s.cli[i]).cands = [] → (cliCfg s i).cProfile = 2 → (masters (cliCfg s i)).contains j.grant = true →
        (t.cli[i]).cands = [{ src := j.grant, msg := m, lastAt := (begin dt s).clk, qualified := true }] ∧ (t.cli[i]).best = some j.grant) ∧
      ((s.cli[i]).cands = [] → (cliCfg s i).cProfile ≠ 2 → (s.cli[i]).best = none →
        t.refs = s.refs ∧
        t.cli = s.cli.set i { s.cli[i] with cands := [{ src := j.grant, msg := m, lastAt := (begin dt s).clk, qualified := false }] }) ∧
      ((t.cli[i]).best = (s.cli[i]).best → t.refs = s.refs) ∧
      ((t.cli[i]).best ≠ (s.cli[i]).best →
        (t.cli[i]).dj = [] ∧ (t.cli[i]).lastSync = none ∧
        ((s.refs[cliSlot i]).st = .selected → (t.refs[cliSlot i]).st = .qualifying) ∧
        NotesFirst dt s t [eventNote 0x0D05 (begin dt s) i.val])) ∧
  (∀ (s : State) (dt : Nat) (n : Fin 40) (j : Job) (i : Fin 2) (m : PtpMsg), (s.core.ms[n]).front = some (j, .cells 0) →
    j.kind = .clientRx → j.k = 0 → j.client = i → j.req.ptp = some m → (s.cli[i]).best = some j.grant →
    Answers (.msBuildDone dt n) s fun t =>
      (t.cli[i]).cancelDue = [] ∧
      (t.cli[i]).syncHeard = (if (cliCfg s i).cProfile = 2 then (s.cli[i]).syncHeard else m.logInterval) ∧
      (t.cli[i]).mpd = (s.cli[i]).mpd ∧ NotesFirst dt s t [.count (0x0D0107 + 16 * i.val) 1] ∧
      (j.stepEpoch ≠ s.tb.stepCount → (t.cli[i]).lastSync = (s.cli[i]).lastSync ∧ t.refs = s.refs) ∧
      (j.stepEpoch = s.tb.stepCount → m.twoStep = true →
        (t.cli[i]).waiting = some (m.seqId, j.t2, m.correction, j.t2Degraded, j.stepEpoch) ∧
        (t.cli[i]).lastSync = (s.cli[i]).lastSync ∧ t.refs = s.refs) ∧
      (j.stepEpoch = s.tb.stepCount → m.twoStep = false →
        (t.cli[i]).lastSync = some (msgTime m m.correction, j.t2) ∧
        ((s.cli[i]).dj ≠ [] ∨ (s.cli[i]).frozen = true →
          (t.cli[i]).offset = msgTime m m.correction + (s.cli[i]).mpd + (cliCfg s i).asymCorrNs * (unitsPerNs : Int) - j.t2 ∧
          (t.cli[i]).xAt = some (begin dt s).clk ∧
          t.refs = s.refs.set (cliSlot i) { s.refs[cliSlot i] with
            delivered := if (s.cli[i]).withheld then none else some (t.cli[i]).offset }))) ∧
  (∀ (s : State) (dt : Nat) (n : Fin 40) (j : Job) (i : Fin 2) (m : PtpMsg) (t2 : Units) (corr : Int) (d : Bool),
    (s.core.ms[n]).front = some (j, .cells 0) → j.kind = .clientRx → j.k = 8 → j.client = i → j.req.ptp = some m →
    (s.cli[i]).best = some j.grant → (s.cli[i]).waiting = some (m.seqId, t2, corr, d, s.tb.stepCount) →
    (s.cli[i]).dj ≠ [] ∨ (s.cli[i]).frozen = true →
    Answers (.msBuildDone dt n) s fun t =>
      (t.cli[i]).waiting = none ∧ (t.cli[i]).lastSync = some (msgTime m (corr + m.correction), t2) ∧
      (t.cli[i]).offset = msgTime m (corr + m.correction) + (s.cli[i]).mpd + (cliCfg s i).asymCorrNs * (unitsPerNs : Int) - t2 ∧
      t.refs = s.refs.set (cliSlot i) { s.refs[cliSlot i] with
        delivered := if (s.cli[i]).withheld then none else some (t.cli[i]).offset }) ∧
  (∀ (s : State) (dt : Nat) (i : Fin 2), Answers (.followUpTimeout dt i) s fun t =>
    t.cli = s.cli.set i { s.cli[i] with waiting := none } ∧ Changes dt s t [.cli] []) ∧
  (∀ (s : State) (dt : Nat) (n : Fin 40) (j : Job) (i : Fin 2) (m : PtpMsg) (t1 t2 t3 d : Units) (l : List SentDreq),
    (s.core.ms[n]).front = some (j, .cells 0) → j.kind = .clientRx → j.k = 9 → j.client = i → j.req.ptp = some m →
    (s.cli[i]).best = some j.grant → m.reqClockId = s.cfg.b0D.ptp.clockId → m.reqPort = (cliPort s i).val + 1 →
    (s.cli[i]).lastSync = some (t1, t2) → (s.cli[i]).dreqs = { seqId := m.seqId, t3 := some t3, stepEpoch := s.tb.stepCount } :: l →
    d = ((t2 - t1) + (msgTime m (-m.correction) - t3)) / 2 →
    Answers (.msBuildDone dt n) s fun t =>
      (t.cli[i]).dj = (d :: (s.cli[i]).dj).take 16 ∧ (t.cli[i]).dreqs = l ∧ (t.cli[i]).respAt = some (begin dt s).clk ∧
      ((s.cli[i]).frozen = false → (t.cli[i]).mpd = medianUnits (t.cli[i]).dj) ∧
      ((s.cli[i]).frozen = true → (t.cli[i]).mpd = (s.cli[i]).mpd ∧ (t.cli[i]).withheld = (s.cli[i]).withheld ∧ t.refs = s.refs) ∧
      ((s.cli[i]).frozen = false → (s.cli[i]).dj ≠ [] →
        (cliCfg s i).asymDelayNs * unitsPerNs < (d - (s.cli[i]).mpd).natAbs →
        (t.cli[i]).withheld = true ∧ (t.refs[cliSlot i]).delivered = none) ∧
      ((s.cli[i]).dj = [] ∨ (d - (s.cli[i]).mpd).natAbs ≤ (cliCfg s i).asymDelayNs * unitsPerNs →
        (t.cli[i]).withheld = (s.cli[i]).withheld ∧ t.refs = s.refs) ∧
      t.rep = applyNotes (.count (0x0D0108 + 16 * i.val) 1 :: (begin dt s).notes) s.rep)

/-- R113, R353, R354 (`clientDelayReqTx`, `msBuildDone`, `clientGrantRenewal`, `clientRequestRetry`): a Delay_Req to the best master
takes the next sequence number and a place in the PRECEDENCE queue; a grant of a master is noted with its time, a denial waits for its
repetition; a grant at half its time, and a request denied or unanswered for 10 s, are requested again for `C_DURATION_S`, whatever
other grants there are; the interval granted for Sync is the one the slot is sampled by. A master is named by its address on profile
2, else by its port identity (log entry 57). R352, R355, R357, R359 (`clientNoMaster`, `candidateAnnounceTimeout`, `xWithholdTimeout`,
`asymReleased`): without a master, without x for 2 s or without a Delay_Resp for 8 s the slot loses its signal, and the last qualified
candidate lost issues event 0x0D06; a stale candidate is dropped while others remain; x is withheld for at most 2 s; a quarantined
slot is released, with event 0x0D08. A master is named by its address on profile 2, else by its port identity (log entry 57). -/
def Obligations.ClientsNegotiateAndLoseTheirMaster : Prop :=
  (∀ (s : State) (dt : Nat) (i : Fin 2) (b : Nat), serving s = true → (cliCfg s i).cEn = true → (s.cli[i]).best = some b →
    Answers (.clientDelayReqTx dt i) s fun t =>
      (t.cli[i]).dreqSeq = ((s.cli[i]).dreqSeq + 1) % 65536 ∧
      (∃ j, t.core.precQ = s.core.precQ ++ [j] ∧ j.kind = .clientReq ∧ j.client = i ∧ j.grant = b ∧ j.k = (s.cli[i]).dreqSeq ∧
        j.reply = []) ∧
      (t.cli[i]).dreqs.head? = some { seqId := (s.cli[i]).dreqSeq, stepEpoch := s.tb.stepCount } ∧
      (∀ k : Fin 2, i ≠ k → t.cli[k] = s.cli[k]) ∧ KeepsBut [.rep, .tele, .cli, .core, .weir] (begin dt s) t) ∧
  (∀ (s : State) (dt : Nat) (i : Fin 2), (s.cli[i]).best = none ∨ (cliCfg s i).cEn = false ∨ serving s = false →
    Answers (.clientDelayReqTx dt i) s fun t => Changes dt s t [] []) ∧
  (∀ (s : State) (dt : Nat) (n : Fin 40) (j : Job) (i : Fin 2) (m : PtpMsg) (l d : Nat), (s.core.ms[n]).front = some (j, .cells 0) →
    j.kind = .clientRx → j.k = 0xC → j.client = i → j.req.ptp = some m → (s.cli[i]).best = some j.grant →
    m.tlvs = [{ tlvType := 5, messageType := 0, logInterval := l, duration := d + 1 }] →
    Answers (.msBuildDone dt n) s fun t =>
      (t.cli[i]).syncHeard = l ∧ Changes dt s t [.cli, .core, .tele, .weir] []) ∧
  (∀ (s : State) (dt : Nat) (i : Fin 2), serving s = true →
    Answers (.clientGrantRenewal dt i) s fun t =>
      (∀ g ∈ (s.cli[i]).grants, renewalDue (begin dt s).clk g = true →
        (∃ h ∈ (t.cli[i]).grants, h.master = g.master ∧ h.messageType = g.messageType ∧ h.asked = some (begin dt s).clk) ∧
        (∃ j ∈ t.core.precQ, j.kind = .clientReq ∧ j.client = i ∧ j.grant = g.master ∧
          ∃ v ∈ j.reply, v.tlvType = 4 ∧ v.messageType = g.messageType ∧ v.duration = (cliCfg s i).cDurationS)) ∧
      KeepsBut [.rep, .tele, .cli, .core, .weir] (begin dt s) t) ∧
  (∀ (s : State) (dt : Nat) (i : Fin 2), serving s = true →
    Answers (.clientRequestRetry dt i) s fun t =>
      (∀ g ∈ (s.cli[i]).grants, retryDue (begin dt s).clk g = true →
        (∃ h ∈ (t.cli[i]).grants, h.master = g.master ∧ h.messageType = g.messageType ∧ h.asked = some (begin dt s).clk) ∧
        (∃ j ∈ t.core.precQ, j.kind = .clientReq ∧ j.client = i ∧ j.grant = g.master ∧
          ∃ v ∈ j.reply, v.tlvType = 4 ∧ v.messageType = g.messageType ∧ v.duration = (cliCfg s i).cDurationS)) ∧
      KeepsBut [.rep, .tele, .cli, .core, .weir] (begin dt s) t) ∧
  (∀ (s : State) (dt : Nat) (n : Fin 40) (j : Job) (i : Fin 2) (m : PtpMsg) (g : ClientGrant) (d : Nat),
    (s.core.ms[n]).front = some (j, .cells 0) → j.kind = .clientRx → j.k = 0xC → j.client = i → j.req.ptp = some m →
    (s.cli[i]).grants = [g] → g.master = j.grant → g.messageType ≠ 0 → m.tlvs = [{ tlvType := 5, messageType := g.messageType, duration := d }] →
    Answers (.msBuildDone dt n) s fun t =>
      (t.cli[i]).grants = (if d = 0 then [{ g with asked := some (begin dt s).clk }]
        else [{ g with duration := some d, grantedAt := (begin dt s).clk, asked := none }]) ∧
      Changes dt s t [.cli, .core, .tele, .weir] []) ∧
  (∀ (s : State) (dt : Nat) (i : Fin 2) (g : ClientGrant), serving s = true → (s.cli[i]).grants = [g] →
    renewalDue (begin dt s).clk g = true →
    Answers (.clientGrantRenewal dt i) s fun t =>
      (t.cli[i]).grants = [{ g with asked := some (begin dt s).clk }] ∧
      (∃ j, t.core.precQ = s.core.precQ ++ [j] ∧ j.kind = .clientReq ∧ j.grant = g.master ∧
        j.reply.map (fun v => (v.tlvType, v.messageType, v.duration)) = [(4, g.messageType, (cliCfg s i).cDurationS)]) ∧
      KeepsBut [.rep, .tele, .cli, .core, .weir] (begin dt s) t) ∧
  (∀ (s : State) (dt : Nat) (i : Fin 2) (g : ClientGrant), serving s = true → (s.cli[i]).grants = [g] →
    retryDue (begin dt s).clk g = true →
    Answers (.clientRequestRetry dt i) s fun t =>
      (t.cli[i]).grants = [{ g with asked := some (begin dt s).clk }] ∧
      (∃ j, t.core.precQ = s.core.precQ ++ [j] ∧ j.kind = .clientReq ∧ j.grant = g.master ∧
        j.reply.map (fun v => (v.tlvType, v.messageType, v.duration)) = [(4, g.messageType, (cliCfg s i).cDurationS)]) ∧
      KeepsBut [.rep, .tele, .cli, .core, .weir] (begin dt s) t) ∧
  (∀ (s : State) (dt : Nat) (i : Fin 2), (cliCfg s i).cEn = true → (s.refs[cliSlot i]).st = .selected →
    (s.cli[i]).cands.any (·.qualified) = true →
    ((s.cli[i]).cands.all fun x => announceStale (cliCfg s i) (begin dt s).clk x) = true →
    Answers (.clientNoMaster dt i) s fun t =>
      (t.refs[cliSlot i]).st = .noSignal ∧ (t.refs[cliSlot i]).signal = false ∧ (t.cli[i]).cands = [] ∧ (t.cli[i]).best = none ∧
      (t.cli[i]).lastSync = none ∧ (t.cli[i]).cancelDue = formerMasters (s.cli[i]).best none (s.cli[i]).cancelDue ∧ (∀ k : Fin 2, i ≠ k → t.cli[k] = s.cli[k]) ∧
      (∀ n : Fin 13, cliSlot i ≠ n → t.refs[n] = s.refs[n]) ∧
      Changes dt s t [.cli, .refs] [.count (0x050040 + (cliSlot i).val) 1, eventNote 0x0503 (begin dt s) (cliSlot i).val,
        eventNote 0x0D06 (begin dt s) i.val]) ∧
  (∀ (s : State) (dt : Nat) (i : Fin 2) (a b : Candidate), (s.cli[i]).cands = [a, b] → a.src ≠ b.src → b.qualified = true →
    announceStale (cliCfg s i) (begin dt s).clk a = true → (s.cli[i]).best = some b.src →
    Answers (.candidateAnnounceTimeout dt i a.src) s fun t =>
      t.cli = s.cli.set i { s.cli[i] with cands := [b] } ∧ Changes dt s t [.cli] []) ∧
  (∀ (s : State) (dt : Nat) (i : Fin 2) (src : Nat),
    (s.cli[i]).cands.any (fun x => x.src == src && announceStale (cliCfg s i) (begin dt s).clk x) = true →
    (s.cli[i]).cands.any (fun x => x.src != src && x.qualified) = true →
    Answers (.candidateAnnounceTimeout dt i src) s fun t =>
      (t.cli[i]).cands = (s.cli[i]).cands.filter (fun x => x.src != src) ∧
      (t.cli[i]).best = bestMaster (cliCfg s i) (t.cli[i]).cands ∧
      (∀ k : Fin 2, i ≠ k → t.cli[k] = s.cli[k]) ∧ (∀ n : Fin 13, cliSlot i ≠ n → t.refs[n] = s.refs[n]) ∧ t.gov = s.gov) ∧
  (∀ (s : State) (dt : Nat) (i : Fin 2), (cliCfg s i).cEn = true → (s.refs[cliSlot i]).st = .selected →
    (s.cli[i]).cands.any (fun x => x.qualified && !announceStale (cliCfg s i) (begin dt s).clk x) = true →
    Answers (.clientNoMaster dt i) s fun t =>
      t.cli = s.cli ∧
      (clientLost (begin dt s) i = false → Changes dt s t [] []) ∧
      (longAgo (begin dt s).clk 2 (s.cli[i]).xAt = true ∨ longAgo (begin dt s).clk 8 (s.cli[i]).respAt = true →
        (t.refs[cliSlot i]).st = .noSignal ∧ (t.refs[cliSlot i]).signal = false ∧ (∀ n : Fin 13, cliSlot i ≠ n → t.refs[n] = s.refs[n]) ∧
        Changes dt s t [.refs] [.count (0x050040 + (cliSlot i).val) 1, eventNote 0x0503 (begin dt s) (cliSlot i).val])) ∧
  (∀ (s : State) (dt : Nat) (i : Fin 2), (cliCfg s i).cEn = false →
    Answers (.clientNoMaster dt i) s fun t => Changes dt s t [] []) ∧
  (∀ (s : State) (dt : Nat) (i : Fin 2), (s.cli[i]).watch.back = false ∨ (s.cli[i]).frozen = false →
    Answers (.asymReleased dt i) s fun t => Changes dt s t [] []) ∧
  (∀ (s : State) (dt : Nat) (i : Fin 2), Answers (.xWithholdTimeout dt i) s fun t =>
    t.cli = s.cli.set i { s.cli[i] with withheld := false } ∧ Changes dt s t [.cli] []) ∧
  (∀ (s : State) (dt : Nat) (i : Fin 2), (s.cli[i]).watch.back = true → (s.cli[i]).frozen = true →
    (s.refs[cliSlot i]).st = .quarantined →
    Answers (.asymReleased dt i) s fun t =>
      (t.cli[i]).frozen = false ∧ (t.cli[i]).mpd = (if (s.cli[i]).dj = [] then (s.cli[i]).mpd else medianUnits (s.cli[i]).dj) ∧ (t.refs[cliSlot i]).st = .qualifying ∧
      (∀ k : Fin 2, i ≠ k → t.cli[k] = s.cli[k]) ∧ (∀ n : Fin 13, cliSlot i ≠ n → t.refs[n] = s.refs[n]) ∧
      Changes dt s t [.cli, .refs] [eventNote 0x0D08 (begin dt s) i.val])

/-- R272, R279, R282, R283, R286, R291, R293, R351, R378, R457 (`msTake`, `garnerReadForUpdate`, `garnerWriteBeat`, `hopperCellRead`,
`msBuildDone`): `TAKE` grants one Millstone the oldest descriptor of the highest class that has one: a request goes to `STATE` or to
its cells, an answer already built to its port, one too old is dropped and its cells freed; the spare of a partner in probation is
given a copy, unless 16 wait. The read-for-update beat sets `SEQ` and holds the bank, suspending the holder it preempts; the write
beat stores the record with what was decided and drops the grant. One granted cell is read. `BUILD` of an NTP answer, a Delay_Resp on
profiles 0 and 1 or an Announce done, the answer asks its port for a slot, and its cells are free. -/
def Obligations.MillstonesTakeReadAndBuild : Prop :=
  (∀ (s : State) (dt : Nat) (m : Fin 40) (c : Cls) (j : Job) (q : List Job), topClass s = some c → queueOf s c = j :: q →
    roundRobin (lastOf s.core.dequeue c) (dequeueRequesters (begin dt s)) = some m.val →
    j.kind = .ntp ∨ j.kind = .nts → j.kod = none → j.recommit = false → j.relayed = false → overAge (begin dt s) j = false →
    Answers (.msTake dt) s fun t =>
      queueOf t c = q ∧ (∀ d ∈ [Cls.prec, .assured, .general], d ≠ c → queueOf t d = queueOf s d) ∧
      lastOf t.core.dequeue c = some m.val ∧ (t.core.ms[m]).front.map (fun f => (f.1.id, f.2)) =
        some (j.id, .state [(rateBank (rateIndex s j), rateIndex s j)]) ∧
      KeepsBut [.rep, .core, .tele, .dress] (begin dt s) t) ∧
  (∀ (s : State) (dt n : Nat) (m : Fin 40) (c : Cls) (j : Job) (q : List Job), topClass s = some c → queueOf s c = j :: q →
    roundRobin (lastOf s.core.dequeue c) (dequeueRequesters (begin dt s)) = some m.val →
    j.recommit = false → j.relayed = false → overAge (begin dt s) j = false →
    j.kind = .clientReq ∧ n = 0 ∨ j.kind = .clientRx ∧ n = j.cells ∨ (j.kind = .sync ∨ j.kind = .announce) ∧ j.mcast = true ∧ n = 0 ∨
      (j.kind = .ntp ∨ j.kind = .nts) ∧ j.kod.isSome = true ∧ n = j.cells ∨
      j.kind = .delayReq ∧ (ptpPort s j.port).profile ≠ 2 ∧ j.stepEpoch = s.tb.stepCount ∧ n = j.cells →
    Answers (.msTake dt) s fun t =>
      queueOf t c = q ∧ (∀ d ∈ [Cls.prec, .assured, .general], d ≠ c → queueOf t d = queueOf s d) ∧
      lastOf t.core.dequeue c = some m.val ∧ (t.core.ms[m]).front = some (j, .cells n) ∧
      KeepsBut [.rep, .core, .tele, .dress] (begin dt s) t) ∧
  (∀ (s : State) (dt : Nat) (m : Fin 40) (c : Cls) (j : Job) (q : List Job), topClass s = some c → queueOf s c = j :: q →
    roundRobin (lastOf s.core.dequeue c) (dequeueRequesters (begin dt s)) = some m.val → (s.core.ms[m]).back = none →
    j.recommit = true ∧ j.commits < s.cfg.b0B.core.recommitMax ∨ j.recommit = false ∧ j.relayed = true →
    overAge (begin dt s) j = false → j.stepEpoch = s.tb.stepCount →
    Answers (.msTake dt) s fun t =>
      queueOf t c = q ∧ (t.core.ms[m]).back = some (j, .wantPort) ∧ (t.core.ms[m]).front = none ∧
      KeepsBut [.rep, .core, .tele, .dress] (begin dt s) t) ∧
  (∀ (s : State) (dt : Nat) (m : Fin 40) (c : Cls) (j : Job) (q : List Job), topClass s = some c → queueOf s c = j :: q →
    roundRobin (lastOf s.core.dequeue c) (dequeueRequesters (begin dt s)) = some m.val → overAge (begin dt s) j = true → j.spill = none →
    Answers (.msTake dt) s fun t =>
      queueOf t c = q ∧ (t.core.ms[m]).front = none ∧ t.core.cellsUsed = s.core.cellsUsed - j.cells ∧
      KeepsBut [.rep, .core, .tele, .dress] (begin dt s) t) ∧
  (∀ (s : State) (dt : Nat) (m : Fin 40) (c : Cls) (j : Job) (q : List Job), topClass s = some c → queueOf s c = j :: q →
    roundRobin (lastOf s.core.dequeue c) (dequeueRequesters (begin dt s)) = some m.val →
    Answers (.msTake dt) s fun t =>
      queueOf t c = q ∧ (∀ d ∈ [Cls.prec, .assured, .general], d ≠ c → queueOf t d = queueOf s d) ∧
      (∀ k : Fin 40, m ≠ k → (t.core.ms[k]).front.isNone = (s.core.ms[k]).front.isNone) ∧
      t.ports = s.ports ∧ t.cfg = s.cfg ∧ t.gov = s.gov ∧
      (probationOf s m = none → t.dress = s.dress) ∧
      (∀ (k : Fin 4) (p : Probation), probationOf s m = some k → s.dress.probations[k] = some p →
        t.dress = { s.dress with probations := s.dress.probations.set k (some
          (if p.copies.length < 16 then { p with copies := p.copies ++ [j.id] } else p)) })) ∧
  (∀ (s : State) (dt : Nat), dequeueRequesters (begin dt s) = [] ∨ topClass s = none →
    Answers (.msTake dt) s fun t => Changes dt s t [] []) ∧
  (∀ (s : State) (dt : Nat) (b : Fin 48) (i : Nat) (m : Fin 40) (j : Job) (pre : Bool) (rest : List (Fin 48 × Nat)),
    bankGrant s b = some (m.val, pre) → (s.core.ms[m]).front = some (j, .state ((b, i) :: rest)) →
    b.val < 32 ∨ j.kind ≠ .signaling →
    Answers (.garnerReadForUpdate dt b) s fun t =>
      (t.garner.bank[b]).holder = some m.val ∧
      (t.garner.bank[b]).susp = (if pre then (s.garner.bank[b]).holder.toList else []) ++ (s.garner.bank[b]).susp ∧
      (b.val < 32 → (rateRec t i).seq = true ∧ t.garner.grant = s.garner.grant) ∧
      (32 ≤ b.val → (grantRec t i).seq = true ∧ t.garner.rate = s.garner.rate) ∧
      (t.core.ms[m]).front.map (fun f => (f.1.id, f.2)) = some (j.id, .updating b i rest) ∧
      (∀ c : Fin 48, b ≠ c → t.garner.bank[c] = s.garner.bank[c]) ∧
      KeepsBut [.rep, .core, .tele, .garner, .weir] (begin dt s) t) ∧
  (∀ (s : State) (dt : Nat) (b : Fin 48) (i g : Nat) (m : Fin 40) (j : Job) (pre : Bool) (rest : List (Fin 48 × Nat)),
    bankGrant s b = some (m.val, pre) → (s.core.ms[m]).front = some (j, .state ((b, i) :: rest)) →
    32 ≤ b.val → j.kind = .signaling → g = ((findGrant s j).orElse fun _ => freeGrant s j).getD i →
    Answers (.garnerReadForUpdate dt b) s fun t =>
      (t.garner.bank[b]).holder = some m.val ∧ (grantRec t g).seq = true ∧
      (t.core.ms[m]).front.map (fun f => (f.1.id, f.2)) = some (j.id, .updating b g rest) ∧
      (∀ c : Fin 48, b ≠ c → t.garner.bank[c] = s.garner.bank[c]) ∧ t.garner.rate = s.garner.rate ∧ t.ports = s.ports ∧
      t.cfg = s.cfg ∧ t.gov = s.gov) ∧
  (∀ (s : State) (dt : Nat) (b : Fin 48), bankGrant s b = none →
    Answers (.garnerReadForUpdate dt b) s fun t => Changes dt s t [] []) ∧
  (∀ (s : State) (dt : Nat) (b : Fin 48) (m : Fin 40) (e : Shadow), (s.garner.bank[b]).holder = some m.val →
    (s.garner.bank[b]).shadow.find? (fun x => x.who == m.val) = some e → (s.garner.bank[b]).susp.contains m.val = false →
    Answers (.garnerWriteBeat dt b) s fun t =>
      (b.val < 32 → rateRec t e.record = e.nextRate ∧ t.garner.grant = s.garner.grant) ∧
      (32 ≤ b.val → grantRec t e.record = { e.nextGrant with seq := false } ∧ t.garner.rate = s.garner.rate) ∧
      (t.garner.bank[b]).shadow = (s.garner.bank[b]).shadow.filter (fun x => x.who != m.val) ∧
      (t.garner.bank[b]).holder ≠ some m.val ∧
      (∀ c : Fin 48, b ≠ c → t.garner.bank[c] = s.garner.bank[c]) ∧ t.ports = s.ports ∧ t.cfg = s.cfg) ∧
  (∀ (s : State) (dt : Nat) (b : Fin 48) (i : Nat) (m : Fin 40) (j : Job) (e : Shadow) (rest : List (Fin 48 × Nat)),
    (s.garner.bank[b]).holder = some m.val → (s.garner.bank[b]).susp = [] →
    (s.garner.bank[b]).shadow.find? (fun x => x.who == m.val) = some e → (s.core.ms[m]).front = some (j, .updating b i rest) →
    j.refused = false → j.kind ≠ .sweep → j.bucketKod = false →
    Answers (.garnerWriteBeat dt b) s fun t =>
      (t.garner.bank[b]).holder = none ∧
      (t.core.ms[m]).front.map (fun f => (f.1.id, f.2)) =
        some (j.id, if rest = [] then .cells j.cells else .state rest) ∧
      KeepsBut [.rep, .core, .tele, .garner] (begin dt s) t) ∧
  (∀ (s : State) (dt : Nat) (a : Fin 8) (m : Fin 40) (c : Cls) (j : Job) (r : Nat),
    arbitrate s.core.cellArb[a] (cellRequests s a) = some (m.val, c) → (s.core.ms[m]).front = some (j, .cells (r + 1)) →
    Answers (.hopperCellRead dt a) s fun t =>
      (t.core.ms[m]).front.map (fun f => (f.1.id, f.2)) = some (j.id, .cells r) ∧
      t.core.cellArb = s.core.cellArb.set a (granted s.core.cellArb[a] c m.val) ∧
      (∀ k : Fin 40, m ≠ k → t.core.ms[k] = s.core.ms[k]) ∧ KeepsBut [.rep, .core, .tele] (begin dt s) t) ∧
  (∀ (s : State) (dt : Nat) (a : Fin 8), cellRequests s a = [] →
    Answers (.hopperCellRead dt a) s fun t => Changes dt s t [] []) ∧
  (∀ (s : State) (dt : Nat) (m : Fin 40) (j : Job), (s.core.ms[m]).front = some (j, .cells 0) → (s.core.ms[m]).back = none →
    j.kind = .announce → j.spill = none → (scheduledFrame (begin dt s) j (announceMsg (begin dt s) j)).len ≤ 1536 →
    Answers (.msBuildDone dt m) s fun t =>
      (t.core.ms[m]).front = none ∧ (t.core.ms[m]).back.map (fun f => (f.1.id, f.2)) = some (j.id, .wantPort) ∧
      t.core.cellsUsed = s.core.cellsUsed - j.cells ∧
      (t.core.ms[m]).back.bind (·.1.out) = some (scheduledFrame (begin dt s) j (announceMsg (begin dt s) j)) ∧
      (∀ k : Fin 40, m ≠ k → t.core.ms[k] = s.core.ms[k]) ∧ KeepsBut [.rep, .core, .tele] (begin dt s) t) ∧
  (∀ (s : State) (dt : Nat) (m : Fin 40) (j : Job), (s.core.ms[m]).front = some (j, .cells 0) → (s.core.ms[m]).back = none →
    j.kind = .ntp → j.kod = none → j.spill = none → (replyFrame (begin dt s) j 48).len ≤ 1536 →
    Answers (.msBuildDone dt m) s fun t =>
      (t.core.ms[m]).front = none ∧ (t.core.ms[m]).back.map (fun f => (f.1.id, f.2)) = some (j.id, .wantPort) ∧
      t.core.cellsUsed = s.core.cellsUsed - j.cells ∧
      (t.core.ms[m]).back.bind (·.1.out) = some (replyFrame (begin dt s) j 48) ∧
      ((t.core.ms[m]).back.bind (·.1.ntp)).map (fun b => (b.hdr, b.timed)) =
        some (answerHeader (begin dt s) j.req.payload j.t2, true) ∧
      (∀ k : Fin 40, m ≠ k → t.core.ms[k] = s.core.ms[k]) ∧ KeepsBut [.rep, .core, .tele] (begin dt s) t) ∧
  (∀ (s : State) (dt : Nat) (m : Fin 40) (j : Job), (s.core.ms[m]).front = some (j, .cells 0) → (s.core.ms[m]).back = none →
    j.kind = .delayReq → j.spill = none → (delayRespFrame (begin dt s) j).len ≤ 1536 →
    Answers (.msBuildDone dt m) s fun t =>
      (t.core.ms[m]).front = none ∧ (t.core.ms[m]).back.map (fun f => (f.1.id, f.2)) = some (j.id, .wantPort) ∧
      (t.core.ms[m]).back.bind (·.1.out) = some (delayRespFrame (begin dt s) j) ∧
      t.core.cellsUsed = s.core.cellsUsed - j.cells ∧
      (∀ k : Fin 40, m ≠ k → t.core.ms[k] = s.core.ms[k]) ∧ KeepsBut [.rep, .core, .tele] (begin dt s) t)

/-- R283, R286, R289, R291, R293, R302 (`launchCommit`, `commitRetry`, `msFinish`, `msDeposit`): the Millstone a port grants next has
its slots booked: the first grid points at least 400 ns ahead, and past a pause, at which its frames fit; where the last of them lies
too far ahead it is told to wait, and asks again at its instant; over `RECOMMIT_MAX`, too old, or with its link down, its answer is
dropped. `FINISH` leaves a finished answer for the committed T3, and writes T3 into an NTP answer; `DEPOSIT` puts a frame into its
slot, after which the Millstone's next answer asks for its own, or the Follow_Up is still to deposit while the Millstone holds the
grant. (That a commitment which finds its link down is dropped at once is log entry 77.) -/
def Obligations.AnswersAreCommittedFinishedAndDeposited : Prop :=
  (∀ (s u : State) (dt : Nat) (p : Fin 8) (grid lo ttx : Units) (m : Fin 40) (c : Cls) (j : Job) (slots : List (Nat × Units)),
    u = dropPassed p (begin dt s) → (s.ports[p]).link = true → portNext u p = some (m.val, c) →
    (s.core.ms[m]).back = some (j, .wantPort) → j.commits < s.cfg.b0B.core.recommitMax → overAge u j = false →
    lo = (match pauseEnd u p (framePrio s p (j.out.getD {})) with
      | some e => max (nowUnits u + ((400 * unitsPerNs : Nat) : Int)) e
      | none => nowUnits u + ((400 * unitsPerNs : Nat) : Int)) →
    slots = slotsFor u p grid lo j → slots.head?.map (·.2) = some ttx →
    slots.foldl (fun _ e => slotStop u p e.1 e.2) 0 ≤ nowUnits u + ((400 * unitsPerNs : Nat) : Int) +
      ((s.cfg.b0B.core.bookAheadNs * unitsPerNs : Nat) : Int) ∨
      j.cls = .prec ∧ sharePassed u p slots (u.ports[p]).precDone = false →
    Answers (.launchCommit dt p grid) s fun t =>
      (t.core.ms[m]).back.map (fun f => (f.1.id, f.1.commits, f.2)) =
        some (j.id, j.commits + 1, .finish ttx (ttx + latTx s p * (unitsPerPs : Int))) ∧
      (∀ e ∈ slots, ∃ b ∈ (t.ports[p]).book, b.ttx = e.2 ∧ b.t3 = e.2 + latTx s p * (unitsPerPs : Int) ∧ b.ms = m ∧ b.jobId = j.id ∧
        b.void = false ∧ b.job = none) ∧
      (∀ b ∈ (u.ports[p]).book, b ∈ (t.ports[p]).book) ∧
      (t.ports[p]).book.length = (u.ports[p]).book.length + slots.length ∧
      (∀ k : Fin 40, m ≠ k → t.core.ms[k] = s.core.ms[k]) ∧ (∀ k : Fin 8, p ≠ k → t.ports[k] = s.ports[k]) ∧
      KeepsBut [.rep, .core, .tele, .ports] (begin dt s) t) ∧
  (∀ (s u : State) (dt : Nat) (p : Fin 8) (grid lo : Units) (m : Fin 40) (c : Cls) (j : Job),
    u = dropPassed p (begin dt s) → (s.ports[p]).link = true → portNext u p = some (m.val, c) →
    (s.core.ms[m]).back = some (j, .wantPort) → j.commits < s.cfg.b0B.core.recommitMax → overAge u j = false →
    lo = nowUnits u + ((400 * unitsPerNs : Nat) : Int) → pauseEnd u p (framePrio s p (j.out.getD {})) = none → j.cls ≠ .prec →
    lo + ((s.cfg.b0B.core.bookAheadNs * unitsPerNs : Nat) : Int) <
      (slotsFor u p grid lo j).foldl (fun _ e => slotStop u p e.1 e.2) 0 →
    Answers (.launchCommit dt p grid) s fun t =>
      (t.core.ms[m]).back.map (fun f => (f.1.id, f.1.commits, f.2)) = some (j.id, j.commits,
        .holdOff ((slotsFor u p grid lo j).foldl (fun _ e => slotStop u p e.1 e.2) 0 -
          ((s.cfg.b0B.core.bookAheadNs * unitsPerNs : Nat) : Int) - ((400 * unitsPerNs : Nat) : Int))) ∧
      (t.ports[p]).book = (u.ports[p]).book ∧ (∀ k : Fin 8, p ≠ k → t.ports[k] = s.ports[k]) ∧
      KeepsBut [.rep, .core, .tele, .ports] (begin dt s) t) ∧
  (∀ (s u : State) (dt : Nat) (p : Fin 8) (grid : Units) (m : Fin 40) (c : Cls) (j : Job),
    u = dropPassed p (begin dt s) → portNext u p = some (m.val, c) → (s.core.ms[m]).back = some (j, .wantPort) →
    (s.core.ms[m]).front = none → j.spill = none →
    (s.ports[p]).link = false ∨ s.cfg.b0B.core.recommitMax ≤ j.commits ∨ overAge u j = true →
    Answers (.launchCommit dt p grid) s fun t =>
      (t.core.ms[m]).back = none ∧ t.core.cellsUsed = s.core.cellsUsed - j.cells ∧ (t.ports[p]).book = (u.ports[p]).book ∧
      (∀ k : Fin 8, p ≠ k → t.ports[k] = s.ports[k]) ∧ KeepsBut [.rep, .core, .tele, .ports] (begin dt s) t) ∧
  (∀ (s : State) (dt : Nat) (m : Fin 40) (j : Job) (u : Units), (s.core.ms[m]).back = some (j, .holdOff u) →
    Answers (.commitRetry dt m) s fun t =>
      (u ≤ nowUnits (begin dt s) → (t.core.ms[m]).back.map (fun f => (f.1.id, f.2)) = some (j.id, .wantPort)) ∧
      (nowUnits (begin dt s) < u → Changes dt s t [] []) ∧
      (∀ k : Fin 40, m ≠ k → t.core.ms[k] = s.core.ms[k]) ∧ KeepsBut [.rep, .core, .tele] (begin dt s) t) ∧
  (∀ (s : State) (dt : Nat) (m : Fin 40) (j : Job) (ttx t3 : Units), (s.core.ms[m]).back = some (j, .finish ttx t3) →
    Answers (.msFinish dt m) s fun t =>
      (t.core.ms[m]).back.map (fun f => (f.1.id, f.2)) = some (j.id, .finished ttx t3) ∧
      (∀ k : Fin 40, m ≠ k → t.core.ms[k] = s.core.ms[k]) ∧ t.ports = s.ports ∧ t.garner = s.garner ∧ t.cfg = s.cfg) ∧
  (∀ (s : State) (dt : Nat) (m : Fin 40) (j : Job) (ttx t3 : Units) (b : NtpBuild) (f : Frame),
    (s.core.ms[m]).back = some (j, .finish ttx t3) → j.ntp = some b → b.nts = none → b.timed = true → j.out = some f →
    Answers (.msFinish dt m) s fun t =>
      (t.core.ms[m]).back.bind (·.1.out) = some { f with
        payload := writeTimes b.hdr (finishDisp j b (committedDirect s j)) (ntpTime s.ts.utc t3) } ∧
      KeepsBut [.rep, .core, .tele] (begin dt s) t) ∧
  (∀ (s : State) (dt : Nat) (p : Fin 8) (c : Cls) (m : Fin 40) (j : Job) (ttx t3 : Units) (b : Booking) (l : List Bool),
    l = [] ∨ probationOf s m = none → portNext (begin dt s) p = some (m.val, c) → (s.core.ms[m]).back = some (j, .finished ttx t3) → j.follow = none →
    (s.ports[p]).book.find? (fun x => x.jobId == j.id && x.job.isNone) = some b →
    Answers (.msDeposit dt p l) s fun t =>
      (∃ x ∈ (t.ports[p]).book, x.ttx = b.ttx ∧ x.t3 = b.t3 ∧ x.jobId = j.id ∧ x.job.map (·.id) = some j.id) ∧
      (t.ports[p]).book.map (·.ttx) = (s.ports[p]).book.map (·.ttx) ∧ (t.ports[p]).hold = none ∧
      ((s.core.ms[m]).front = none → (t.core.ms[m]).back = none) ∧
      (∀ (f : Job), (s.core.ms[m]).front = some (f, .ready) →
        (t.core.ms[m]).back = some (f, .wantPort) ∧ (t.core.ms[m]).front = none) ∧
      (∀ k : Fin 40, m ≠ k → t.core.ms[k] = s.core.ms[k]) ∧ (∀ k : Fin 8, p ≠ k → t.ports[k] = s.ports[k]) ∧
      KeepsBut [.rep, .core, .tele, .ports, .weir] (begin dt s) t) ∧
  (∀ (s : State) (dt : Nat) (p : Fin 8) (c : Cls) (m : Fin 40) (j : Job) (ttx t3 : Units) (b : Booking) (f : Frame)
    (l : List Bool), portNext (begin dt s) p = some (m.val, c) → (s.core.ms[m]).back = some (j, .finished ttx t3) → j.follow = some f →
    (s.ports[p]).book.find? (fun x => x.jobId == j.id && x.job.isNone) = some b →
    Answers (.msDeposit dt p l) s fun t =>
      (∃ x ∈ (t.ports[p]).book, x.ttx = b.ttx ∧ x.jobId = j.id ∧ x.job.map (·.id) = some j.id) ∧
      (t.ports[p]).book.map (·.ttx) = (s.ports[p]).book.map (·.ttx) ∧ (t.ports[p]).hold = some m.val ∧
      (t.core.ms[m]).back.map (fun f => (f.1.id, f.1.kind, f.1.out)) = some (j.id, .followUp, some f) ∧
      (∀ k : Fin 40, m ≠ k → t.core.ms[k] = s.core.ms[k]) ∧ (∀ k : Fin 8, p ≠ k → t.ports[k] = s.ports[k]) ∧
      KeepsBut [.rep, .core, .tele, .ports, .weir] (begin dt s) t)

/-- R16, R243, R269, R281, R288, R289, R292, R329, R365, R379, R410 (`launch`, `slotMissedLate`, `parkRelease`, `msFault`, `msHung`,
`spillTimeout`, `respCreditTimeout`): the frame of the next slot leaves at its committed instant and is counted in `Pn_TX_CNT` and
under its kind; slots of lost answers before it pass unused. 80 ns before its instant a slot without a complete frame is missed, and
its answer is offered again, or held in the park while a long pause lasts; a parked answer whose pause ends is offered at the head of
its queue. A Millstone that hangs with a grant, or faults, leaves service, and its grants are released. A spilled request without an
answer, and a `RESP` frame without credit, are given up after their time, and counted. (The point recorded of a frame launched is
open, log entry 16.) -/
def Obligations.LaunchesMissesAndLostAnswers : Prop :=
  (∀ (s u : State) (dt : Nat) (p : Fin 8) (b : Booking) (l : List Booking) (j : Job), u = dropPassed p (begin dt s) →
    (u.ports[p]).book = b :: l → b.job = some j → (s.ports[p]).waiting = [] →
    b.ttx ≤ nowUnits (begin dt s) + advanceTime (begin dt s) →
    Answers (.launch dt p) s fun t =>
      t.out = [.frame p (j.out.getD {}) (some b.ttx)] ∧ (t.ports[p]).book = l ∧
      (t.ports[p]).crossing = some (b.ttx + ((j.out.getD {}).len : Int) * byteTime s p) ∧
      (∀ k : Fin 8, p ≠ k → t.ports[k] = s.ports[k]) ∧
      (∀ k : Fin 40, (t.core.ms[k]).front = (s.core.ms[k]).front ∧ (t.core.ms[k]).back = (s.core.ms[k]).back) ∧
      t.garner = s.garner ∧ t.cfg = s.cfg ∧ t.gov = s.gov ∧ t.refs = s.refs ∧
      (t.ports[p]).tx = openPoint (begin dt s) ∧
      NotesFirst dt s t
        ((match j.kind with
          | .ntp => if j.kod = none then [.count 0x0C0010 1] else []
          | .nts => if j.kod = none then [.count 0x0C0011 1] else []
          | .sync => [.count (0x0D0028 + j.port.val) 1]
          | .delayReq => [.count (0x0D0030 + j.port.val) 1]
          | .announce => [.count (0x0D0038 + j.port.val) 1]
          | _ => []) ++
         (if b.normal = true ∧ degradedNow (begin dt s) = true then [.count 0x040014 1] else []) ++
         [.count (0x0A0030 + p.val) 1])) ∧
  (∀ (s u : State) (dt : Nat) (p : Fin 8), u = dropPassed p (begin dt s) → ((u.ports[p]).book.head?.bind (·.job)) = none →
    Answers (.launch dt p) s fun t => (t.ports[p]).book = (u.ports[p]).book ∧ Changes dt s t [.ports] []) ∧
  (∀ (s : State) (dt : Nat) (p : Fin 8) (b : Booking) (m : Fin 40) (j : Job) (ph : BackPhase), (s.ports[p]).book = [b] →
    b.job = none → b.void = false → b.ms = m → (s.core.ms[m]).back = some (j, ph) → j.id = b.jobId → (s.core.ms[m]).front = none →
    b.ttx ≤ nowUnits (begin dt s) + ((80 * unitsPerNs : Nat) : Int) → parked s < 4096 →
    Answers (.slotMissedLate dt p) s fun t =>
      (t.ports[p]).book = [] ∧ (t.core.ms[m]).back = none ∧
      (longPause (begin dt s) p (framePrio s p (j.out.getD {})) = false →
        (queueOf t j.cls).head?.map (fun x => (x.id, x.recommit)) = some (j.id, true)) ∧
      (longPause (begin dt s) p (framePrio s p (j.out.getD {})) = true →
        t.core.park.map (·.id) = s.core.park.map (·.id) ++ [j.id]) ∧
      (∀ k : Fin 8, p ≠ k → t.ports[k] = s.ports[k]) ∧
      (timeSampled (begin dt s) = false → ∀ k : Fin 40, m ≠ k → t.core.ms[k] = s.core.ms[k]) ∧
      KeepsBut [.rep, .core, .tele, .ports, .weir] (begin dt s) t) ∧
  (∀ (s : State) (dt : Nat) (p : Fin 8), ((s.ports[p]).book.all fun b => b.job.isSome || b.void) = true →
    Answers (.slotMissedLate dt p) s fun t => Changes dt s t [] []) ∧
  (∀ (s : State) (dt : Nat) (p : Fin 8) (j : Job) (l : List Job), s.core.park = j :: l → j.port = p →
    longPause (begin dt s) p (framePrio s p (j.out.getD {})) = false →
    Answers (.parkRelease dt p) s fun t =>
      t.core.park = l ∧ queueOf t j.cls = j :: queueOf s j.cls ∧ t.ports = s.ports ∧
      KeepsBut [.rep, .core, .tele, .weir] (begin dt s) t) ∧
  (∀ (s : State) (dt : Nat) (p : Fin 8),
    (s.core.park.all fun j => j.port != p || longPause (begin dt s) p (framePrio s p (j.out.getD {}))) = true →
    Answers (.parkRelease dt p) s fun t => Changes dt s t [] []) ∧
  (∀ (s : State) (dt : Nat) (m : Fin 40), (s.core.ms[m]).st = .inService → bitAt s.dress.retired[0] m.val = false →
    ∀ c ∈ [Instr.msFault dt m, .msHung dt m], (c = .msFault dt m ∨ holdsGrant s m = true) →
      Answers c s fun t =>
        (t.core.ms[m]).st = .faulted ∧ (t.core.ms[m]).front = none ∧ (t.core.ms[m]).back = none ∧ holdsGrant t m = false ∧
        bitAt t.dress.retired[0] m.val = true ∧ t.cfg = s.cfg ∧ t.gov = s.gov ∧ t.refs = s.refs ∧ t.otp = s.otp) ∧
  (∀ (s : State) (dt : Nat) (m : Fin 40), holdsGrant s m = false → Answers (.msHung dt m) s fun t => Changes dt s t [] []) ∧
  (∀ (s : State) (dt h : Nat) (e : SpillPending), s.core.pendingSpills.find? (fun x => x.handle == h) = some e →
    e.job.spill = none → e.job.work = [] →
    Answers (.spillTimeout dt h) s fun t =>
      t.core = { s.core with
        pendingSpills := s.core.pendingSpills.erase e, cellsUsed := s.core.cellsUsed - e.job.cells
        freed := if e.job.cells = 0 then s.core.freed else (e.job.cells, e.job.req) :: s.core.freed } ∧ NotesFirst dt s t [.count 0x0E001D 1] ∧
      t.ports = s.ports ∧ t.weir = s.weir ∧ t.garner = s.garner ∧ t.leat = s.leat ∧ KeepsBut [.rep, .core, .tele] (begin dt s) t) ∧
  (∀ (s : State) (dt : Nat) (n : Fin 4) (w : RespWait), s.leat.respWait.find? (fun x => x.link == n) = some w →
    Answers (.respCreditTimeout dt n) s fun t =>
      t.leat = { s.leat with respWait := s.leat.respWait.erase w } ∧ Changes dt s t [.leat] [.count 0x0F0009 1]) ∧
  (∀ (s : State) (dt h : Nat), s.core.pendingSpills.find? (fun x => x.handle == h) = none →
    Answers (.spillTimeout dt h) s fun t => Changes dt s t [] []) ∧
  (∀ (s : State) (dt : Nat) (n : Fin 4), s.leat.respWait.find? (fun x => x.link == n) = none →
    Answers (.respCreditTimeout dt n) s fun t => Changes dt s t [] [])

/-- R87, R392, R393, R394, R395, R406, R504 (`leatBringupRetry`, `leatCalibrationDone`, `leatBlockLock`, `leatTrainingTimeout`,
`leatHelloTx`, `leatHelloRx`, `leatLinkTimeout`, `leatSwapDecided`, `leatSwapRx`, `leatSwapTimeout`, `leatSpareOk`,
`leatSpareCalibration`, `leatSpareLockTimeout`): a link goes from `DOWN` through calibration, training and `HELLO` to `MEASURING`;
with `SDCAL` not calibrated it does not lock; a group that differs or the device's own identity is refused; a time limit takes it
back. A swap moves the link to the other pair, and completes with the first valid frame on it, with event 0x0F03; without a spare, or
after 5 µs, the link goes `DOWN`. A calibration gives the round trip of each pair, and a retired pair is never used again (R456). A
`HELLO` frame for a line that is not free waits its turn (R397). -/
def Obligations.LeatLinksComeUpAndSwap : Prop :=
  (∀ (s : State) (dt : Nat) (n : Fin 4), (s.leat.link[n]).st = .down → (leatCfg s n).lpEn = true → s.pwr.mode ≠ .retain →
    s.pll.unfilled.contains .sd = false →
    Answers (.leatBringupRetry dt n) s fun t =>
      t.leat = { s.leat with link := s.leat.link.set n { s.leat.link[n] with st := .calibrating, pairS := false } } ∧
      Changes dt s t [.leat] []) ∧
  (∀ (s : State) (dt : Nat) (c : LeatLoop), (s.leat.link[c.link]).st = .calibrating →
    Answers (.leatCalibrationDone dt c) s fun t =>
      t.leat = { s.leat with link := s.leat.link.set c.link { s.leat.link[c.link] with
        st := .training, pairS := false, loopPs := #v[c.wPs, c.sPs] } } ∧ Changes dt s t [.leat] []) ∧
  (∀ (s : State) (dt : Nat) (n : Fin 4), (s.leat.link[n]).st = .training → serving s = true → bitAt s.pwr.lanesCal 11 = true →
    pairRetired s n (s.leat.link[n]).pairS = false → (s.leat.link[n]).txQ = [] → (s.leat.link[n]).lineEnd ≤ (begin dt s).clk →
    Answers (.leatBlockLock dt n (s.leat.link[n]).pairS) s fun t =>
      (t.leat.link[n]).st = .hello ∧ (t.leat.link[n]).pairS = (s.leat.link[n]).pairS ∧
      t.out = [.leatHello n (leatSeq s n 1) {
        sender := ownSerial
        group := s.cfg.b0F.leat.leatGroup
        port := n.val
        pairS := (s.leat.link[n]).pairS
        spillAccept := (leatCfg s n).lpSpillEn }] ∧ (∀ k : Fin 4, n ≠ k → t.leat.link[k] = s.leat.link[k]) ∧ Changes dt s t [.leat, .out] []) ∧
  (∀ (s : State) (dt : Nat) (n : Fin 4), (s.leat.link[n]).st = .training → serving s = false → bitAt s.pwr.lanesCal 11 = true →
    pairRetired s n (s.leat.link[n]).pairS = false →
    Answers (.leatBlockLock dt n (s.leat.link[n]).pairS) s fun t =>
      t.leat = { s.leat with link := s.leat.link.set n { s.leat.link[n] with st := .hello } } ∧ Changes dt s t [.leat] []) ∧
  (∀ (s : State) (dt : Nat) (n : Fin 4) (b : Bool),
    (s.leat.link[n]).st ≠ .training ∨ b ≠ (s.leat.link[n]).pairS ∨ bitAt s.pwr.lanesCal 11 = false ∨ pairRetired s n b = true →
    Answers (.leatBlockLock dt n b) s fun t => Changes dt s t [] []) ∧
  (∀ (s : State) (dt : Nat) (n : Fin 4), (s.leat.link[n]).st = .training →
    Answers (.leatTrainingTimeout dt n) s fun t =>
      ((s.leat.link[n]).pairS = false → (t.leat.link[n]).st = .training ∧ (t.leat.link[n]).pairS = true) ∧
      ((s.leat.link[n]).pairS = true → (t.leat.link[n]).st = .down ∧ (t.leat.link[n]).pairS = false) ∧
      (∀ k : Fin 4, n ≠ k → t.leat.link[k] = s.leat.link[k]) ∧ KeepsBut [.rep, .leat] (begin dt s) t) ∧
  (∀ (s : State) (dt : Nat) (n : Fin 4), serving s = true → linkTalks s n = true → (s.leat.link[n]).txQ = [] →
    Answers (.leatHelloTx dt n) s fun t =>
      ((begin dt s).clk < (s.leat.link[n]).lineEnd → t.out = [] ∧ (t.leat.link[n]).txQ.map (fun x => (x.prio, x.type, x.bytes)) = [(5, 1, 28)] ∧
        t.leat = { s.leat with link := s.leat.link.set n { s.leat.link[n] with txQ := (t.leat.link[n]).txQ } } ∧
        Changes dt s t [.leat] []) ∧
      ((s.leat.link[n]).lineEnd ≤ (begin dt s).clk →
      t.out = [.leatHello n (leatSeq s n 1) {
        sender := ownSerial
        group := s.cfg.b0F.leat.leatGroup
        port := n.val
        pairS := (s.leat.link[n]).pairS
        spillAccept := (leatCfg s n).lpSpillEn }] ∧
      leatSeq t n 1 = (leatSeq s n 1 + 1) % 65536 ∧ (t.leat.link[n]).lineEnd = (begin dt s).clk + leatLineTime 28 ∧
      Changes dt s t [.leat, .out] [])) ∧
  (∀ (s : State) (dt : Nat) (n : Fin 4) (f : HelloFrame), serving s = true → (s.leat.link[n]).st = .hello → (s.leat.link[n]).swapping = false →
    Answers (.leatHelloRx dt n f) s fun t =>
      (f.group ≠ s.cfg.b0F.leat.leatGroup → (t.leat.link[n]).st = .refused ∧ (t.leat.link[n]).refuseCause = 6 ∧
        Changes dt s t [.leat] [eventNote 0x0F05 (begin dt s) n.val]) ∧
      (f.group = s.cfg.b0F.leat.leatGroup → f.sender = ownSerial → (t.leat.link[n]).st = .refused ∧
        (t.leat.link[n]).refuseCause = 7 ∧ Changes dt s t [.leat] [eventNote 0x0F05 (begin dt s) n.val]) ∧
      (f.group = s.cfg.b0F.leat.leatGroup → f.sender ≠ ownSerial → (t.leat.link[n]).st = .measuring ∧
        (t.leat.link[n]).spillCredit = 32768 ∧ (t.leat.link[n]).respCredit = 32768 ∧ (t.leat.link[n]).nbrId = f.sender ∧
        Changes dt s t [.leat] []) ∧
      (∀ k : Fin 4, n ≠ k → t.leat.link[k] = s.leat.link[k])) ∧
  (∀ (s : State) (dt : Nat) (n : Fin 4) (f : HelloFrame), serving s = false →
    Answers (.leatHelloRx dt n f) s fun t => Changes dt s t [] []) ∧
  (∀ (s : State) (dt : Nat) (n : Fin 4) (refine : Units) (h : HelloFrame) (f : TimeFrame) (x : TelemFrame) (y : SpillFrame)
    (z : RespFrame) (a b r : Nat), serving s = true → linkMeasures s n = true → (s.leat.link[n]).swapping = true →
    h.group = s.cfg.b0F.leat.leatGroup → h.sender ≠ ownSerial →
    ∀ c ∈ [Instr.leatHelloRx dt n h, .leatTimeRx dt n refine f, .leatTelemRx dt n x, .leatSpillRx dt n refine y, .leatRespRx dt n z,
        .leatCreditRx dt n a b r],
      Answers c s fun t =>
        (t.leat.link[n]).swapping = false ∧ (t.leat.link[n]).st = .remeasure ∧
        (∃ e ∈ t.rep.ring, e.code = 0x0F03 ∧ e.inst1 = n.val ∧ e.stamp = stampNow (begin dt s)) ∧
        (∀ k : Fin 4, n ≠ k → (t.leat.link[k]).st = (s.leat.link[k]).st)) ∧
  (∀ (s : State) (dt : Nat) (n : Fin 4), linkMeasures s n = true →
    Answers (.leatLinkTimeout dt n) s fun t =>
      (t.leat.link[n]).st = .down ∧ (t.leat.link[n]).spillCredit = 0 ∧ (t.leat.link[n]).respCredit = 0 ∧
      (∀ w ∈ t.leat.respWait, w.link ≠ n) ∧ (∀ k : Fin 4, n ≠ k → t.leat.link[k] = s.leat.link[k]) ∧
      KeepsBut [.rep, .leat] (begin dt s) t) ∧
  (∀ (s : State) (dt : Nat) (n : Fin 4), linkMeasures s n = true → (s.leat.link[n]).swapping = false →
    (s.leat.link[n]).spareOk = true → spareRetired s n = false → ∀ c ∈ [Instr.leatSwapDecided dt n, .leatSwapRx dt n],
      Answers c s fun t =>
        (t.leat.link[n]).swapping = true ∧ (t.leat.link[n]).pairS = !(s.leat.link[n]).pairS ∧ (t.leat.link[n]).spareOk = false ∧
        (t.leat.link[n]).st = (s.leat.link[n]).st ∧ (t.leat.link[n]).departures = [] ∧
        t.out = (if serving s then [.leatSwap n] else []) ∧
        (∀ k : Fin 4, n ≠ k → t.leat.link[k] = s.leat.link[k]) ∧ Changes dt s t [.leat, .out] []) ∧
  (∀ (s : State) (dt : Nat) (n : Fin 4), (s.leat.link[n]).swapping = true ∨ spareRetired s n = true →
    Answers (.leatSwapRx dt n) s fun t => Changes dt s t [] []) ∧
  (∀ (s : State) (dt : Nat) (n : Fin 4), linkMeasures s n = true → (s.leat.link[n]).swapping = false →
    (s.leat.link[n]).spareOk = false →
    Answers (.leatSwapDecided dt n) s fun t => (t.leat.link[n]).st = .down ∧ KeepsBut [.rep, .leat] (begin dt s) t) ∧
  (∀ (s : State) (dt : Nat) (n : Fin 4), (s.leat.link[n]).swapping = true →
    Answers (.leatSwapTimeout dt n) s fun t =>
      (t.leat.link[n]).st = .down ∧ (t.leat.link[n]).swapping = false ∧ (∀ k : Fin 4, n ≠ k → t.leat.link[k] = s.leat.link[k]) ∧
      KeepsBut [.rep, .leat] (begin dt s) t) ∧
  (∀ (s : State) (dt : Nat) (n : Fin 4), linkTalks s n = true → (s.leat.link[n]).swapping = false → spareRetired s n = false →
    Answers (.leatSpareOk dt n) s fun t =>
      t.leat = { s.leat with link := s.leat.link.set n { s.leat.link[n] with spareOk := true } } ∧ Changes dt s t [.leat] []) ∧
  (∀ (s : State) (dt : Nat) (n : Fin 4) (r : Nat), linkMeasures s n = true →
    Answers (.leatSpareCalibration dt n (some r)) s fun t =>
      t.leat = { s.leat with link := s.leat.link.set n { s.leat.link[n] with
        loopPs := (s.leat.link[n]).loopPs.set (if (s.leat.link[n]).pairS then 0 else 1 : Fin 2) r } } ∧ Changes dt s t [.leat] []) ∧
  (∀ (s : State) (dt : Nat) (n : Fin 4), linkMeasures s n = true →
    Answers (.leatSpareCalibration dt n none) s fun t => Changes dt s t [] [eventNote 0x0F04 (begin dt s) n.val]) ∧
  (∀ (s : State) (dt : Nat) (n : Fin 4), linkMeasures s n = true →
    Answers (.leatSpareLockTimeout dt n) s fun t =>
      Changes dt s t [] (if (s.leat.link[n]).spareOk then [] else [eventNote 0x0F04 (begin dt s) n.val]))

/-- R399 to R404, R411, R412 (`leatTimeRx`, `leatWaveLaunch`, `leatWaveForward`, `leatNoWave`, `leatProxyWave`, `leatWaveTimeout`,
`leatLoadIdleRx`, `leatHoldTimeout`, `leatAsymReleased`): a root launches a wave at a whole millisecond on each link that carries
time; a device with a parent forwards its parent's wave 300 ns after its receipt, or sends frames without one; a held parent's waves
are stood in for; in LOAD and SAFE none is sent. A frame received is kept for the echo, one that names a departure completes an
exchange, and a parent's new wave waits to be forwarded; 3 ms without a wave refuse the slot; LOAD idle holds it for 2 s. An exchange
whose stamps are of different step epochs, or one of them degraded, gives no phase sample, and counts for the delay. A device that is
no root sends the header values of its parent's last frame, also where the link has gone since. A quarantined slot is released. -/
def Obligations.LeatLinksCarryTime : Prop :=
  (∀ (s : State) (dt : Nat) (n : Fin 4) (refine t4 : Units) (f : TimeFrame), serving s = true → linkMeasures s n = true →
    (s.leat.link[n]).swapping = false → t4 = leatStamp (begin dt s) n refine → exchangeOf (begin dt s) n f t4 = none →
    Answers (.leatTimeRx dt n refine f) s fun t =>
      (t.leat.link[n]).rx = some (f, t4, degradedNow s) ∧ (t.leat.link[n]).nbrId = f.sender ∧
      (t.leat.link[n]).upDispRx = f.upDispNs ∧
      (t.leat.link[n]).held = false ∧ (t.leat.link[n]).dj = (s.leat.link[n]).dj ∧ (t.leat.link[n]).st = (s.leat.link[n]).st ∧
      (f.waveValid = true → (t.leat.link[n]).waveAt = some (begin dt s).clk) ∧
      (t.leat.link[n]).accRx = accRxOf s n f ∧
      t.leat.forward = (if forwards s n f = true ∨ parentLink s = some n ∧ linkHeld s n = true ∧ f.waveValid = true then
        some (t4, f.wave, f.held) else s.leat.forward) ∧
      (∀ k : Fin 4, n ≠ k → t.leat.link[k] = s.leat.link[k]) ∧ KeepsBut [.rep, .leat, .refs] (begin dt s) t) ∧
  (∀ (s : State) (dt : Nat) (n : Fin 4) (refine t4 : Units) (f : TimeFrame) (e : Exchange), serving s = true →
    linkMeasures s n = true → (s.leat.link[n]).swapping = false → t4 = leatStamp (begin dt s) n refine →
    exchangeOf (begin dt s) n f t4 = some e →
    Answers (.leatTimeRx dt n refine f) s fun t =>
      (t.leat.link[n]).rx = some (f, t4, degradedNow s) ∧ (t.leat.link[n]).exchanges = (s.leat.link[n]).exchanges + 1 ∧
      (t.leat.link[n]).dj = (e.dj :: (s.leat.link[n]).dj).take 16 ∧ (t.leat.link[n]).delay = medianUnits (t.leat.link[n]).dj ∧
      (t.leat.link[n]).offset = e.th ∧
      ((s.leat.link[n]).st ≠ .up → (t.leat.link[n]).st =
        (if 32 ≤ (s.leat.link[n]).exchanges + 1 then .up else (s.leat.link[n]).st)) ∧
      (t.refs[leatSlot n]).delivered =
        (if (t.leat.link[n]).refused then none
          else if (s.leat.link[n]).st = .up ∧ e.oneEpoch = true ∧ e.degraded = false then some e.th
          else (s.refs[leatSlot n]).delivered) ∧
      (∀ k : Fin 4, n ≠ k → t.leat.link[k] = s.leat.link[k]) ∧
      KeepsBut [.rep, .leat, .refs, .tele] (begin dt s) t) ∧
  (∀ (s : State) (dt : Nat) (n : Fin 4) (refine t1 : Units) (f : TimeFrame), serving s = true → (s.leat.link[n]).st = .measuring →
    (s.leat.link[n]).swapping = false → (s.leat.link[n]).departures = [{ seq := f.echoSeq, tx := t1, epoch := s.tb.stepCount }] →
    f.echoSeq < 0xFFFF → (s.leat.link[n]).rx = none → (s.refs[leatSlot n]).y = 0 → (s.leat.link[n]).exchanges = 31 →
    (s.leat.link[n]).dj = [] →
    Answers (.leatTimeRx dt n refine f) s fun t =>
      (t.leat.link[n]).st = .up ∧ (t.leat.link[n]).exchanges = 32 ∧
      (t.leat.link[n]).dj = [(((leatStamp (begin dt s) n refine - t1) - (f.txTime - f.echoRx) : Units) / 2)] ∧
      (t.leat.link[n]).offset =
        ((f.echoRx - t1) + (f.txTime - leatStamp (begin dt s) n refine) + asymOf s n : Units) / 2 ∧
      ((t.refs[leatSlot n]).delivered = (s.refs[leatSlot n]).delivered ∨ (t.refs[leatSlot n]).delivered = none)) ∧
  (∀ (s : State) (dt : Nat) (grid : List Units), serving s = true → parentLink s = none →
    Answers (.leatWaveLaunch dt grid) s fun t =>
      (t.out.map fun o => match o with
        | .leatTime k f => (k.val, f.wave, f.waveValid, f.rootId == ownSerial, f.hops, f.accLatPs, f.txTime)
        | _ => (9, 0, false, false, 0, 0, 0)) =
        ((allLinks.filter (linkMeasures s)).map fun n => (n.val, (msNow (begin dt s) % 65536).toNat, true, true, 0, 0,
          leatGrid s grid n (msNow (begin dt s) * unitsPerMs))) ∧
      (∀ n : Fin 4, linkMeasures s n = true → (t.leat.link[n]).departures =
          ({ seq := leatSeq s n 2, tx := leatGrid s grid n (msNow (begin dt s) * unitsPerMs), epoch := s.tb.stepCount
             degraded := degradedNow s, far := (s.leat.link[n]).rx.map (·.1.stepEpoch) } :: (s.leat.link[n]).departures).take 4 ∧
        leatSeq t n 2 = (leatSeq s n 2 + 1) % 65536) ∧ KeepsBut [.rep, .out, .leat] (begin dt s) t) ∧
  (∀ (s : State) (dt : Nat) (grid : List Units) (p : Fin 4) (trx : Units) (w : Nat) (h : Bool), serving s = true →
    parentLink s = some p → s.leat.forward = some (trx, w, h) →
    Answers (.leatWaveForward dt grid) s fun t =>
      t.leat.forward = none ∧ t.leat.firstWave = false ∧ t.leat.waveLast = w % 65536 ∧
      (t.out.map fun o => match o with
        | .leatTime k f => (k.val, f.wave, f.waveValid, f.held, f.accLatPs, f.txTime)
        | _ => (9, 0, false, false, 0, 0)) =
        ((allLinks.filter (linkMeasures s)).map fun n => (n.val, w % 65536, true, h,
          min (2 ^ 32 - 1) ((s.leat.link[p]).accRx + (leatPs (leatGrid s grid n (trx + ((300 * unitsPerNs : Nat) : Int)) - trx)).toNat),
          leatGrid s grid n (trx + ((300 * unitsPerNs : Nat) : Int)))) ∧
      KeepsBut [.rep, .out, .leat] (begin dt s) t) ∧
  (∀ (s : State) (dt : Nat) (grid : List Units) (p : Fin 4), serving s = true → parentLink s = some p →
    s.leat.parentHeld = false →
    Answers (.leatNoWave dt grid) s fun t =>
      (t.out.map fun o => match o with
        | .leatTime k f => (k.val, f.wave, f.waveValid, f.rootId, f.parentId, f.rootBudgetUs, f.hops)
        | _ => (9, 0, true, 0, 0, 0, 0)) = ((allLinks.filter (linkMeasures s)).map fun n => (n.val, 0, false,
          (parentFrame s).elim s.leat.rootId (·.rootId), (parentFrame s).elim s.leat.parentId (·.sender),
          (parentFrame s).elim s.leat.rootBudget (·.rootBudgetUs), (parentFrame s).elim s.leat.hopsTx fun f => min 65535 (f.hops + 1))) ∧
      Changes dt s t [.out, .leat] ((if allLinks.any (linkMeasures s) then [.count 0x0F0007 (allLinks.filter (linkMeasures s)).length] else []) ++
        if t.leat.rootId = s.leat.rootId then [] else [eventNote 0x0F06 (begin dt s)])) ∧
  (∀ (s : State) (dt : Nat) (grid : List Units), serving s = true → s.leat.parentHeld = true →
    Answers (.leatProxyWave dt grid) s fun t =>
      (t.out.map fun o => match o with
        | .leatTime k f => (k.val, f.wave, f.waveValid, f.held, f.txTime)
        | _ => (9, 0, false, false, 0)) =
        ((allLinks.filter (linkMeasures s)).map fun n => (n.val, (msNow (begin dt s) % 65536).toNat, true, true,
          leatGrid s grid n (msNow (begin dt s) * unitsPerMs))) ∧
      Changes dt s t [.out, .leat] []) ∧
  (∀ (s : State) (dt : Nat) (grid : List Units), serving s = false →
    ∀ c ∈ [Instr.leatWaveLaunch dt grid, .leatWaveForward dt grid, .leatNoWave dt grid, .leatProxyWave dt grid],
      Answers c s fun t => Changes dt s t [] []) ∧
  (∀ (s : State) (dt : Nat) (n : Fin 4), (s.leat.link[n]).st = .up → linkHeld s n = false →
    Answers (.leatWaveTimeout dt n) s fun t =>
      (t.leat.link[n]).waveAt = none ∧ (t.leat.link[n]).refused = true ∧ (∀ k : Fin 4, n ≠ k → t.leat.link[k] = s.leat.link[k]) ∧
      KeepsBut [.rep, .leat] (begin dt s) t) ∧
  (∀ (s : State) (dt : Nat) (n : Fin 4), serving s = true → linkMeasures s n = true → (s.leat.link[n]).held = false →
    Answers (.leatLoadIdleRx dt n) s fun t =>
      (t.leat.link[n]).held = true ∧ (t.leat.link[n]).bucket = { level := 0, asOf := (begin dt s).clk } ∧
      t.leat.parentHeld = (s.leat.parentHeld || parentLink s == some n) ∧
      t.refs = s.refs.set (leatSlot n) { s.refs[leatSlot n] with delivered := none } ∧ (∀ k : Fin 4, n ≠ k → t.leat.link[k] = s.leat.link[k]) ∧
      Changes dt s t [.leat, .refs] (if parentLink s = some n then [eventNote 0x0F0A (begin dt s) n.val] else [])) ∧
  (∀ (s : State) (dt : Nat) (n : Fin 4), (s.leat.link[n]).held = true → (s.leat.link[n]).st = .up →
    Answers (.leatHoldTimeout dt n) s fun t =>
      (t.leat.link[n]).holdOver = true ∧ (t.leat.link[n]).refused = true ∧ (t.leat.link[n]).refuseCause = 0 ∧
      (parentLink s = some n → t.leat.parentHeld = false) ∧ KeepsBut [.rep, .leat] (begin dt s) t) ∧
  (∀ (s : State) (dt : Nat) (n : Fin 4), (s.leat.link[n]).watch.back = true → (s.leat.link[n]).watch.pre.isSome = true →
    (s.refs[leatSlot n]).st = .quarantined →
    Answers (.leatAsymReleased dt n) s fun t =>
      (t.refs[leatSlot n]).st = .qualifying ∧ (t.leat.link[n]).watch.pre = none ∧
      (∀ k : Fin 13, leatSlot n ≠ k → t.refs[k] = s.refs[k]) ∧ Changes dt s t [.leat, .refs] [eventNote 0x0F09 (begin dt s) n.val])

/-- R288, R380, R391, R396, R398, R406, R408, R409, R410 (`leatCreditTx`, `leatCreditRx`, `leatTelemRx`, `leatSpillRx`, `leatRespRx`,
`leatBadFrame`): buffer credit returns to its sender, at most 32,768 bytes of it (log entry 58), and a `RESP` frame that waits goes
when it is covered; the neighbour's report is kept; a spilled request is counted and its bytes returnable, one for an address not
served is refused, and an NTP request of an ASSURED or GENERAL class that no meter judges joins its queue with its T2; an answer that
comes back joins the queue of its class, and it or a refusal frees its cells; one whose handle is gone is counted, with event 0x0F0B
at most once a second; so is a frame that is discarded. A frame for a line that is not free waits its turn (R397). -/
def Obligations.LeatLinksLendCapacity : Prop :=
  (∀ (s : State) (dt : Nat) (n : Fin 4), serving s = true → linkCarries s n = true →
    (s.leat.link[n]).spillReturn ≠ 0 ∨ (s.leat.link[n]).respReturn ≠ 0 →
    (s.leat.link[n]).txQ = [] → (s.leat.link[n]).lineEnd ≤ (begin dt s).clk →
    Answers (.leatCreditTx dt n) s fun t =>
      t.out = [.leatCredit n (leatSeq s n 5) (s.leat.link[n]).spillReturn (s.leat.link[n]).respReturn (suCredit s n)] ∧
      (t.leat.link[n]).spillReturn = 0 ∧ (t.leat.link[n]).respReturn = 0 ∧ leatSeq t n 5 = (leatSeq s n 5 + 1) % 65536 ∧
      (t.leat.link[n]).lineEnd = (begin dt s).clk + leatLineTime 32 ∧
      (∀ k : Fin 4, n ≠ k → t.leat.link[k] = s.leat.link[k]) ∧ Changes dt s t [.out, .leat] []) ∧
  (∀ (s : State) (dt : Nat) (n : Fin 4), serving s = true → linkCarries s n = true →
    (s.leat.link[n]).spillReturn ≠ 0 ∨ (s.leat.link[n]).respReturn ≠ 0 → (begin dt s).clk < (s.leat.link[n]).lineEnd →
    Answers (.leatCreditTx dt n) s fun t =>
      (t.leat.link[n]).txQ = insertTx
        ⟨2, 5, 32, .leatCredit n 0 (s.leat.link[n]).spillReturn (s.leat.link[n]).respReturn (suCredit s n)⟩ (s.leat.link[n]).txQ ∧
      (t.leat.link[n]).spillReturn = 0 ∧ (t.leat.link[n]).respReturn = 0 ∧ (t.leat.link[n]).lineEnd = (s.leat.link[n]).lineEnd ∧
      (∀ k : Fin 4, n ≠ k → t.leat.link[k] = s.leat.link[k]) ∧ Changes dt s t [.leat] []) ∧
  (∀ (s : State) (dt : Nat) (n : Fin 4) (a b r : Nat), serving s = true → linkMeasures s n = true →
    (s.leat.link[n]).swapping = false → (∀ w ∈ s.leat.respWait, w.link ≠ n) → r < 65536 →
    Answers (.leatCreditRx dt n a b r) s fun t =>
      (t.leat.link[n]).spillCredit = min 32768 ((s.leat.link[n]).spillCredit + a) ∧
      (t.leat.link[n]).respCredit = min 32768 ((s.leat.link[n]).respCredit + b) ∧ (t.leat.link[n]).suRate = r ∧
      (t.leat.link[n]).bucket.level ≤ r * 400000 * 24300000 ∧ (∀ k : Fin 4, n ≠ k → t.leat.link[k] = s.leat.link[k]) ∧
      Changes dt s t [.leat] []) ∧
  (∀ (s : State) (dt : Nat) (n : Fin 4) (a b r : Nat) (w : RespWait), serving s = true → linkMeasures s n = true →
    (s.leat.link[n]).swapping = false → s.leat.respWait = [w] → w.link = n →
    roundUpTo 8 w.frame.len ≤ min 32768 ((s.leat.link[n]).respCredit + b) →
    (s.leat.link[n]).txQ = [] → (s.leat.link[n]).lineEnd ≤ (begin dt s).clk →
    Answers (.leatCreditRx dt n a b r) s fun t =>
      t.out = [.leatResp n (leatSeq s n 4) w.frame] ∧ t.leat.respWait = [] ∧
      (t.leat.link[n]).respCredit = min 32768 ((s.leat.link[n]).respCredit + b) - roundUpTo 8 w.frame.len ∧
      (∀ k : Fin 4, n ≠ k → t.leat.link[k] = s.leat.link[k]) ∧ Changes dt s t [.leat, .out] []) ∧
  (∀ (s : State) (dt : Nat) (n : Fin 4) (f : TelemFrame), serving s = true → linkMeasures s n = true →
    (s.leat.link[n]).swapping = false →
    Answers (.leatTelemRx dt n f) s fun t =>
      (t.leat.link[n]).nbrId = f.sender ∧ (t.leat.link[n]).nbrMode = f.mode ∧ (t.leat.link[n]).nbrHeadroom = f.headroom ∧
      (t.leat.link[n]).st = (s.leat.link[n]).st ∧ Changes dt s t [.leat] []) ∧
  (∀ (s : State) (dt : Nat) (n : Fin 4) (refine : Units) (f : SpillFrame), serving s = true → linkCarries s n = true →
    (s.leat.link[n]).swapping = false → spillServed s f.req = false → (∀ w ∈ s.leat.respWait, w.link ≠ n) →
    32 ≤ (s.leat.link[n]).respCredit →
    (s.leat.link[n]).txQ = [] → (s.leat.link[n]).lineEnd ≤ (begin dt s).clk →
    Answers (.leatSpillRx dt n refine f) s fun t =>
      (t.leat.link[n]).spillReturn = (s.leat.link[n]).spillReturn + roundUpTo 8 f.len ∧
      t.out = [.leatResp n (leatSeq s n 4) { handle := f.handle, refused := true, len := 28 }] ∧
      (t.leat.link[n]).respCredit = (s.leat.link[n]).respCredit - 32 ∧
      Changes dt s t [.leat, .out] [.count 0x0E001C 1, .count (0x0F004C + n.val) 1]) ∧
  (∀ (s : State) (dt : Nat) (n : Fin 4) (refine : Units) (f : SpillFrame) (c : Cls) (b : Nat), serving s = true →
    linkMeasures s n = true → (s.leat.link[n]).swapping = false → spillServed s f.req = true → isPtpFrame f.req = false →
    f.req.ip.isSome = true → (f.req.udp.map (·.dstPort)) = some 123 → sluiceRefuses s f.req.payload = none →
    (accessDecision s f.port f.req (ntpKind f.req == .nts)).1 = true → classify s f.port (ntpKind f.req) f.req = (c, b) → c ≠ .prec →
    s.cfg.b0E.weir.spillEn = false → classMeter s c = none →
    ((portCfg s f.port).maxFrame + 255) / 256 + s.cfg.b0A.hopper.precReserve ≤ hopperFree s →
    Answers (.leatSpillRx dt n refine f) s fun t =>
      (∃ j, queueOf t c = queueOf s c ++ [j] ∧ j.req = f.req ∧ j.port = f.port ∧ j.kind = ntpKind f.req ∧ j.t2 = f.t2 ∧
        j.t2Degraded = f.degraded ∧ j.spill = some (n, f.handle, leatStamp (begin dt s) n refine)) ∧
      NotesFirst dt s t [.count 0x0E001C 1, .count (0x0F004C + n.val) 1] ∧
      (t.leat.link[n]).spillReturn = (s.leat.link[n]).spillReturn + roundUpTo 8 f.len ∧
      (∀ k : Fin 4, n ≠ k → t.leat.link[k] = s.leat.link[k]) ∧ KeepsBut [.rep, .core, .weir, .leat, .tele] (begin dt s) t) ∧
  (∀ (s : State) (dt : Nat) (n : Fin 4) (f : RespFrame) (e : SpillPending), serving s = true → linkMeasures s n = true →
    (s.leat.link[n]).swapping = false →
    s.core.pendingSpills.find? (fun x => x.handle == f.handle && x.link == n) = some e →
    Answers (.leatRespRx dt n f) s fun t =>
      t.core.pendingSpills = s.core.pendingSpills.erase e ∧ t.core.cellsUsed = s.core.cellsUsed - e.job.cells ∧ (t.leat.link[n]).respReturn = (s.leat.link[n]).respReturn + roundUpTo 8 f.len ∧
      (f.refused = true → NotesFirst dt s t [.count 0x0E001E 1] ∧ t.core.precQ = s.core.precQ ∧ t.core.assuredQ = s.core.assuredQ ∧ t.core.generalQ = s.core.generalQ) ∧
      (f.refused = false → (queueOf t e.job.cls).map (·.relayed) = (queueOf s e.job.cls).map (·.relayed) ++ [true]) ∧
      t.ports = s.ports ∧ t.garner = s.garner ∧ t.cfg = s.cfg) ∧
  (∀ (s : State) (dt : Nat) (n : Fin 4) (f : RespFrame), serving s = true → linkMeasures s n = true →
    (s.leat.link[n]).swapping = false →
    s.core.pendingSpills.find? (fun x => x.handle == f.handle && x.link == n) = none →
    Answers (.leatRespRx dt n f) s fun t =>
      t.leat = { s.leat with link := s.leat.link.set n { s.leat.link[n] with
        respReturn := (s.leat.link[n]).respReturn + roundUpTo 8 f.len } } ∧
      Changes dt s t [.tele, .leat] ((if s.tele.lastIssued.any (fun e => e.1 == 0x0F0B && e.2.1 == n.val) = false ∨
          (s.tele.lastIssued.find? fun e => e.1 == 0x0F0B && e.2.1 == n.val).any (fun e => decide (e.2.2 + clkPerSec ≤ (begin dt s).clk)) then
        [eventNote 0x0F0B (begin dt s) n.val] else []) ++ [.count 0x0F0008 1])) ∧
  (∀ (s : State) (dt : Nat) (n : Fin 4) (w : LeatBad), linkTalks s n = true →
    Answers (.leatBadFrame dt n w) s fun t => Changes dt s t [] [.count (0x0F0038 + n.val) 1]) ∧
  (∀ (s : State) (dt : Nat) (n : Fin 4) (w : LeatBad), linkTalks s n = false →
    Answers (.leatBadFrame dt n w) s fun t => Changes dt s t [] [])

/-- R10, R423, R425: every step keeps the report in its form: counters canonical and within their fields, at most 1,024 ring entries,
`EV_HEAD` in 16 bits, `ATTN_N` low exactly while `ATTN_PENDING` is not zero. -/
def Obligations.StepsKeepTheReportInForm : Prop :=
  ∀ s t : State, Report.wf s.rep = true → step s = .next t → Report.wf t.rep = true

/-- R276: every step keeps the Garner's memory in its one canonical form: records by rising index, and none equal to the record that
an unwritten one reads as (the model's form of the memory, log entry 75; what an unwritten record reads as, log entry 62). -/
def Obligations.StepsKeepTheGarnerInForm : Prop :=
  ∀ s t : State, Memory.wf s.garner = true → step s = .next t → Memory.wf t.garner = true

/-- R18 (every constructor but those named): beside the marker, the ticks, and the commands that start and stop PD1 or the device, no
command writes the timebase: its value moves by the time that passes before the command, and the rate word and the count of steps
stand. -/
def Obligations.OnlyTheGovernorWritesTheTimebase : Prop :=
  ∀ (s t : State) (c : Instr), (match c with
      | .powerOn _ | .retainExit .. | .retainEntry .. | .warmReset _ | .coldReset _ | .resetRelease .. | .domainPowerGood .. |
        .applyTick _ | .secondMarker _ | .governorTick .. => False
      | _ => True) →
    exec c s = .next t →
    (∃ n : Nat, t.tb = (begin n s).tb ∧ t.clk = (begin n s).clk) ∧ t.tb.w = s.tb.w ∧ t.tb.stepCount = s.tb.stepCount ∧
    t.tb.running = s.tb.running

/-- R21: the device changes mode only from RETAIN to LOAD, from LOAD to the mode it ends in or to SAFE, between ACQUIRE, LOCKED and
HOLDOVER as the table allows, to LOAD, to SAFE, and to RETAIN. -/
def Obligations.ModesChangeOnlyAsTheTableAllows : Prop :=
  ∀ (s t : State) (c : Instr), exec c s = .next t → t.pwr.mode ≠ s.pwr.mode →
    (s.pwr.mode, t.pwr.mode) ∈ [(Mode.retain, Mode.load), (.load, .acquire), (.load, .locked), (.load, .holdover), (.load, .safe),
      (.load, .retain), (.acquire, .locked), (.acquire, .load), (.acquire, .safe), (.acquire, .retain), (.locked, .holdover),
      (.locked, .load), (.locked, .safe), (.locked, .retain), (.holdover, .locked), (.holdover, .load), (.holdover, .safe),
      (.holdover, .retain), (.safe, .load), (.safe, .retain)]

/-- R428: the histogram bin of a sample. Below 4 it is w itself; with 2^e ≤ w < 2^(e+1) it is that of the rule's formula; a bin below
63 holds w from its lower edge up to the next bin's, and bin 63 every w from its lower edge, so every w ≥ 2¹⁷. -/
def Obligations.TallyBinsFollowTheFormula : Prop :=
  ∀ (shift : Nat) (v : Int) (w : Nat), w = v.natAbs / 2 ^ shift →
    (w < 4 → tallyBin shift v = w) ∧
    (∀ e : Nat, 2 ≤ e → 2 ^ e ≤ w → w < 2 ^ (e + 1) → tallyBin shift v = min 63 (4 * (e - 1) + w / 2 ^ (e - 2) % 4)) ∧
    (∀ b : Nat, 4 ≤ b → b < 63 → (tallyBin shift v = b ↔
      (4 + b % 4) * 2 ^ (b / 4 - 1) ≤ w ∧ w < (4 + (b + 1) % 4) * 2 ^ ((b + 1) / 4 - 1))) ∧
    (tallyBin shift v = 63 ↔ (4 + 63 % 4) * 2 ^ (63 / 4 - 1) ≤ w) ∧ (2 ^ 17 ≤ w → tallyBin shift v = 63)

/-- R68: a compact stamp has 32 bits and holds (seconds × 10⁹ + nanoseconds) mod 2³², the fraction dropped by truncation; it wraps
every 2³² ns. -/
def Obligations.CompactStampsHoldTheNanoseconds : Prop :=
  ∀ (t : Nat) (d : Bool), t < 2 ^ 47 * unitsPerSec →
    compactOf (stampOf (t : Int) d) < 2 ^ 32 ∧
    compactOf (stampOf (t : Int) d) =
      ((stampOf (t : Int) d).sec * 1000000000 + (stampOf (t : Int) d).ns) % 2 ^ 32 ∧
    compactOf (stampOf (t : Int) d) = t / unitsPerNs % 2 ^ 32 ∧
    compactOf (stampOf ((t + 2 ^ 32 * unitsPerNs : Nat) : Int) d) = compactOf (stampOf (t : Int) d)
end

