-- ==== Sys2Proof/Laws/State.lean ====
section
/-!
SUPPORT. What each named update of the state does to each field: the one it writes, and every other one, which it keeps.
-/

namespace Sys2Proof.Machine

variable (s : State)

/-! `note` -/

@[simp] theorem note_pending (n : Note) : (note n s).pending = s.pending := rfl
@[simp] theorem note_out (n : Note) : (note n s).out = s.out := rfl
@[simp] theorem note_wire (n : Note) : (note n s).wire = s.wire := rfl
@[simp] theorem note_notes (n : Note) : (note n s).notes = n :: s.notes := rfl
@[simp] theorem note_clk (n : Note) : (note n s).clk = s.clk := rfl
@[simp] theorem note_tb (n : Note) : (note n s).tb = s.tb := rfl
@[simp] theorem note_ts (n : Note) : (note n s).ts = s.ts := rfl
@[simp] theorem note_pll (n : Note) : (note n s).pll = s.pll := rfl
@[simp] theorem note_cfg (n : Note) : (note n s).cfg = s.cfg := rfl
@[simp] theorem note_ld (n : Note) : (note n s).ld = s.ld := rfl
@[simp] theorem note_otp (n : Note) : (note n s).otp = s.otp := rfl
@[simp] theorem note_rep (n : Note) : (note n s).rep = s.rep := rfl
@[simp] theorem note_tele (n : Note) : (note n s).tele = s.tele := rfl
@[simp] theorem note_pd0 (n : Note) : (note n s).pd0 = s.pd0 := rfl
@[simp] theorem note_avs (n : Note) : (note n s).avs = s.avs := rfl
@[simp] theorem note_mon (n : Note) : (note n s).mon = s.mon := rfl
@[simp] theorem note_pwr (n : Note) : (note n s).pwr = s.pwr := rfl
@[simp] theorem note_refs (n : Note) : (note n s).refs = s.refs := rfl
@[simp] theorem note_gov (n : Note) : (note n s).gov = s.gov := rfl
@[simp] theorem note_ho (n : Note) : (note n s).ho = s.ho := rfl
@[simp] theorem note_outs (n : Note) : (note n s).outs = s.outs := rfl
@[simp] theorem note_ic (n : Note) : (note n s).ic = s.ic := rfl
@[simp] theorem note_gnss (n : Note) : (note n s).gnss = s.gnss := rfl
@[simp] theorem note_core (n : Note) : (note n s).core = s.core := rfl
@[simp] theorem note_garner (n : Note) : (note n s).garner = s.garner := rfl
@[simp] theorem note_ports (n : Note) : (note n s).ports = s.ports := rfl
@[simp] theorem note_weir (n : Note) : (note n s).weir = s.weir := rfl
@[simp] theorem note_ntp (n : Note) : (note n s).ntp = s.ntp := rfl
@[simp] theorem note_cli (n : Note) : (note n s).cli = s.cli := rfl
@[simp] theorem note_leat (n : Note) : (note n s).leat = s.leat := rfl
@[simp] theorem note_dress (n : Note) : (note n s).dress = s.dress := rfl

/-! `count` -/

@[simp] theorem count_pending (a : Nat) : (count a s).pending = s.pending := rfl
@[simp] theorem count_out (a : Nat) : (count a s).out = s.out := rfl
@[simp] theorem count_wire (a : Nat) : (count a s).wire = s.wire := rfl
@[simp] theorem count_notes (a : Nat) : (count a s).notes = .count a 1 :: s.notes := rfl
@[simp] theorem count_clk (a : Nat) : (count a s).clk = s.clk := rfl
@[simp] theorem count_tb (a : Nat) : (count a s).tb = s.tb := rfl
@[simp] theorem count_ts (a : Nat) : (count a s).ts = s.ts := rfl
@[simp] theorem count_pll (a : Nat) : (count a s).pll = s.pll := rfl
@[simp] theorem count_cfg (a : Nat) : (count a s).cfg = s.cfg := rfl
@[simp] theorem count_ld (a : Nat) : (count a s).ld = s.ld := rfl
@[simp] theorem count_otp (a : Nat) : (count a s).otp = s.otp := rfl
@[simp] theorem count_rep (a : Nat) : (count a s).rep = s.rep := rfl
@[simp] theorem count_tele (a : Nat) : (count a s).tele = s.tele := rfl
@[simp] theorem count_pd0 (a : Nat) : (count a s).pd0 = s.pd0 := rfl
@[simp] theorem count_avs (a : Nat) : (count a s).avs = s.avs := rfl
@[simp] theorem count_mon (a : Nat) : (count a s).mon = s.mon := rfl
@[simp] theorem count_pwr (a : Nat) : (count a s).pwr = s.pwr := rfl
@[simp] theorem count_refs (a : Nat) : (count a s).refs = s.refs := rfl
@[simp] theorem count_gov (a : Nat) : (count a s).gov = s.gov := rfl
@[simp] theorem count_ho (a : Nat) : (count a s).ho = s.ho := rfl
@[simp] theorem count_outs (a : Nat) : (count a s).outs = s.outs := rfl
@[simp] theorem count_ic (a : Nat) : (count a s).ic = s.ic := rfl
@[simp] theorem count_gnss (a : Nat) : (count a s).gnss = s.gnss := rfl
@[simp] theorem count_core (a : Nat) : (count a s).core = s.core := rfl
@[simp] theorem count_garner (a : Nat) : (count a s).garner = s.garner := rfl
@[simp] theorem count_ports (a : Nat) : (count a s).ports = s.ports := rfl
@[simp] theorem count_weir (a : Nat) : (count a s).weir = s.weir := rfl
@[simp] theorem count_ntp (a : Nat) : (count a s).ntp = s.ntp := rfl
@[simp] theorem count_cli (a : Nat) : (count a s).cli = s.cli := rfl
@[simp] theorem count_leat (a : Nat) : (count a s).leat = s.leat := rfl
@[simp] theorem count_dress (a : Nat) : (count a s).dress = s.dress := rfl

/-! `emit` -/

@[simp] theorem emit_pending (c i j : Nat) : (emit c s i j).pending = s.pending := rfl
@[simp] theorem emit_out (c i j : Nat) : (emit c s i j).out = s.out := rfl
@[simp] theorem emit_wire (c i j : Nat) : (emit c s i j).wire = s.wire := rfl
@[simp] theorem emit_clk (c i j : Nat) : (emit c s i j).clk = s.clk := rfl
@[simp] theorem emit_tb (c i j : Nat) : (emit c s i j).tb = s.tb := rfl
@[simp] theorem emit_ts (c i j : Nat) : (emit c s i j).ts = s.ts := rfl
@[simp] theorem emit_pll (c i j : Nat) : (emit c s i j).pll = s.pll := rfl
@[simp] theorem emit_cfg (c i j : Nat) : (emit c s i j).cfg = s.cfg := rfl
@[simp] theorem emit_ld (c i j : Nat) : (emit c s i j).ld = s.ld := rfl
@[simp] theorem emit_otp (c i j : Nat) : (emit c s i j).otp = s.otp := rfl
@[simp] theorem emit_rep (c i j : Nat) : (emit c s i j).rep = s.rep := rfl
@[simp] theorem emit_tele (c i j : Nat) : (emit c s i j).tele = s.tele := rfl
@[simp] theorem emit_pd0 (c i j : Nat) : (emit c s i j).pd0 = s.pd0 := rfl
@[simp] theorem emit_avs (c i j : Nat) : (emit c s i j).avs = s.avs := rfl
@[simp] theorem emit_mon (c i j : Nat) : (emit c s i j).mon = s.mon := rfl
@[simp] theorem emit_pwr (c i j : Nat) : (emit c s i j).pwr = s.pwr := rfl
@[simp] theorem emit_refs (c i j : Nat) : (emit c s i j).refs = s.refs := rfl
@[simp] theorem emit_gov (c i j : Nat) : (emit c s i j).gov = s.gov := rfl
@[simp] theorem emit_ho (c i j : Nat) : (emit c s i j).ho = s.ho := rfl
@[simp] theorem emit_outs (c i j : Nat) : (emit c s i j).outs = s.outs := rfl
@[simp] theorem emit_ic (c i j : Nat) : (emit c s i j).ic = s.ic := rfl
@[simp] theorem emit_gnss (c i j : Nat) : (emit c s i j).gnss = s.gnss := rfl
@[simp] theorem emit_core (c i j : Nat) : (emit c s i j).core = s.core := rfl
@[simp] theorem emit_garner (c i j : Nat) : (emit c s i j).garner = s.garner := rfl
@[simp] theorem emit_ports (c i j : Nat) : (emit c s i j).ports = s.ports := rfl
@[simp] theorem emit_weir (c i j : Nat) : (emit c s i j).weir = s.weir := rfl
@[simp] theorem emit_ntp (c i j : Nat) : (emit c s i j).ntp = s.ntp := rfl
@[simp] theorem emit_cli (c i j : Nat) : (emit c s i j).cli = s.cli := rfl
@[simp] theorem emit_leat (c i j : Nat) : (emit c s i j).leat = s.leat := rfl
@[simp] theorem emit_dress (c i j : Nat) : (emit c s i j).dress = s.dress := rfl

/-! `put` -/

@[simp] theorem put_pending (o : Output) : (put o s).pending = s.pending := rfl
@[simp] theorem put_out (o : Output) : (put o s).out = s.out ++ [o] := rfl
@[simp] theorem put_wire (o : Output) : (put o s).wire = s.wire ++ [wireOf s o] := rfl
@[simp] theorem put_notes (o : Output) : (put o s).notes = s.notes := rfl
@[simp] theorem put_clk (o : Output) : (put o s).clk = s.clk := rfl
@[simp] theorem put_tb (o : Output) : (put o s).tb = s.tb := rfl
@[simp] theorem put_ts (o : Output) : (put o s).ts = s.ts := rfl
@[simp] theorem put_pll (o : Output) : (put o s).pll = s.pll := rfl
@[simp] theorem put_cfg (o : Output) : (put o s).cfg = s.cfg := rfl
@[simp] theorem put_ld (o : Output) : (put o s).ld = s.ld := rfl
@[simp] theorem put_otp (o : Output) : (put o s).otp = s.otp := rfl
@[simp] theorem put_rep (o : Output) : (put o s).rep = s.rep := rfl
@[simp] theorem put_tele (o : Output) : (put o s).tele = s.tele := rfl
@[simp] theorem put_pd0 (o : Output) : (put o s).pd0 = s.pd0 := rfl
@[simp] theorem put_avs (o : Output) : (put o s).avs = s.avs := rfl
@[simp] theorem put_mon (o : Output) : (put o s).mon = s.mon := rfl
@[simp] theorem put_pwr (o : Output) : (put o s).pwr = s.pwr := rfl
@[simp] theorem put_refs (o : Output) : (put o s).refs = s.refs := rfl
@[simp] theorem put_gov (o : Output) : (put o s).gov = s.gov := rfl
@[simp] theorem put_ho (o : Output) : (put o s).ho = s.ho := rfl
@[simp] theorem put_outs (o : Output) : (put o s).outs = s.outs := rfl
@[simp] theorem put_ic (o : Output) : (put o s).ic = s.ic := rfl
@[simp] theorem put_gnss (o : Output) : (put o s).gnss = s.gnss := rfl
@[simp] theorem put_core (o : Output) : (put o s).core = s.core := rfl
@[simp] theorem put_garner (o : Output) : (put o s).garner = s.garner := rfl
@[simp] theorem put_ports (o : Output) : (put o s).ports = s.ports := rfl
@[simp] theorem put_weir (o : Output) : (put o s).weir = s.weir := rfl
@[simp] theorem put_ntp (o : Output) : (put o s).ntp = s.ntp := rfl
@[simp] theorem put_cli (o : Output) : (put o s).cli = s.cli := rfl
@[simp] theorem put_leat (o : Output) : (put o s).leat = s.leat := rfl
@[simp] theorem put_dress (o : Output) : (put o s).dress = s.dress := rfl

/-! `modTele` -/

@[simp] theorem modTele_pending (f : Telemetry → Telemetry) : (modTele f s).pending = s.pending := rfl
@[simp] theorem modTele_out (f : Telemetry → Telemetry) : (modTele f s).out = s.out := rfl
@[simp] theorem modTele_wire (f : Telemetry → Telemetry) : (modTele f s).wire = s.wire := rfl
@[simp] theorem modTele_notes (f : Telemetry → Telemetry) : (modTele f s).notes = s.notes := rfl
@[simp] theorem modTele_clk (f : Telemetry → Telemetry) : (modTele f s).clk = s.clk := rfl
@[simp] theorem modTele_tb (f : Telemetry → Telemetry) : (modTele f s).tb = s.tb := rfl
@[simp] theorem modTele_ts (f : Telemetry → Telemetry) : (modTele f s).ts = s.ts := rfl
@[simp] theorem modTele_pll (f : Telemetry → Telemetry) : (modTele f s).pll = s.pll := rfl
@[simp] theorem modTele_cfg (f : Telemetry → Telemetry) : (modTele f s).cfg = s.cfg := rfl
@[simp] theorem modTele_ld (f : Telemetry → Telemetry) : (modTele f s).ld = s.ld := rfl
@[simp] theorem modTele_otp (f : Telemetry → Telemetry) : (modTele f s).otp = s.otp := rfl
@[simp] theorem modTele_rep (f : Telemetry → Telemetry) : (modTele f s).rep = s.rep := rfl
@[simp] theorem modTele_tele (f : Telemetry → Telemetry) : (modTele f s).tele = f s.tele := rfl
@[simp] theorem modTele_pd0 (f : Telemetry → Telemetry) : (modTele f s).pd0 = s.pd0 := rfl
@[simp] theorem modTele_avs (f : Telemetry → Telemetry) : (modTele f s).avs = s.avs := rfl
@[simp] theorem modTele_mon (f : Telemetry → Telemetry) : (modTele f s).mon = s.mon := rfl
@[simp] theorem modTele_pwr (f : Telemetry → Telemetry) : (modTele f s).pwr = s.pwr := rfl
@[simp] theorem modTele_refs (f : Telemetry → Telemetry) : (modTele f s).refs = s.refs := rfl
@[simp] theorem modTele_gov (f : Telemetry → Telemetry) : (modTele f s).gov = s.gov := rfl
@[simp] theorem modTele_ho (f : Telemetry → Telemetry) : (modTele f s).ho = s.ho := rfl
@[simp] theorem modTele_outs (f : Telemetry → Telemetry) : (modTele f s).outs = s.outs := rfl
@[simp] theorem modTele_ic (f : Telemetry → Telemetry) : (modTele f s).ic = s.ic := rfl
@[simp] theorem modTele_gnss (f : Telemetry → Telemetry) : (modTele f s).gnss = s.gnss := rfl
@[simp] theorem modTele_core (f : Telemetry → Telemetry) : (modTele f s).core = s.core := rfl
@[simp] theorem modTele_garner (f : Telemetry → Telemetry) : (modTele f s).garner = s.garner := rfl
@[simp] theorem modTele_ports (f : Telemetry → Telemetry) : (modTele f s).ports = s.ports := rfl
@[simp] theorem modTele_weir (f : Telemetry → Telemetry) : (modTele f s).weir = s.weir := rfl
@[simp] theorem modTele_ntp (f : Telemetry → Telemetry) : (modTele f s).ntp = s.ntp := rfl
@[simp] theorem modTele_cli (f : Telemetry → Telemetry) : (modTele f s).cli = s.cli := rfl
@[simp] theorem modTele_leat (f : Telemetry → Telemetry) : (modTele f s).leat = s.leat := rfl
@[simp] theorem modTele_dress (f : Telemetry → Telemetry) : (modTele f s).dress = s.dress := rfl

/-! `modMonitor` -/

@[simp] theorem modMonitor_pending (n : Fin 24) (f : Monitor → Monitor) : (modMonitor n f s).pending = s.pending := rfl
@[simp] theorem modMonitor_out (n : Fin 24) (f : Monitor → Monitor) : (modMonitor n f s).out = s.out := rfl
@[simp] theorem modMonitor_wire (n : Fin 24) (f : Monitor → Monitor) : (modMonitor n f s).wire = s.wire := rfl
@[simp] theorem modMonitor_notes (n : Fin 24) (f : Monitor → Monitor) : (modMonitor n f s).notes = s.notes := rfl
@[simp] theorem modMonitor_clk (n : Fin 24) (f : Monitor → Monitor) : (modMonitor n f s).clk = s.clk := rfl
@[simp] theorem modMonitor_tb (n : Fin 24) (f : Monitor → Monitor) : (modMonitor n f s).tb = s.tb := rfl
@[simp] theorem modMonitor_ts (n : Fin 24) (f : Monitor → Monitor) : (modMonitor n f s).ts = s.ts := rfl
@[simp] theorem modMonitor_pll (n : Fin 24) (f : Monitor → Monitor) : (modMonitor n f s).pll = s.pll := rfl
@[simp] theorem modMonitor_cfg (n : Fin 24) (f : Monitor → Monitor) : (modMonitor n f s).cfg = s.cfg := rfl
@[simp] theorem modMonitor_ld (n : Fin 24) (f : Monitor → Monitor) : (modMonitor n f s).ld = s.ld := rfl
@[simp] theorem modMonitor_otp (n : Fin 24) (f : Monitor → Monitor) : (modMonitor n f s).otp = s.otp := rfl
@[simp] theorem modMonitor_rep (n : Fin 24) (f : Monitor → Monitor) : (modMonitor n f s).rep = s.rep := rfl
@[simp] theorem modMonitor_pd0 (n : Fin 24) (f : Monitor → Monitor) : (modMonitor n f s).pd0 = s.pd0 := rfl
@[simp] theorem modMonitor_avs (n : Fin 24) (f : Monitor → Monitor) : (modMonitor n f s).avs = s.avs := rfl
@[simp] theorem modMonitor_mon (n : Fin 24) (f : Monitor → Monitor) : (modMonitor n f s).mon = s.mon := rfl
@[simp] theorem modMonitor_pwr (n : Fin 24) (f : Monitor → Monitor) : (modMonitor n f s).pwr = s.pwr := rfl
@[simp] theorem modMonitor_refs (n : Fin 24) (f : Monitor → Monitor) : (modMonitor n f s).refs = s.refs := rfl
@[simp] theorem modMonitor_gov (n : Fin 24) (f : Monitor → Monitor) : (modMonitor n f s).gov = s.gov := rfl
@[simp] theorem modMonitor_ho (n : Fin 24) (f : Monitor → Monitor) : (modMonitor n f s).ho = s.ho := rfl
@[simp] theorem modMonitor_outs (n : Fin 24) (f : Monitor → Monitor) : (modMonitor n f s).outs = s.outs := rfl
@[simp] theorem modMonitor_ic (n : Fin 24) (f : Monitor → Monitor) : (modMonitor n f s).ic = s.ic := rfl
@[simp] theorem modMonitor_gnss (n : Fin 24) (f : Monitor → Monitor) : (modMonitor n f s).gnss = s.gnss := rfl
@[simp] theorem modMonitor_core (n : Fin 24) (f : Monitor → Monitor) : (modMonitor n f s).core = s.core := rfl
@[simp] theorem modMonitor_garner (n : Fin 24) (f : Monitor → Monitor) : (modMonitor n f s).garner = s.garner := rfl
@[simp] theorem modMonitor_ports (n : Fin 24) (f : Monitor → Monitor) : (modMonitor n f s).ports = s.ports := rfl
@[simp] theorem modMonitor_weir (n : Fin 24) (f : Monitor → Monitor) : (modMonitor n f s).weir = s.weir := rfl
@[simp] theorem modMonitor_ntp (n : Fin 24) (f : Monitor → Monitor) : (modMonitor n f s).ntp = s.ntp := rfl
@[simp] theorem modMonitor_cli (n : Fin 24) (f : Monitor → Monitor) : (modMonitor n f s).cli = s.cli := rfl
@[simp] theorem modMonitor_leat (n : Fin 24) (f : Monitor → Monitor) : (modMonitor n f s).leat = s.leat := rfl
@[simp] theorem modMonitor_dress (n : Fin 24) (f : Monitor → Monitor) : (modMonitor n f s).dress = s.dress := rfl

/-! `modSampler` -/

@[simp] theorem modSampler_pending (n : Fin 16) (f : SamplerState → SamplerState) : (modSampler n f s).pending = s.pending := rfl
@[simp] theorem modSampler_out (n : Fin 16) (f : SamplerState → SamplerState) : (modSampler n f s).out = s.out := rfl
@[simp] theorem modSampler_wire (n : Fin 16) (f : SamplerState → SamplerState) : (modSampler n f s).wire = s.wire := rfl
@[simp] theorem modSampler_notes (n : Fin 16) (f : SamplerState → SamplerState) : (modSampler n f s).notes = s.notes := rfl
@[simp] theorem modSampler_clk (n : Fin 16) (f : SamplerState → SamplerState) : (modSampler n f s).clk = s.clk := rfl
@[simp] theorem modSampler_tb (n : Fin 16) (f : SamplerState → SamplerState) : (modSampler n f s).tb = s.tb := rfl
@[simp] theorem modSampler_ts (n : Fin 16) (f : SamplerState → SamplerState) : (modSampler n f s).ts = s.ts := rfl
@[simp] theorem modSampler_pll (n : Fin 16) (f : SamplerState → SamplerState) : (modSampler n f s).pll = s.pll := rfl
@[simp] theorem modSampler_cfg (n : Fin 16) (f : SamplerState → SamplerState) : (modSampler n f s).cfg = s.cfg := rfl
@[simp] theorem modSampler_ld (n : Fin 16) (f : SamplerState → SamplerState) : (modSampler n f s).ld = s.ld := rfl
@[simp] theorem modSampler_otp (n : Fin 16) (f : SamplerState → SamplerState) : (modSampler n f s).otp = s.otp := rfl
@[simp] theorem modSampler_rep (n : Fin 16) (f : SamplerState → SamplerState) : (modSampler n f s).rep = s.rep := rfl
@[simp] theorem modSampler_pd0 (n : Fin 16) (f : SamplerState → SamplerState) : (modSampler n f s).pd0 = s.pd0 := rfl
@[simp] theorem modSampler_avs (n : Fin 16) (f : SamplerState → SamplerState) : (modSampler n f s).avs = s.avs := rfl
@[simp] theorem modSampler_mon (n : Fin 16) (f : SamplerState → SamplerState) : (modSampler n f s).mon = s.mon := rfl
@[simp] theorem modSampler_pwr (n : Fin 16) (f : SamplerState → SamplerState) : (modSampler n f s).pwr = s.pwr := rfl
@[simp] theorem modSampler_refs (n : Fin 16) (f : SamplerState → SamplerState) : (modSampler n f s).refs = s.refs := rfl
@[simp] theorem modSampler_gov (n : Fin 16) (f : SamplerState → SamplerState) : (modSampler n f s).gov = s.gov := rfl
@[simp] theorem modSampler_ho (n : Fin 16) (f : SamplerState → SamplerState) : (modSampler n f s).ho = s.ho := rfl
@[simp] theorem modSampler_outs (n : Fin 16) (f : SamplerState → SamplerState) : (modSampler n f s).outs = s.outs := rfl
@[simp] theorem modSampler_ic (n : Fin 16) (f : SamplerState → SamplerState) : (modSampler n f s).ic = s.ic := rfl
@[simp] theorem modSampler_gnss (n : Fin 16) (f : SamplerState → SamplerState) : (modSampler n f s).gnss = s.gnss := rfl
@[simp] theorem modSampler_core (n : Fin 16) (f : SamplerState → SamplerState) : (modSampler n f s).core = s.core := rfl
@[simp] theorem modSampler_garner (n : Fin 16) (f : SamplerState → SamplerState) : (modSampler n f s).garner = s.garner := rfl
@[simp] theorem modSampler_ports (n : Fin 16) (f : SamplerState → SamplerState) : (modSampler n f s).ports = s.ports := rfl
@[simp] theorem modSampler_weir (n : Fin 16) (f : SamplerState → SamplerState) : (modSampler n f s).weir = s.weir := rfl
@[simp] theorem modSampler_ntp (n : Fin 16) (f : SamplerState → SamplerState) : (modSampler n f s).ntp = s.ntp := rfl
@[simp] theorem modSampler_cli (n : Fin 16) (f : SamplerState → SamplerState) : (modSampler n f s).cli = s.cli := rfl
@[simp] theorem modSampler_leat (n : Fin 16) (f : SamplerState → SamplerState) : (modSampler n f s).leat = s.leat := rfl
@[simp] theorem modSampler_dress (n : Fin 16) (f : SamplerState → SamplerState) : (modSampler n f s).dress = s.dress := rfl

/-! `modTs` -/

@[simp] theorem modTs_pending (f : Timescale → Timescale) : (modTs f s).pending = s.pending := rfl
@[simp] theorem modTs_out (f : Timescale → Timescale) : (modTs f s).out = s.out := rfl
@[simp] theorem modTs_wire (f : Timescale → Timescale) : (modTs f s).wire = s.wire := rfl
@[simp] theorem modTs_notes (f : Timescale → Timescale) : (modTs f s).notes = s.notes := rfl
@[simp] theorem modTs_clk (f : Timescale → Timescale) : (modTs f s).clk = s.clk := rfl
@[simp] theorem modTs_tb (f : Timescale → Timescale) : (modTs f s).tb = s.tb := rfl
@[simp] theorem modTs_ts (f : Timescale → Timescale) : (modTs f s).ts = f s.ts := rfl
@[simp] theorem modTs_pll (f : Timescale → Timescale) : (modTs f s).pll = s.pll := rfl
@[simp] theorem modTs_cfg (f : Timescale → Timescale) : (modTs f s).cfg = s.cfg := rfl
@[simp] theorem modTs_ld (f : Timescale → Timescale) : (modTs f s).ld = s.ld := rfl
@[simp] theorem modTs_otp (f : Timescale → Timescale) : (modTs f s).otp = s.otp := rfl
@[simp] theorem modTs_rep (f : Timescale → Timescale) : (modTs f s).rep = s.rep := rfl
@[simp] theorem modTs_tele (f : Timescale → Timescale) : (modTs f s).tele = s.tele := rfl
@[simp] theorem modTs_pd0 (f : Timescale → Timescale) : (modTs f s).pd0 = s.pd0 := rfl
@[simp] theorem modTs_avs (f : Timescale → Timescale) : (modTs f s).avs = s.avs := rfl
@[simp] theorem modTs_mon (f : Timescale → Timescale) : (modTs f s).mon = s.mon := rfl
@[simp] theorem modTs_pwr (f : Timescale → Timescale) : (modTs f s).pwr = s.pwr := rfl
@[simp] theorem modTs_refs (f : Timescale → Timescale) : (modTs f s).refs = s.refs := rfl
@[simp] theorem modTs_gov (f : Timescale → Timescale) : (modTs f s).gov = s.gov := rfl
@[simp] theorem modTs_ho (f : Timescale → Timescale) : (modTs f s).ho = s.ho := rfl
@[simp] theorem modTs_outs (f : Timescale → Timescale) : (modTs f s).outs = s.outs := rfl
@[simp] theorem modTs_ic (f : Timescale → Timescale) : (modTs f s).ic = s.ic := rfl
@[simp] theorem modTs_gnss (f : Timescale → Timescale) : (modTs f s).gnss = s.gnss := rfl
@[simp] theorem modTs_core (f : Timescale → Timescale) : (modTs f s).core = s.core := rfl
@[simp] theorem modTs_garner (f : Timescale → Timescale) : (modTs f s).garner = s.garner := rfl
@[simp] theorem modTs_ports (f : Timescale → Timescale) : (modTs f s).ports = s.ports := rfl
@[simp] theorem modTs_weir (f : Timescale → Timescale) : (modTs f s).weir = s.weir := rfl
@[simp] theorem modTs_ntp (f : Timescale → Timescale) : (modTs f s).ntp = s.ntp := rfl
@[simp] theorem modTs_cli (f : Timescale → Timescale) : (modTs f s).cli = s.cli := rfl
@[simp] theorem modTs_leat (f : Timescale → Timescale) : (modTs f s).leat = s.leat := rfl
@[simp] theorem modTs_dress (f : Timescale → Timescale) : (modTs f s).dress = s.dress := rfl

/-! `modPll` -/

@[simp] theorem modPll_pending (f : Pll → Pll) : (modPll f s).pending = s.pending := rfl
@[simp] theorem modPll_out (f : Pll → Pll) : (modPll f s).out = s.out := rfl
@[simp] theorem modPll_wire (f : Pll → Pll) : (modPll f s).wire = s.wire := rfl
@[simp] theorem modPll_notes (f : Pll → Pll) : (modPll f s).notes = s.notes := rfl
@[simp] theorem modPll_clk (f : Pll → Pll) : (modPll f s).clk = s.clk := rfl
@[simp] theorem modPll_tb (f : Pll → Pll) : (modPll f s).tb = s.tb := rfl
@[simp] theorem modPll_ts (f : Pll → Pll) : (modPll f s).ts = s.ts := rfl
@[simp] theorem modPll_pll (f : Pll → Pll) : (modPll f s).pll = f s.pll := rfl
@[simp] theorem modPll_cfg (f : Pll → Pll) : (modPll f s).cfg = s.cfg := rfl
@[simp] theorem modPll_ld (f : Pll → Pll) : (modPll f s).ld = s.ld := rfl
@[simp] theorem modPll_otp (f : Pll → Pll) : (modPll f s).otp = s.otp := rfl
@[simp] theorem modPll_rep (f : Pll → Pll) : (modPll f s).rep = s.rep := rfl
@[simp] theorem modPll_tele (f : Pll → Pll) : (modPll f s).tele = s.tele := rfl
@[simp] theorem modPll_pd0 (f : Pll → Pll) : (modPll f s).pd0 = s.pd0 := rfl
@[simp] theorem modPll_avs (f : Pll → Pll) : (modPll f s).avs = s.avs := rfl
@[simp] theorem modPll_mon (f : Pll → Pll) : (modPll f s).mon = s.mon := rfl
@[simp] theorem modPll_pwr (f : Pll → Pll) : (modPll f s).pwr = s.pwr := rfl
@[simp] theorem modPll_refs (f : Pll → Pll) : (modPll f s).refs = s.refs := rfl
@[simp] theorem modPll_gov (f : Pll → Pll) : (modPll f s).gov = s.gov := rfl
@[simp] theorem modPll_ho (f : Pll → Pll) : (modPll f s).ho = s.ho := rfl
@[simp] theorem modPll_outs (f : Pll → Pll) : (modPll f s).outs = s.outs := rfl
@[simp] theorem modPll_ic (f : Pll → Pll) : (modPll f s).ic = s.ic := rfl
@[simp] theorem modPll_gnss (f : Pll → Pll) : (modPll f s).gnss = s.gnss := rfl
@[simp] theorem modPll_core (f : Pll → Pll) : (modPll f s).core = s.core := rfl
@[simp] theorem modPll_garner (f : Pll → Pll) : (modPll f s).garner = s.garner := rfl
@[simp] theorem modPll_ports (f : Pll → Pll) : (modPll f s).ports = s.ports := rfl
@[simp] theorem modPll_weir (f : Pll → Pll) : (modPll f s).weir = s.weir := rfl
@[simp] theorem modPll_ntp (f : Pll → Pll) : (modPll f s).ntp = s.ntp := rfl
@[simp] theorem modPll_cli (f : Pll → Pll) : (modPll f s).cli = s.cli := rfl
@[simp] theorem modPll_leat (f : Pll → Pll) : (modPll f s).leat = s.leat := rfl
@[simp] theorem modPll_dress (f : Pll → Pll) : (modPll f s).dress = s.dress := rfl

/-! `modRef` -/

@[simp] theorem modRef_pending (n : Fin 13) (f : RefSlot → RefSlot) : (modRef n f s).pending = s.pending := rfl
@[simp] theorem modRef_out (n : Fin 13) (f : RefSlot → RefSlot) : (modRef n f s).out = s.out := rfl
@[simp] theorem modRef_wire (n : Fin 13) (f : RefSlot → RefSlot) : (modRef n f s).wire = s.wire := rfl
@[simp] theorem modRef_notes (n : Fin 13) (f : RefSlot → RefSlot) : (modRef n f s).notes = s.notes := rfl
@[simp] theorem modRef_clk (n : Fin 13) (f : RefSlot → RefSlot) : (modRef n f s).clk = s.clk := rfl
@[simp] theorem modRef_tb (n : Fin 13) (f : RefSlot → RefSlot) : (modRef n f s).tb = s.tb := rfl
@[simp] theorem modRef_ts (n : Fin 13) (f : RefSlot → RefSlot) : (modRef n f s).ts = s.ts := rfl
@[simp] theorem modRef_pll (n : Fin 13) (f : RefSlot → RefSlot) : (modRef n f s).pll = s.pll := rfl
@[simp] theorem modRef_cfg (n : Fin 13) (f : RefSlot → RefSlot) : (modRef n f s).cfg = s.cfg := rfl
@[simp] theorem modRef_ld (n : Fin 13) (f : RefSlot → RefSlot) : (modRef n f s).ld = s.ld := rfl
@[simp] theorem modRef_otp (n : Fin 13) (f : RefSlot → RefSlot) : (modRef n f s).otp = s.otp := rfl
@[simp] theorem modRef_rep (n : Fin 13) (f : RefSlot → RefSlot) : (modRef n f s).rep = s.rep := rfl
@[simp] theorem modRef_tele (n : Fin 13) (f : RefSlot → RefSlot) : (modRef n f s).tele = s.tele := rfl
@[simp] theorem modRef_pd0 (n : Fin 13) (f : RefSlot → RefSlot) : (modRef n f s).pd0 = s.pd0 := rfl
@[simp] theorem modRef_avs (n : Fin 13) (f : RefSlot → RefSlot) : (modRef n f s).avs = s.avs := rfl
@[simp] theorem modRef_mon (n : Fin 13) (f : RefSlot → RefSlot) : (modRef n f s).mon = s.mon := rfl
@[simp] theorem modRef_pwr (n : Fin 13) (f : RefSlot → RefSlot) : (modRef n f s).pwr = s.pwr := rfl
@[simp] theorem modRef_refs (n : Fin 13) (f : RefSlot → RefSlot) : (modRef n f s).refs = s.refs.set n (f s.refs[n]) := rfl
@[simp] theorem modRef_gov (n : Fin 13) (f : RefSlot → RefSlot) : (modRef n f s).gov = s.gov := rfl
@[simp] theorem modRef_ho (n : Fin 13) (f : RefSlot → RefSlot) : (modRef n f s).ho = s.ho := rfl
@[simp] theorem modRef_outs (n : Fin 13) (f : RefSlot → RefSlot) : (modRef n f s).outs = s.outs := rfl
@[simp] theorem modRef_ic (n : Fin 13) (f : RefSlot → RefSlot) : (modRef n f s).ic = s.ic := rfl
@[simp] theorem modRef_gnss (n : Fin 13) (f : RefSlot → RefSlot) : (modRef n f s).gnss = s.gnss := rfl
@[simp] theorem modRef_core (n : Fin 13) (f : RefSlot → RefSlot) : (modRef n f s).core = s.core := rfl
@[simp] theorem modRef_garner (n : Fin 13) (f : RefSlot → RefSlot) : (modRef n f s).garner = s.garner := rfl
@[simp] theorem modRef_ports (n : Fin 13) (f : RefSlot → RefSlot) : (modRef n f s).ports = s.ports := rfl
@[simp] theorem modRef_weir (n : Fin 13) (f : RefSlot → RefSlot) : (modRef n f s).weir = s.weir := rfl
@[simp] theorem modRef_ntp (n : Fin 13) (f : RefSlot → RefSlot) : (modRef n f s).ntp = s.ntp := rfl
@[simp] theorem modRef_cli (n : Fin 13) (f : RefSlot → RefSlot) : (modRef n f s).cli = s.cli := rfl
@[simp] theorem modRef_leat (n : Fin 13) (f : RefSlot → RefSlot) : (modRef n f s).leat = s.leat := rfl
@[simp] theorem modRef_dress (n : Fin 13) (f : RefSlot → RefSlot) : (modRef n f s).dress = s.dress := rfl

/-! `modGov` -/

@[simp] theorem modGov_pending (f : Governor → Governor) : (modGov f s).pending = s.pending := rfl
@[simp] theorem modGov_out (f : Governor → Governor) : (modGov f s).out = s.out := rfl
@[simp] theorem modGov_wire (f : Governor → Governor) : (modGov f s).wire = s.wire := rfl
@[simp] theorem modGov_notes (f : Governor → Governor) : (modGov f s).notes = s.notes := rfl
@[simp] theorem modGov_clk (f : Governor → Governor) : (modGov f s).clk = s.clk := rfl
@[simp] theorem modGov_tb (f : Governor → Governor) : (modGov f s).tb = s.tb := rfl
@[simp] theorem modGov_ts (f : Governor → Governor) : (modGov f s).ts = s.ts := rfl
@[simp] theorem modGov_pll (f : Governor → Governor) : (modGov f s).pll = s.pll := rfl
@[simp] theorem modGov_cfg (f : Governor → Governor) : (modGov f s).cfg = s.cfg := rfl
@[simp] theorem modGov_ld (f : Governor → Governor) : (modGov f s).ld = s.ld := rfl
@[simp] theorem modGov_otp (f : Governor → Governor) : (modGov f s).otp = s.otp := rfl
@[simp] theorem modGov_rep (f : Governor → Governor) : (modGov f s).rep = s.rep := rfl
@[simp] theorem modGov_tele (f : Governor → Governor) : (modGov f s).tele = s.tele := rfl
@[simp] theorem modGov_pd0 (f : Governor → Governor) : (modGov f s).pd0 = s.pd0 := rfl
@[simp] theorem modGov_avs (f : Governor → Governor) : (modGov f s).avs = s.avs := rfl
@[simp] theorem modGov_mon (f : Governor → Governor) : (modGov f s).mon = s.mon := rfl
@[simp] theorem modGov_pwr (f : Governor → Governor) : (modGov f s).pwr = s.pwr := rfl
@[simp] theorem modGov_refs (f : Governor → Governor) : (modGov f s).refs = s.refs := rfl
@[simp] theorem modGov_gov (f : Governor → Governor) : (modGov f s).gov = f s.gov := rfl
@[simp] theorem modGov_ho (f : Governor → Governor) : (modGov f s).ho = s.ho := rfl
@[simp] theorem modGov_outs (f : Governor → Governor) : (modGov f s).outs = s.outs := rfl
@[simp] theorem modGov_ic (f : Governor → Governor) : (modGov f s).ic = s.ic := rfl
@[simp] theorem modGov_gnss (f : Governor → Governor) : (modGov f s).gnss = s.gnss := rfl
@[simp] theorem modGov_core (f : Governor → Governor) : (modGov f s).core = s.core := rfl
@[simp] theorem modGov_garner (f : Governor → Governor) : (modGov f s).garner = s.garner := rfl
@[simp] theorem modGov_ports (f : Governor → Governor) : (modGov f s).ports = s.ports := rfl
@[simp] theorem modGov_weir (f : Governor → Governor) : (modGov f s).weir = s.weir := rfl
@[simp] theorem modGov_ntp (f : Governor → Governor) : (modGov f s).ntp = s.ntp := rfl
@[simp] theorem modGov_cli (f : Governor → Governor) : (modGov f s).cli = s.cli := rfl
@[simp] theorem modGov_leat (f : Governor → Governor) : (modGov f s).leat = s.leat := rfl
@[simp] theorem modGov_dress (f : Governor → Governor) : (modGov f s).dress = s.dress := rfl

/-! `modHo` -/

@[simp] theorem modHo_pending (f : Holdover → Holdover) : (modHo f s).pending = s.pending := rfl
@[simp] theorem modHo_out (f : Holdover → Holdover) : (modHo f s).out = s.out := rfl
@[simp] theorem modHo_wire (f : Holdover → Holdover) : (modHo f s).wire = s.wire := rfl
@[simp] theorem modHo_notes (f : Holdover → Holdover) : (modHo f s).notes = s.notes := rfl
@[simp] theorem modHo_clk (f : Holdover → Holdover) : (modHo f s).clk = s.clk := rfl
@[simp] theorem modHo_tb (f : Holdover → Holdover) : (modHo f s).tb = s.tb := rfl
@[simp] theorem modHo_ts (f : Holdover → Holdover) : (modHo f s).ts = s.ts := rfl
@[simp] theorem modHo_pll (f : Holdover → Holdover) : (modHo f s).pll = s.pll := rfl
@[simp] theorem modHo_cfg (f : Holdover → Holdover) : (modHo f s).cfg = s.cfg := rfl
@[simp] theorem modHo_ld (f : Holdover → Holdover) : (modHo f s).ld = s.ld := rfl
@[simp] theorem modHo_otp (f : Holdover → Holdover) : (modHo f s).otp = s.otp := rfl
@[simp] theorem modHo_rep (f : Holdover → Holdover) : (modHo f s).rep = s.rep := rfl
@[simp] theorem modHo_tele (f : Holdover → Holdover) : (modHo f s).tele = s.tele := rfl
@[simp] theorem modHo_pd0 (f : Holdover → Holdover) : (modHo f s).pd0 = s.pd0 := rfl
@[simp] theorem modHo_avs (f : Holdover → Holdover) : (modHo f s).avs = s.avs := rfl
@[simp] theorem modHo_mon (f : Holdover → Holdover) : (modHo f s).mon = s.mon := rfl
@[simp] theorem modHo_pwr (f : Holdover → Holdover) : (modHo f s).pwr = s.pwr := rfl
@[simp] theorem modHo_refs (f : Holdover → Holdover) : (modHo f s).refs = s.refs := rfl
@[simp] theorem modHo_gov (f : Holdover → Holdover) : (modHo f s).gov = s.gov := rfl
@[simp] theorem modHo_ho (f : Holdover → Holdover) : (modHo f s).ho = f s.ho := rfl
@[simp] theorem modHo_outs (f : Holdover → Holdover) : (modHo f s).outs = s.outs := rfl
@[simp] theorem modHo_ic (f : Holdover → Holdover) : (modHo f s).ic = s.ic := rfl
@[simp] theorem modHo_gnss (f : Holdover → Holdover) : (modHo f s).gnss = s.gnss := rfl
@[simp] theorem modHo_core (f : Holdover → Holdover) : (modHo f s).core = s.core := rfl
@[simp] theorem modHo_garner (f : Holdover → Holdover) : (modHo f s).garner = s.garner := rfl
@[simp] theorem modHo_ports (f : Holdover → Holdover) : (modHo f s).ports = s.ports := rfl
@[simp] theorem modHo_weir (f : Holdover → Holdover) : (modHo f s).weir = s.weir := rfl
@[simp] theorem modHo_ntp (f : Holdover → Holdover) : (modHo f s).ntp = s.ntp := rfl
@[simp] theorem modHo_cli (f : Holdover → Holdover) : (modHo f s).cli = s.cli := rfl
@[simp] theorem modHo_leat (f : Holdover → Holdover) : (modHo f s).leat = s.leat := rfl
@[simp] theorem modHo_dress (f : Holdover → Holdover) : (modHo f s).dress = s.dress := rfl

/-! `modOuts` -/

@[simp] theorem modOuts_pending (f : Outputs → Outputs) : (modOuts f s).pending = s.pending := rfl
@[simp] theorem modOuts_out (f : Outputs → Outputs) : (modOuts f s).out = s.out := rfl
@[simp] theorem modOuts_wire (f : Outputs → Outputs) : (modOuts f s).wire = s.wire := rfl
@[simp] theorem modOuts_notes (f : Outputs → Outputs) : (modOuts f s).notes = s.notes := rfl
@[simp] theorem modOuts_clk (f : Outputs → Outputs) : (modOuts f s).clk = s.clk := rfl
@[simp] theorem modOuts_tb (f : Outputs → Outputs) : (modOuts f s).tb = s.tb := rfl
@[simp] theorem modOuts_ts (f : Outputs → Outputs) : (modOuts f s).ts = s.ts := rfl
@[simp] theorem modOuts_pll (f : Outputs → Outputs) : (modOuts f s).pll = s.pll := rfl
@[simp] theorem modOuts_cfg (f : Outputs → Outputs) : (modOuts f s).cfg = s.cfg := rfl
@[simp] theorem modOuts_ld (f : Outputs → Outputs) : (modOuts f s).ld = s.ld := rfl
@[simp] theorem modOuts_otp (f : Outputs → Outputs) : (modOuts f s).otp = s.otp := rfl
@[simp] theorem modOuts_rep (f : Outputs → Outputs) : (modOuts f s).rep = s.rep := rfl
@[simp] theorem modOuts_tele (f : Outputs → Outputs) : (modOuts f s).tele = s.tele := rfl
@[simp] theorem modOuts_pd0 (f : Outputs → Outputs) : (modOuts f s).pd0 = s.pd0 := rfl
@[simp] theorem modOuts_avs (f : Outputs → Outputs) : (modOuts f s).avs = s.avs := rfl
@[simp] theorem modOuts_mon (f : Outputs → Outputs) : (modOuts f s).mon = s.mon := rfl
@[simp] theorem modOuts_pwr (f : Outputs → Outputs) : (modOuts f s).pwr = s.pwr := rfl
@[simp] theorem modOuts_refs (f : Outputs → Outputs) : (modOuts f s).refs = s.refs := rfl
@[simp] theorem modOuts_gov (f : Outputs → Outputs) : (modOuts f s).gov = s.gov := rfl
@[simp] theorem modOuts_ho (f : Outputs → Outputs) : (modOuts f s).ho = s.ho := rfl
@[simp] theorem modOuts_outs (f : Outputs → Outputs) : (modOuts f s).outs = f s.outs := rfl
@[simp] theorem modOuts_ic (f : Outputs → Outputs) : (modOuts f s).ic = s.ic := rfl
@[simp] theorem modOuts_gnss (f : Outputs → Outputs) : (modOuts f s).gnss = s.gnss := rfl
@[simp] theorem modOuts_core (f : Outputs → Outputs) : (modOuts f s).core = s.core := rfl
@[simp] theorem modOuts_garner (f : Outputs → Outputs) : (modOuts f s).garner = s.garner := rfl
@[simp] theorem modOuts_ports (f : Outputs → Outputs) : (modOuts f s).ports = s.ports := rfl
@[simp] theorem modOuts_weir (f : Outputs → Outputs) : (modOuts f s).weir = s.weir := rfl
@[simp] theorem modOuts_ntp (f : Outputs → Outputs) : (modOuts f s).ntp = s.ntp := rfl
@[simp] theorem modOuts_cli (f : Outputs → Outputs) : (modOuts f s).cli = s.cli := rfl
@[simp] theorem modOuts_leat (f : Outputs → Outputs) : (modOuts f s).leat = s.leat := rfl
@[simp] theorem modOuts_dress (f : Outputs → Outputs) : (modOuts f s).dress = s.dress := rfl

/-! `modPps` -/

@[simp] theorem modPps_pending (n : Fin 4) (f : PpsOut → PpsOut) : (modPps n f s).pending = s.pending := rfl
@[simp] theorem modPps_out (n : Fin 4) (f : PpsOut → PpsOut) : (modPps n f s).out = s.out := rfl
@[simp] theorem modPps_wire (n : Fin 4) (f : PpsOut → PpsOut) : (modPps n f s).wire = s.wire := rfl
@[simp] theorem modPps_notes (n : Fin 4) (f : PpsOut → PpsOut) : (modPps n f s).notes = s.notes := rfl
@[simp] theorem modPps_clk (n : Fin 4) (f : PpsOut → PpsOut) : (modPps n f s).clk = s.clk := rfl
@[simp] theorem modPps_tb (n : Fin 4) (f : PpsOut → PpsOut) : (modPps n f s).tb = s.tb := rfl
@[simp] theorem modPps_ts (n : Fin 4) (f : PpsOut → PpsOut) : (modPps n f s).ts = s.ts := rfl
@[simp] theorem modPps_pll (n : Fin 4) (f : PpsOut → PpsOut) : (modPps n f s).pll = s.pll := rfl
@[simp] theorem modPps_cfg (n : Fin 4) (f : PpsOut → PpsOut) : (modPps n f s).cfg = s.cfg := rfl
@[simp] theorem modPps_ld (n : Fin 4) (f : PpsOut → PpsOut) : (modPps n f s).ld = s.ld := rfl
@[simp] theorem modPps_otp (n : Fin 4) (f : PpsOut → PpsOut) : (modPps n f s).otp = s.otp := rfl
@[simp] theorem modPps_rep (n : Fin 4) (f : PpsOut → PpsOut) : (modPps n f s).rep = s.rep := rfl
@[simp] theorem modPps_tele (n : Fin 4) (f : PpsOut → PpsOut) : (modPps n f s).tele = s.tele := rfl
@[simp] theorem modPps_pd0 (n : Fin 4) (f : PpsOut → PpsOut) : (modPps n f s).pd0 = s.pd0 := rfl
@[simp] theorem modPps_avs (n : Fin 4) (f : PpsOut → PpsOut) : (modPps n f s).avs = s.avs := rfl
@[simp] theorem modPps_mon (n : Fin 4) (f : PpsOut → PpsOut) : (modPps n f s).mon = s.mon := rfl
@[simp] theorem modPps_pwr (n : Fin 4) (f : PpsOut → PpsOut) : (modPps n f s).pwr = s.pwr := rfl
@[simp] theorem modPps_refs (n : Fin 4) (f : PpsOut → PpsOut) : (modPps n f s).refs = s.refs := rfl
@[simp] theorem modPps_gov (n : Fin 4) (f : PpsOut → PpsOut) : (modPps n f s).gov = s.gov := rfl
@[simp] theorem modPps_ho (n : Fin 4) (f : PpsOut → PpsOut) : (modPps n f s).ho = s.ho := rfl
@[simp] theorem modPps_outs (n : Fin 4) (f : PpsOut → PpsOut) : (modPps n f s).outs = { s.outs with pps := s.outs.pps.set n (f s.outs.pps[n]) } := rfl
@[simp] theorem modPps_ic (n : Fin 4) (f : PpsOut → PpsOut) : (modPps n f s).ic = s.ic := rfl
@[simp] theorem modPps_gnss (n : Fin 4) (f : PpsOut → PpsOut) : (modPps n f s).gnss = s.gnss := rfl
@[simp] theorem modPps_core (n : Fin 4) (f : PpsOut → PpsOut) : (modPps n f s).core = s.core := rfl
@[simp] theorem modPps_garner (n : Fin 4) (f : PpsOut → PpsOut) : (modPps n f s).garner = s.garner := rfl
@[simp] theorem modPps_ports (n : Fin 4) (f : PpsOut → PpsOut) : (modPps n f s).ports = s.ports := rfl
@[simp] theorem modPps_weir (n : Fin 4) (f : PpsOut → PpsOut) : (modPps n f s).weir = s.weir := rfl
@[simp] theorem modPps_ntp (n : Fin 4) (f : PpsOut → PpsOut) : (modPps n f s).ntp = s.ntp := rfl
@[simp] theorem modPps_cli (n : Fin 4) (f : PpsOut → PpsOut) : (modPps n f s).cli = s.cli := rfl
@[simp] theorem modPps_leat (n : Fin 4) (f : PpsOut → PpsOut) : (modPps n f s).leat = s.leat := rfl
@[simp] theorem modPps_dress (n : Fin 4) (f : PpsOut → PpsOut) : (modPps n f s).dress = s.dress := rfl

/-! `modClk` -/

@[simp] theorem modClk_pending (n : Fin 2) (f : ClkOut → ClkOut) : (modClk n f s).pending = s.pending := rfl
@[simp] theorem modClk_out (n : Fin 2) (f : ClkOut → ClkOut) : (modClk n f s).out = s.out := rfl
@[simp] theorem modClk_wire (n : Fin 2) (f : ClkOut → ClkOut) : (modClk n f s).wire = s.wire := rfl
@[simp] theorem modClk_notes (n : Fin 2) (f : ClkOut → ClkOut) : (modClk n f s).notes = s.notes := rfl
@[simp] theorem modClk_clk (n : Fin 2) (f : ClkOut → ClkOut) : (modClk n f s).clk = s.clk := rfl
@[simp] theorem modClk_tb (n : Fin 2) (f : ClkOut → ClkOut) : (modClk n f s).tb = s.tb := rfl
@[simp] theorem modClk_ts (n : Fin 2) (f : ClkOut → ClkOut) : (modClk n f s).ts = s.ts := rfl
@[simp] theorem modClk_pll (n : Fin 2) (f : ClkOut → ClkOut) : (modClk n f s).pll = s.pll := rfl
@[simp] theorem modClk_cfg (n : Fin 2) (f : ClkOut → ClkOut) : (modClk n f s).cfg = s.cfg := rfl
@[simp] theorem modClk_ld (n : Fin 2) (f : ClkOut → ClkOut) : (modClk n f s).ld = s.ld := rfl
@[simp] theorem modClk_otp (n : Fin 2) (f : ClkOut → ClkOut) : (modClk n f s).otp = s.otp := rfl
@[simp] theorem modClk_rep (n : Fin 2) (f : ClkOut → ClkOut) : (modClk n f s).rep = s.rep := rfl
@[simp] theorem modClk_tele (n : Fin 2) (f : ClkOut → ClkOut) : (modClk n f s).tele = s.tele := rfl
@[simp] theorem modClk_pd0 (n : Fin 2) (f : ClkOut → ClkOut) : (modClk n f s).pd0 = s.pd0 := rfl
@[simp] theorem modClk_avs (n : Fin 2) (f : ClkOut → ClkOut) : (modClk n f s).avs = s.avs := rfl
@[simp] theorem modClk_mon (n : Fin 2) (f : ClkOut → ClkOut) : (modClk n f s).mon = s.mon := rfl
@[simp] theorem modClk_pwr (n : Fin 2) (f : ClkOut → ClkOut) : (modClk n f s).pwr = s.pwr := rfl
@[simp] theorem modClk_refs (n : Fin 2) (f : ClkOut → ClkOut) : (modClk n f s).refs = s.refs := rfl
@[simp] theorem modClk_gov (n : Fin 2) (f : ClkOut → ClkOut) : (modClk n f s).gov = s.gov := rfl
@[simp] theorem modClk_ho (n : Fin 2) (f : ClkOut → ClkOut) : (modClk n f s).ho = s.ho := rfl
@[simp] theorem modClk_outs (n : Fin 2) (f : ClkOut → ClkOut) : (modClk n f s).outs = { s.outs with clk := s.outs.clk.set n (f s.outs.clk[n]) } := rfl
@[simp] theorem modClk_ic (n : Fin 2) (f : ClkOut → ClkOut) : (modClk n f s).ic = s.ic := rfl
@[simp] theorem modClk_gnss (n : Fin 2) (f : ClkOut → ClkOut) : (modClk n f s).gnss = s.gnss := rfl
@[simp] theorem modClk_core (n : Fin 2) (f : ClkOut → ClkOut) : (modClk n f s).core = s.core := rfl
@[simp] theorem modClk_garner (n : Fin 2) (f : ClkOut → ClkOut) : (modClk n f s).garner = s.garner := rfl
@[simp] theorem modClk_ports (n : Fin 2) (f : ClkOut → ClkOut) : (modClk n f s).ports = s.ports := rfl
@[simp] theorem modClk_weir (n : Fin 2) (f : ClkOut → ClkOut) : (modClk n f s).weir = s.weir := rfl
@[simp] theorem modClk_ntp (n : Fin 2) (f : ClkOut → ClkOut) : (modClk n f s).ntp = s.ntp := rfl
@[simp] theorem modClk_cli (n : Fin 2) (f : ClkOut → ClkOut) : (modClk n f s).cli = s.cli := rfl
@[simp] theorem modClk_leat (n : Fin 2) (f : ClkOut → ClkOut) : (modClk n f s).leat = s.leat := rfl
@[simp] theorem modClk_dress (n : Fin 2) (f : ClkOut → ClkOut) : (modClk n f s).dress = s.dress := rfl

/-! `modIc` -/

@[simp] theorem modIc_pending (f : IntervalCounter → IntervalCounter) : (modIc f s).pending = s.pending := rfl
@[simp] theorem modIc_out (f : IntervalCounter → IntervalCounter) : (modIc f s).out = s.out := rfl
@[simp] theorem modIc_wire (f : IntervalCounter → IntervalCounter) : (modIc f s).wire = s.wire := rfl
@[simp] theorem modIc_notes (f : IntervalCounter → IntervalCounter) : (modIc f s).notes = s.notes := rfl
@[simp] theorem modIc_clk (f : IntervalCounter → IntervalCounter) : (modIc f s).clk = s.clk := rfl
@[simp] theorem modIc_tb (f : IntervalCounter → IntervalCounter) : (modIc f s).tb = s.tb := rfl
@[simp] theorem modIc_ts (f : IntervalCounter → IntervalCounter) : (modIc f s).ts = s.ts := rfl
@[simp] theorem modIc_pll (f : IntervalCounter → IntervalCounter) : (modIc f s).pll = s.pll := rfl
@[simp] theorem modIc_cfg (f : IntervalCounter → IntervalCounter) : (modIc f s).cfg = s.cfg := rfl
@[simp] theorem modIc_ld (f : IntervalCounter → IntervalCounter) : (modIc f s).ld = s.ld := rfl
@[simp] theorem modIc_otp (f : IntervalCounter → IntervalCounter) : (modIc f s).otp = s.otp := rfl
@[simp] theorem modIc_rep (f : IntervalCounter → IntervalCounter) : (modIc f s).rep = s.rep := rfl
@[simp] theorem modIc_tele (f : IntervalCounter → IntervalCounter) : (modIc f s).tele = s.tele := rfl
@[simp] theorem modIc_pd0 (f : IntervalCounter → IntervalCounter) : (modIc f s).pd0 = s.pd0 := rfl
@[simp] theorem modIc_avs (f : IntervalCounter → IntervalCounter) : (modIc f s).avs = s.avs := rfl
@[simp] theorem modIc_mon (f : IntervalCounter → IntervalCounter) : (modIc f s).mon = s.mon := rfl
@[simp] theorem modIc_pwr (f : IntervalCounter → IntervalCounter) : (modIc f s).pwr = s.pwr := rfl
@[simp] theorem modIc_refs (f : IntervalCounter → IntervalCounter) : (modIc f s).refs = s.refs := rfl
@[simp] theorem modIc_gov (f : IntervalCounter → IntervalCounter) : (modIc f s).gov = s.gov := rfl
@[simp] theorem modIc_ho (f : IntervalCounter → IntervalCounter) : (modIc f s).ho = s.ho := rfl
@[simp] theorem modIc_outs (f : IntervalCounter → IntervalCounter) : (modIc f s).outs = s.outs := rfl
@[simp] theorem modIc_ic (f : IntervalCounter → IntervalCounter) : (modIc f s).ic = f s.ic := rfl
@[simp] theorem modIc_gnss (f : IntervalCounter → IntervalCounter) : (modIc f s).gnss = s.gnss := rfl
@[simp] theorem modIc_core (f : IntervalCounter → IntervalCounter) : (modIc f s).core = s.core := rfl
@[simp] theorem modIc_garner (f : IntervalCounter → IntervalCounter) : (modIc f s).garner = s.garner := rfl
@[simp] theorem modIc_ports (f : IntervalCounter → IntervalCounter) : (modIc f s).ports = s.ports := rfl
@[simp] theorem modIc_weir (f : IntervalCounter → IntervalCounter) : (modIc f s).weir = s.weir := rfl
@[simp] theorem modIc_ntp (f : IntervalCounter → IntervalCounter) : (modIc f s).ntp = s.ntp := rfl
@[simp] theorem modIc_cli (f : IntervalCounter → IntervalCounter) : (modIc f s).cli = s.cli := rfl
@[simp] theorem modIc_leat (f : IntervalCounter → IntervalCounter) : (modIc f s).leat = s.leat := rfl
@[simp] theorem modIc_dress (f : IntervalCounter → IntervalCounter) : (modIc f s).dress = s.dress := rfl

/-! `modStop` -/

@[simp] theorem modStop_pending (n : Fin 8) (f : IcStop → IcStop) : (modStop n f s).pending = s.pending := rfl
@[simp] theorem modStop_out (n : Fin 8) (f : IcStop → IcStop) : (modStop n f s).out = s.out := rfl
@[simp] theorem modStop_wire (n : Fin 8) (f : IcStop → IcStop) : (modStop n f s).wire = s.wire := rfl
@[simp] theorem modStop_notes (n : Fin 8) (f : IcStop → IcStop) : (modStop n f s).notes = s.notes := rfl
@[simp] theorem modStop_clk (n : Fin 8) (f : IcStop → IcStop) : (modStop n f s).clk = s.clk := rfl
@[simp] theorem modStop_tb (n : Fin 8) (f : IcStop → IcStop) : (modStop n f s).tb = s.tb := rfl
@[simp] theorem modStop_ts (n : Fin 8) (f : IcStop → IcStop) : (modStop n f s).ts = s.ts := rfl
@[simp] theorem modStop_pll (n : Fin 8) (f : IcStop → IcStop) : (modStop n f s).pll = s.pll := rfl
@[simp] theorem modStop_cfg (n : Fin 8) (f : IcStop → IcStop) : (modStop n f s).cfg = s.cfg := rfl
@[simp] theorem modStop_ld (n : Fin 8) (f : IcStop → IcStop) : (modStop n f s).ld = s.ld := rfl
@[simp] theorem modStop_otp (n : Fin 8) (f : IcStop → IcStop) : (modStop n f s).otp = s.otp := rfl
@[simp] theorem modStop_rep (n : Fin 8) (f : IcStop → IcStop) : (modStop n f s).rep = s.rep := rfl
@[simp] theorem modStop_tele (n : Fin 8) (f : IcStop → IcStop) : (modStop n f s).tele = s.tele := rfl
@[simp] theorem modStop_pd0 (n : Fin 8) (f : IcStop → IcStop) : (modStop n f s).pd0 = s.pd0 := rfl
@[simp] theorem modStop_avs (n : Fin 8) (f : IcStop → IcStop) : (modStop n f s).avs = s.avs := rfl
@[simp] theorem modStop_mon (n : Fin 8) (f : IcStop → IcStop) : (modStop n f s).mon = s.mon := rfl
@[simp] theorem modStop_pwr (n : Fin 8) (f : IcStop → IcStop) : (modStop n f s).pwr = s.pwr := rfl
@[simp] theorem modStop_refs (n : Fin 8) (f : IcStop → IcStop) : (modStop n f s).refs = s.refs := rfl
@[simp] theorem modStop_gov (n : Fin 8) (f : IcStop → IcStop) : (modStop n f s).gov = s.gov := rfl
@[simp] theorem modStop_ho (n : Fin 8) (f : IcStop → IcStop) : (modStop n f s).ho = s.ho := rfl
@[simp] theorem modStop_outs (n : Fin 8) (f : IcStop → IcStop) : (modStop n f s).outs = s.outs := rfl
@[simp] theorem modStop_ic (n : Fin 8) (f : IcStop → IcStop) : (modStop n f s).ic = { s.ic with stop := s.ic.stop.set n (f s.ic.stop[n]) } := rfl
@[simp] theorem modStop_gnss (n : Fin 8) (f : IcStop → IcStop) : (modStop n f s).gnss = s.gnss := rfl
@[simp] theorem modStop_core (n : Fin 8) (f : IcStop → IcStop) : (modStop n f s).core = s.core := rfl
@[simp] theorem modStop_garner (n : Fin 8) (f : IcStop → IcStop) : (modStop n f s).garner = s.garner := rfl
@[simp] theorem modStop_ports (n : Fin 8) (f : IcStop → IcStop) : (modStop n f s).ports = s.ports := rfl
@[simp] theorem modStop_weir (n : Fin 8) (f : IcStop → IcStop) : (modStop n f s).weir = s.weir := rfl
@[simp] theorem modStop_ntp (n : Fin 8) (f : IcStop → IcStop) : (modStop n f s).ntp = s.ntp := rfl
@[simp] theorem modStop_cli (n : Fin 8) (f : IcStop → IcStop) : (modStop n f s).cli = s.cli := rfl
@[simp] theorem modStop_leat (n : Fin 8) (f : IcStop → IcStop) : (modStop n f s).leat = s.leat := rfl
@[simp] theorem modStop_dress (n : Fin 8) (f : IcStop → IcStop) : (modStop n f s).dress = s.dress := rfl

/-! `modGnss` -/

@[simp] theorem modGnss_pending (f : Gnss → Gnss) : (modGnss f s).pending = s.pending := rfl
@[simp] theorem modGnss_out (f : Gnss → Gnss) : (modGnss f s).out = s.out := rfl
@[simp] theorem modGnss_wire (f : Gnss → Gnss) : (modGnss f s).wire = s.wire := rfl
@[simp] theorem modGnss_notes (f : Gnss → Gnss) : (modGnss f s).notes = s.notes := rfl
@[simp] theorem modGnss_clk (f : Gnss → Gnss) : (modGnss f s).clk = s.clk := rfl
@[simp] theorem modGnss_tb (f : Gnss → Gnss) : (modGnss f s).tb = s.tb := rfl
@[simp] theorem modGnss_ts (f : Gnss → Gnss) : (modGnss f s).ts = s.ts := rfl
@[simp] theorem modGnss_pll (f : Gnss → Gnss) : (modGnss f s).pll = s.pll := rfl
@[simp] theorem modGnss_cfg (f : Gnss → Gnss) : (modGnss f s).cfg = s.cfg := rfl
@[simp] theorem modGnss_ld (f : Gnss → Gnss) : (modGnss f s).ld = s.ld := rfl
@[simp] theorem modGnss_otp (f : Gnss → Gnss) : (modGnss f s).otp = s.otp := rfl
@[simp] theorem modGnss_rep (f : Gnss → Gnss) : (modGnss f s).rep = s.rep := rfl
@[simp] theorem modGnss_tele (f : Gnss → Gnss) : (modGnss f s).tele = s.tele := rfl
@[simp] theorem modGnss_pd0 (f : Gnss → Gnss) : (modGnss f s).pd0 = s.pd0 := rfl
@[simp] theorem modGnss_avs (f : Gnss → Gnss) : (modGnss f s).avs = s.avs := rfl
@[simp] theorem modGnss_mon (f : Gnss → Gnss) : (modGnss f s).mon = s.mon := rfl
@[simp] theorem modGnss_pwr (f : Gnss → Gnss) : (modGnss f s).pwr = s.pwr := rfl
@[simp] theorem modGnss_refs (f : Gnss → Gnss) : (modGnss f s).refs = s.refs := rfl
@[simp] theorem modGnss_gov (f : Gnss → Gnss) : (modGnss f s).gov = s.gov := rfl
@[simp] theorem modGnss_ho (f : Gnss → Gnss) : (modGnss f s).ho = s.ho := rfl
@[simp] theorem modGnss_outs (f : Gnss → Gnss) : (modGnss f s).outs = s.outs := rfl
@[simp] theorem modGnss_ic (f : Gnss → Gnss) : (modGnss f s).ic = s.ic := rfl
@[simp] theorem modGnss_gnss (f : Gnss → Gnss) : (modGnss f s).gnss = f s.gnss := rfl
@[simp] theorem modGnss_core (f : Gnss → Gnss) : (modGnss f s).core = s.core := rfl
@[simp] theorem modGnss_garner (f : Gnss → Gnss) : (modGnss f s).garner = s.garner := rfl
@[simp] theorem modGnss_ports (f : Gnss → Gnss) : (modGnss f s).ports = s.ports := rfl
@[simp] theorem modGnss_weir (f : Gnss → Gnss) : (modGnss f s).weir = s.weir := rfl
@[simp] theorem modGnss_ntp (f : Gnss → Gnss) : (modGnss f s).ntp = s.ntp := rfl
@[simp] theorem modGnss_cli (f : Gnss → Gnss) : (modGnss f s).cli = s.cli := rfl
@[simp] theorem modGnss_leat (f : Gnss → Gnss) : (modGnss f s).leat = s.leat := rfl
@[simp] theorem modGnss_dress (f : Gnss → Gnss) : (modGnss f s).dress = s.dress := rfl

/-! `modChan` -/

@[simp] theorem modChan_pending (n : Fin 32) (f : GnssChan → GnssChan) : (modChan n f s).pending = s.pending := rfl
@[simp] theorem modChan_out (n : Fin 32) (f : GnssChan → GnssChan) : (modChan n f s).out = s.out := rfl
@[simp] theorem modChan_wire (n : Fin 32) (f : GnssChan → GnssChan) : (modChan n f s).wire = s.wire := rfl
@[simp] theorem modChan_notes (n : Fin 32) (f : GnssChan → GnssChan) : (modChan n f s).notes = s.notes := rfl
@[simp] theorem modChan_clk (n : Fin 32) (f : GnssChan → GnssChan) : (modChan n f s).clk = s.clk := rfl
@[simp] theorem modChan_tb (n : Fin 32) (f : GnssChan → GnssChan) : (modChan n f s).tb = s.tb := rfl
@[simp] theorem modChan_ts (n : Fin 32) (f : GnssChan → GnssChan) : (modChan n f s).ts = s.ts := rfl
@[simp] theorem modChan_pll (n : Fin 32) (f : GnssChan → GnssChan) : (modChan n f s).pll = s.pll := rfl
@[simp] theorem modChan_cfg (n : Fin 32) (f : GnssChan → GnssChan) : (modChan n f s).cfg = s.cfg := rfl
@[simp] theorem modChan_ld (n : Fin 32) (f : GnssChan → GnssChan) : (modChan n f s).ld = s.ld := rfl
@[simp] theorem modChan_otp (n : Fin 32) (f : GnssChan → GnssChan) : (modChan n f s).otp = s.otp := rfl
@[simp] theorem modChan_rep (n : Fin 32) (f : GnssChan → GnssChan) : (modChan n f s).rep = s.rep := rfl
@[simp] theorem modChan_tele (n : Fin 32) (f : GnssChan → GnssChan) : (modChan n f s).tele = s.tele := rfl
@[simp] theorem modChan_pd0 (n : Fin 32) (f : GnssChan → GnssChan) : (modChan n f s).pd0 = s.pd0 := rfl
@[simp] theorem modChan_avs (n : Fin 32) (f : GnssChan → GnssChan) : (modChan n f s).avs = s.avs := rfl
@[simp] theorem modChan_mon (n : Fin 32) (f : GnssChan → GnssChan) : (modChan n f s).mon = s.mon := rfl
@[simp] theorem modChan_pwr (n : Fin 32) (f : GnssChan → GnssChan) : (modChan n f s).pwr = s.pwr := rfl
@[simp] theorem modChan_refs (n : Fin 32) (f : GnssChan → GnssChan) : (modChan n f s).refs = s.refs := rfl
@[simp] theorem modChan_gov (n : Fin 32) (f : GnssChan → GnssChan) : (modChan n f s).gov = s.gov := rfl
@[simp] theorem modChan_ho (n : Fin 32) (f : GnssChan → GnssChan) : (modChan n f s).ho = s.ho := rfl
@[simp] theorem modChan_outs (n : Fin 32) (f : GnssChan → GnssChan) : (modChan n f s).outs = s.outs := rfl
@[simp] theorem modChan_ic (n : Fin 32) (f : GnssChan → GnssChan) : (modChan n f s).ic = s.ic := rfl
@[simp] theorem modChan_gnss (n : Fin 32) (f : GnssChan → GnssChan) : (modChan n f s).gnss = { s.gnss with chan := s.gnss.chan.set n (f s.gnss.chan[n]) } := rfl
@[simp] theorem modChan_core (n : Fin 32) (f : GnssChan → GnssChan) : (modChan n f s).core = s.core := rfl
@[simp] theorem modChan_garner (n : Fin 32) (f : GnssChan → GnssChan) : (modChan n f s).garner = s.garner := rfl
@[simp] theorem modChan_ports (n : Fin 32) (f : GnssChan → GnssChan) : (modChan n f s).ports = s.ports := rfl
@[simp] theorem modChan_weir (n : Fin 32) (f : GnssChan → GnssChan) : (modChan n f s).weir = s.weir := rfl
@[simp] theorem modChan_ntp (n : Fin 32) (f : GnssChan → GnssChan) : (modChan n f s).ntp = s.ntp := rfl
@[simp] theorem modChan_cli (n : Fin 32) (f : GnssChan → GnssChan) : (modChan n f s).cli = s.cli := rfl
@[simp] theorem modChan_leat (n : Fin 32) (f : GnssChan → GnssChan) : (modChan n f s).leat = s.leat := rfl
@[simp] theorem modChan_dress (n : Fin 32) (f : GnssChan → GnssChan) : (modChan n f s).dress = s.dress := rfl

/-! `modNtp` -/

@[simp] theorem modNtp_pending (f : NtpState → NtpState) : (modNtp f s).pending = s.pending := rfl
@[simp] theorem modNtp_out (f : NtpState → NtpState) : (modNtp f s).out = s.out := rfl
@[simp] theorem modNtp_wire (f : NtpState → NtpState) : (modNtp f s).wire = s.wire := rfl
@[simp] theorem modNtp_notes (f : NtpState → NtpState) : (modNtp f s).notes = s.notes := rfl
@[simp] theorem modNtp_clk (f : NtpState → NtpState) : (modNtp f s).clk = s.clk := rfl
@[simp] theorem modNtp_tb (f : NtpState → NtpState) : (modNtp f s).tb = s.tb := rfl
@[simp] theorem modNtp_ts (f : NtpState → NtpState) : (modNtp f s).ts = s.ts := rfl
@[simp] theorem modNtp_pll (f : NtpState → NtpState) : (modNtp f s).pll = s.pll := rfl
@[simp] theorem modNtp_cfg (f : NtpState → NtpState) : (modNtp f s).cfg = s.cfg := rfl
@[simp] theorem modNtp_ld (f : NtpState → NtpState) : (modNtp f s).ld = s.ld := rfl
@[simp] theorem modNtp_otp (f : NtpState → NtpState) : (modNtp f s).otp = s.otp := rfl
@[simp] theorem modNtp_rep (f : NtpState → NtpState) : (modNtp f s).rep = s.rep := rfl
@[simp] theorem modNtp_tele (f : NtpState → NtpState) : (modNtp f s).tele = s.tele := rfl
@[simp] theorem modNtp_pd0 (f : NtpState → NtpState) : (modNtp f s).pd0 = s.pd0 := rfl
@[simp] theorem modNtp_avs (f : NtpState → NtpState) : (modNtp f s).avs = s.avs := rfl
@[simp] theorem modNtp_mon (f : NtpState → NtpState) : (modNtp f s).mon = s.mon := rfl
@[simp] theorem modNtp_pwr (f : NtpState → NtpState) : (modNtp f s).pwr = s.pwr := rfl
@[simp] theorem modNtp_refs (f : NtpState → NtpState) : (modNtp f s).refs = s.refs := rfl
@[simp] theorem modNtp_gov (f : NtpState → NtpState) : (modNtp f s).gov = s.gov := rfl
@[simp] theorem modNtp_ho (f : NtpState → NtpState) : (modNtp f s).ho = s.ho := rfl
@[simp] theorem modNtp_outs (f : NtpState → NtpState) : (modNtp f s).outs = s.outs := rfl
@[simp] theorem modNtp_ic (f : NtpState → NtpState) : (modNtp f s).ic = s.ic := rfl
@[simp] theorem modNtp_gnss (f : NtpState → NtpState) : (modNtp f s).gnss = s.gnss := rfl
@[simp] theorem modNtp_core (f : NtpState → NtpState) : (modNtp f s).core = s.core := rfl
@[simp] theorem modNtp_garner (f : NtpState → NtpState) : (modNtp f s).garner = s.garner := rfl
@[simp] theorem modNtp_ports (f : NtpState → NtpState) : (modNtp f s).ports = s.ports := rfl
@[simp] theorem modNtp_weir (f : NtpState → NtpState) : (modNtp f s).weir = s.weir := rfl
@[simp] theorem modNtp_ntp (f : NtpState → NtpState) : (modNtp f s).ntp = f s.ntp := rfl
@[simp] theorem modNtp_cli (f : NtpState → NtpState) : (modNtp f s).cli = s.cli := rfl
@[simp] theorem modNtp_leat (f : NtpState → NtpState) : (modNtp f s).leat = s.leat := rfl
@[simp] theorem modNtp_dress (f : NtpState → NtpState) : (modNtp f s).dress = s.dress := rfl

/-! `modCore` -/

@[simp] theorem modCore_pending (f : Core → Core) : (modCore f s).pending = s.pending := rfl
@[simp] theorem modCore_out (f : Core → Core) : (modCore f s).out = s.out := rfl
@[simp] theorem modCore_wire (f : Core → Core) : (modCore f s).wire = s.wire := rfl
@[simp] theorem modCore_notes (f : Core → Core) : (modCore f s).notes = s.notes := rfl
@[simp] theorem modCore_clk (f : Core → Core) : (modCore f s).clk = s.clk := rfl
@[simp] theorem modCore_tb (f : Core → Core) : (modCore f s).tb = s.tb := rfl
@[simp] theorem modCore_ts (f : Core → Core) : (modCore f s).ts = s.ts := rfl
@[simp] theorem modCore_pll (f : Core → Core) : (modCore f s).pll = s.pll := rfl
@[simp] theorem modCore_cfg (f : Core → Core) : (modCore f s).cfg = s.cfg := rfl
@[simp] theorem modCore_ld (f : Core → Core) : (modCore f s).ld = s.ld := rfl
@[simp] theorem modCore_otp (f : Core → Core) : (modCore f s).otp = s.otp := rfl
@[simp] theorem modCore_rep (f : Core → Core) : (modCore f s).rep = s.rep := rfl
@[simp] theorem modCore_tele (f : Core → Core) : (modCore f s).tele = s.tele := rfl
@[simp] theorem modCore_pd0 (f : Core → Core) : (modCore f s).pd0 = s.pd0 := rfl
@[simp] theorem modCore_avs (f : Core → Core) : (modCore f s).avs = s.avs := rfl
@[simp] theorem modCore_mon (f : Core → Core) : (modCore f s).mon = s.mon := rfl
@[simp] theorem modCore_pwr (f : Core → Core) : (modCore f s).pwr = s.pwr := rfl
@[simp] theorem modCore_refs (f : Core → Core) : (modCore f s).refs = s.refs := rfl
@[simp] theorem modCore_gov (f : Core → Core) : (modCore f s).gov = s.gov := rfl
@[simp] theorem modCore_ho (f : Core → Core) : (modCore f s).ho = s.ho := rfl
@[simp] theorem modCore_outs (f : Core → Core) : (modCore f s).outs = s.outs := rfl
@[simp] theorem modCore_ic (f : Core → Core) : (modCore f s).ic = s.ic := rfl
@[simp] theorem modCore_gnss (f : Core → Core) : (modCore f s).gnss = s.gnss := rfl
@[simp] theorem modCore_core (f : Core → Core) : (modCore f s).core = f s.core := rfl
@[simp] theorem modCore_garner (f : Core → Core) : (modCore f s).garner = s.garner := rfl
@[simp] theorem modCore_ports (f : Core → Core) : (modCore f s).ports = s.ports := rfl
@[simp] theorem modCore_weir (f : Core → Core) : (modCore f s).weir = s.weir := rfl
@[simp] theorem modCore_ntp (f : Core → Core) : (modCore f s).ntp = s.ntp := rfl
@[simp] theorem modCore_cli (f : Core → Core) : (modCore f s).cli = s.cli := rfl
@[simp] theorem modCore_leat (f : Core → Core) : (modCore f s).leat = s.leat := rfl
@[simp] theorem modCore_dress (f : Core → Core) : (modCore f s).dress = s.dress := rfl

/-! `modMs` -/

@[simp] theorem modMs_pending (m : Fin 40) (f : Millstone → Millstone) : (modMs m f s).pending = s.pending := rfl
@[simp] theorem modMs_out (m : Fin 40) (f : Millstone → Millstone) : (modMs m f s).out = s.out := rfl
@[simp] theorem modMs_wire (m : Fin 40) (f : Millstone → Millstone) : (modMs m f s).wire = s.wire := rfl
@[simp] theorem modMs_notes (m : Fin 40) (f : Millstone → Millstone) : (modMs m f s).notes = s.notes := rfl
@[simp] theorem modMs_clk (m : Fin 40) (f : Millstone → Millstone) : (modMs m f s).clk = s.clk := rfl
@[simp] theorem modMs_tb (m : Fin 40) (f : Millstone → Millstone) : (modMs m f s).tb = s.tb := rfl
@[simp] theorem modMs_ts (m : Fin 40) (f : Millstone → Millstone) : (modMs m f s).ts = s.ts := rfl
@[simp] theorem modMs_pll (m : Fin 40) (f : Millstone → Millstone) : (modMs m f s).pll = s.pll := rfl
@[simp] theorem modMs_cfg (m : Fin 40) (f : Millstone → Millstone) : (modMs m f s).cfg = s.cfg := rfl
@[simp] theorem modMs_ld (m : Fin 40) (f : Millstone → Millstone) : (modMs m f s).ld = s.ld := rfl
@[simp] theorem modMs_otp (m : Fin 40) (f : Millstone → Millstone) : (modMs m f s).otp = s.otp := rfl
@[simp] theorem modMs_rep (m : Fin 40) (f : Millstone → Millstone) : (modMs m f s).rep = s.rep := rfl
@[simp] theorem modMs_tele (m : Fin 40) (f : Millstone → Millstone) : (modMs m f s).tele = s.tele := rfl
@[simp] theorem modMs_pd0 (m : Fin 40) (f : Millstone → Millstone) : (modMs m f s).pd0 = s.pd0 := rfl
@[simp] theorem modMs_avs (m : Fin 40) (f : Millstone → Millstone) : (modMs m f s).avs = s.avs := rfl
@[simp] theorem modMs_mon (m : Fin 40) (f : Millstone → Millstone) : (modMs m f s).mon = s.mon := rfl
@[simp] theorem modMs_pwr (m : Fin 40) (f : Millstone → Millstone) : (modMs m f s).pwr = s.pwr := rfl
@[simp] theorem modMs_refs (m : Fin 40) (f : Millstone → Millstone) : (modMs m f s).refs = s.refs := rfl
@[simp] theorem modMs_gov (m : Fin 40) (f : Millstone → Millstone) : (modMs m f s).gov = s.gov := rfl
@[simp] theorem modMs_ho (m : Fin 40) (f : Millstone → Millstone) : (modMs m f s).ho = s.ho := rfl
@[simp] theorem modMs_outs (m : Fin 40) (f : Millstone → Millstone) : (modMs m f s).outs = s.outs := rfl
@[simp] theorem modMs_ic (m : Fin 40) (f : Millstone → Millstone) : (modMs m f s).ic = s.ic := rfl
@[simp] theorem modMs_gnss (m : Fin 40) (f : Millstone → Millstone) : (modMs m f s).gnss = s.gnss := rfl
@[simp] theorem modMs_core (m : Fin 40) (f : Millstone → Millstone) : (modMs m f s).core = { s.core with ms := s.core.ms.set m (f s.core.ms[m]) } := rfl
@[simp] theorem modMs_garner (m : Fin 40) (f : Millstone → Millstone) : (modMs m f s).garner = s.garner := rfl
@[simp] theorem modMs_ports (m : Fin 40) (f : Millstone → Millstone) : (modMs m f s).ports = s.ports := rfl
@[simp] theorem modMs_weir (m : Fin 40) (f : Millstone → Millstone) : (modMs m f s).weir = s.weir := rfl
@[simp] theorem modMs_ntp (m : Fin 40) (f : Millstone → Millstone) : (modMs m f s).ntp = s.ntp := rfl
@[simp] theorem modMs_cli (m : Fin 40) (f : Millstone → Millstone) : (modMs m f s).cli = s.cli := rfl
@[simp] theorem modMs_leat (m : Fin 40) (f : Millstone → Millstone) : (modMs m f s).leat = s.leat := rfl
@[simp] theorem modMs_dress (m : Fin 40) (f : Millstone → Millstone) : (modMs m f s).dress = s.dress := rfl

/-! `modWeir` -/

@[simp] theorem modWeir_pending (f : Weir → Weir) : (modWeir f s).pending = s.pending := rfl
@[simp] theorem modWeir_out (f : Weir → Weir) : (modWeir f s).out = s.out := rfl
@[simp] theorem modWeir_wire (f : Weir → Weir) : (modWeir f s).wire = s.wire := rfl
@[simp] theorem modWeir_notes (f : Weir → Weir) : (modWeir f s).notes = s.notes := rfl
@[simp] theorem modWeir_clk (f : Weir → Weir) : (modWeir f s).clk = s.clk := rfl
@[simp] theorem modWeir_tb (f : Weir → Weir) : (modWeir f s).tb = s.tb := rfl
@[simp] theorem modWeir_ts (f : Weir → Weir) : (modWeir f s).ts = s.ts := rfl
@[simp] theorem modWeir_pll (f : Weir → Weir) : (modWeir f s).pll = s.pll := rfl
@[simp] theorem modWeir_cfg (f : Weir → Weir) : (modWeir f s).cfg = s.cfg := rfl
@[simp] theorem modWeir_ld (f : Weir → Weir) : (modWeir f s).ld = s.ld := rfl
@[simp] theorem modWeir_otp (f : Weir → Weir) : (modWeir f s).otp = s.otp := rfl
@[simp] theorem modWeir_rep (f : Weir → Weir) : (modWeir f s).rep = s.rep := rfl
@[simp] theorem modWeir_tele (f : Weir → Weir) : (modWeir f s).tele = s.tele := rfl
@[simp] theorem modWeir_pd0 (f : Weir → Weir) : (modWeir f s).pd0 = s.pd0 := rfl
@[simp] theorem modWeir_avs (f : Weir → Weir) : (modWeir f s).avs = s.avs := rfl
@[simp] theorem modWeir_mon (f : Weir → Weir) : (modWeir f s).mon = s.mon := rfl
@[simp] theorem modWeir_pwr (f : Weir → Weir) : (modWeir f s).pwr = s.pwr := rfl
@[simp] theorem modWeir_refs (f : Weir → Weir) : (modWeir f s).refs = s.refs := rfl
@[simp] theorem modWeir_gov (f : Weir → Weir) : (modWeir f s).gov = s.gov := rfl
@[simp] theorem modWeir_ho (f : Weir → Weir) : (modWeir f s).ho = s.ho := rfl
@[simp] theorem modWeir_outs (f : Weir → Weir) : (modWeir f s).outs = s.outs := rfl
@[simp] theorem modWeir_ic (f : Weir → Weir) : (modWeir f s).ic = s.ic := rfl
@[simp] theorem modWeir_gnss (f : Weir → Weir) : (modWeir f s).gnss = s.gnss := rfl
@[simp] theorem modWeir_core (f : Weir → Weir) : (modWeir f s).core = s.core := rfl
@[simp] theorem modWeir_garner (f : Weir → Weir) : (modWeir f s).garner = s.garner := rfl
@[simp] theorem modWeir_ports (f : Weir → Weir) : (modWeir f s).ports = s.ports := rfl
@[simp] theorem modWeir_weir (f : Weir → Weir) : (modWeir f s).weir = f s.weir := rfl
@[simp] theorem modWeir_ntp (f : Weir → Weir) : (modWeir f s).ntp = s.ntp := rfl
@[simp] theorem modWeir_cli (f : Weir → Weir) : (modWeir f s).cli = s.cli := rfl
@[simp] theorem modWeir_leat (f : Weir → Weir) : (modWeir f s).leat = s.leat := rfl
@[simp] theorem modWeir_dress (f : Weir → Weir) : (modWeir f s).dress = s.dress := rfl

/-! `modGarner` -/

@[simp] theorem modGarner_pending (f : Garner → Garner) : (modGarner f s).pending = s.pending := rfl
@[simp] theorem modGarner_out (f : Garner → Garner) : (modGarner f s).out = s.out := rfl
@[simp] theorem modGarner_wire (f : Garner → Garner) : (modGarner f s).wire = s.wire := rfl
@[simp] theorem modGarner_notes (f : Garner → Garner) : (modGarner f s).notes = s.notes := rfl
@[simp] theorem modGarner_clk (f : Garner → Garner) : (modGarner f s).clk = s.clk := rfl
@[simp] theorem modGarner_tb (f : Garner → Garner) : (modGarner f s).tb = s.tb := rfl
@[simp] theorem modGarner_ts (f : Garner → Garner) : (modGarner f s).ts = s.ts := rfl
@[simp] theorem modGarner_pll (f : Garner → Garner) : (modGarner f s).pll = s.pll := rfl
@[simp] theorem modGarner_cfg (f : Garner → Garner) : (modGarner f s).cfg = s.cfg := rfl
@[simp] theorem modGarner_ld (f : Garner → Garner) : (modGarner f s).ld = s.ld := rfl
@[simp] theorem modGarner_otp (f : Garner → Garner) : (modGarner f s).otp = s.otp := rfl
@[simp] theorem modGarner_rep (f : Garner → Garner) : (modGarner f s).rep = s.rep := rfl
@[simp] theorem modGarner_tele (f : Garner → Garner) : (modGarner f s).tele = s.tele := rfl
@[simp] theorem modGarner_pd0 (f : Garner → Garner) : (modGarner f s).pd0 = s.pd0 := rfl
@[simp] theorem modGarner_avs (f : Garner → Garner) : (modGarner f s).avs = s.avs := rfl
@[simp] theorem modGarner_mon (f : Garner → Garner) : (modGarner f s).mon = s.mon := rfl
@[simp] theorem modGarner_pwr (f : Garner → Garner) : (modGarner f s).pwr = s.pwr := rfl
@[simp] theorem modGarner_refs (f : Garner → Garner) : (modGarner f s).refs = s.refs := rfl
@[simp] theorem modGarner_gov (f : Garner → Garner) : (modGarner f s).gov = s.gov := rfl
@[simp] theorem modGarner_ho (f : Garner → Garner) : (modGarner f s).ho = s.ho := rfl
@[simp] theorem modGarner_outs (f : Garner → Garner) : (modGarner f s).outs = s.outs := rfl
@[simp] theorem modGarner_ic (f : Garner → Garner) : (modGarner f s).ic = s.ic := rfl
@[simp] theorem modGarner_gnss (f : Garner → Garner) : (modGarner f s).gnss = s.gnss := rfl
@[simp] theorem modGarner_core (f : Garner → Garner) : (modGarner f s).core = s.core := rfl
@[simp] theorem modGarner_garner (f : Garner → Garner) : (modGarner f s).garner = f s.garner := rfl
@[simp] theorem modGarner_ports (f : Garner → Garner) : (modGarner f s).ports = s.ports := rfl
@[simp] theorem modGarner_weir (f : Garner → Garner) : (modGarner f s).weir = s.weir := rfl
@[simp] theorem modGarner_ntp (f : Garner → Garner) : (modGarner f s).ntp = s.ntp := rfl
@[simp] theorem modGarner_cli (f : Garner → Garner) : (modGarner f s).cli = s.cli := rfl
@[simp] theorem modGarner_leat (f : Garner → Garner) : (modGarner f s).leat = s.leat := rfl
@[simp] theorem modGarner_dress (f : Garner → Garner) : (modGarner f s).dress = s.dress := rfl

/-! `modBank` -/

@[simp] theorem modBank_pending (b : Fin 48) (f : Bank → Bank) : (modBank b f s).pending = s.pending := rfl
@[simp] theorem modBank_out (b : Fin 48) (f : Bank → Bank) : (modBank b f s).out = s.out := rfl
@[simp] theorem modBank_wire (b : Fin 48) (f : Bank → Bank) : (modBank b f s).wire = s.wire := rfl
@[simp] theorem modBank_notes (b : Fin 48) (f : Bank → Bank) : (modBank b f s).notes = s.notes := rfl
@[simp] theorem modBank_clk (b : Fin 48) (f : Bank → Bank) : (modBank b f s).clk = s.clk := rfl
@[simp] theorem modBank_tb (b : Fin 48) (f : Bank → Bank) : (modBank b f s).tb = s.tb := rfl
@[simp] theorem modBank_ts (b : Fin 48) (f : Bank → Bank) : (modBank b f s).ts = s.ts := rfl
@[simp] theorem modBank_pll (b : Fin 48) (f : Bank → Bank) : (modBank b f s).pll = s.pll := rfl
@[simp] theorem modBank_cfg (b : Fin 48) (f : Bank → Bank) : (modBank b f s).cfg = s.cfg := rfl
@[simp] theorem modBank_ld (b : Fin 48) (f : Bank → Bank) : (modBank b f s).ld = s.ld := rfl
@[simp] theorem modBank_otp (b : Fin 48) (f : Bank → Bank) : (modBank b f s).otp = s.otp := rfl
@[simp] theorem modBank_rep (b : Fin 48) (f : Bank → Bank) : (modBank b f s).rep = s.rep := rfl
@[simp] theorem modBank_tele (b : Fin 48) (f : Bank → Bank) : (modBank b f s).tele = s.tele := rfl
@[simp] theorem modBank_pd0 (b : Fin 48) (f : Bank → Bank) : (modBank b f s).pd0 = s.pd0 := rfl
@[simp] theorem modBank_avs (b : Fin 48) (f : Bank → Bank) : (modBank b f s).avs = s.avs := rfl
@[simp] theorem modBank_mon (b : Fin 48) (f : Bank → Bank) : (modBank b f s).mon = s.mon := rfl
@[simp] theorem modBank_pwr (b : Fin 48) (f : Bank → Bank) : (modBank b f s).pwr = s.pwr := rfl
@[simp] theorem modBank_refs (b : Fin 48) (f : Bank → Bank) : (modBank b f s).refs = s.refs := rfl
@[simp] theorem modBank_gov (b : Fin 48) (f : Bank → Bank) : (modBank b f s).gov = s.gov := rfl
@[simp] theorem modBank_ho (b : Fin 48) (f : Bank → Bank) : (modBank b f s).ho = s.ho := rfl
@[simp] theorem modBank_outs (b : Fin 48) (f : Bank → Bank) : (modBank b f s).outs = s.outs := rfl
@[simp] theorem modBank_ic (b : Fin 48) (f : Bank → Bank) : (modBank b f s).ic = s.ic := rfl
@[simp] theorem modBank_gnss (b : Fin 48) (f : Bank → Bank) : (modBank b f s).gnss = s.gnss := rfl
@[simp] theorem modBank_core (b : Fin 48) (f : Bank → Bank) : (modBank b f s).core = s.core := rfl
@[simp] theorem modBank_garner (b : Fin 48) (f : Bank → Bank) : (modBank b f s).garner = { s.garner with bank := s.garner.bank.set b (f s.garner.bank[b]) } := rfl
@[simp] theorem modBank_ports (b : Fin 48) (f : Bank → Bank) : (modBank b f s).ports = s.ports := rfl
@[simp] theorem modBank_weir (b : Fin 48) (f : Bank → Bank) : (modBank b f s).weir = s.weir := rfl
@[simp] theorem modBank_ntp (b : Fin 48) (f : Bank → Bank) : (modBank b f s).ntp = s.ntp := rfl
@[simp] theorem modBank_cli (b : Fin 48) (f : Bank → Bank) : (modBank b f s).cli = s.cli := rfl
@[simp] theorem modBank_leat (b : Fin 48) (f : Bank → Bank) : (modBank b f s).leat = s.leat := rfl
@[simp] theorem modBank_dress (b : Fin 48) (f : Bank → Bank) : (modBank b f s).dress = s.dress := rfl

/-! `modPort` -/

@[simp] theorem modPort_pending (p : Fin 8) (f : Port → Port) : (modPort p f s).pending = s.pending := rfl
@[simp] theorem modPort_out (p : Fin 8) (f : Port → Port) : (modPort p f s).out = s.out := rfl
@[simp] theorem modPort_wire (p : Fin 8) (f : Port → Port) : (modPort p f s).wire = s.wire := rfl
@[simp] theorem modPort_notes (p : Fin 8) (f : Port → Port) : (modPort p f s).notes = s.notes := rfl
@[simp] theorem modPort_clk (p : Fin 8) (f : Port → Port) : (modPort p f s).clk = s.clk := rfl
@[simp] theorem modPort_tb (p : Fin 8) (f : Port → Port) : (modPort p f s).tb = s.tb := rfl
@[simp] theorem modPort_ts (p : Fin 8) (f : Port → Port) : (modPort p f s).ts = s.ts := rfl
@[simp] theorem modPort_pll (p : Fin 8) (f : Port → Port) : (modPort p f s).pll = s.pll := rfl
@[simp] theorem modPort_cfg (p : Fin 8) (f : Port → Port) : (modPort p f s).cfg = s.cfg := rfl
@[simp] theorem modPort_ld (p : Fin 8) (f : Port → Port) : (modPort p f s).ld = s.ld := rfl
@[simp] theorem modPort_otp (p : Fin 8) (f : Port → Port) : (modPort p f s).otp = s.otp := rfl
@[simp] theorem modPort_rep (p : Fin 8) (f : Port → Port) : (modPort p f s).rep = s.rep := rfl
@[simp] theorem modPort_tele (p : Fin 8) (f : Port → Port) : (modPort p f s).tele = s.tele := rfl
@[simp] theorem modPort_pd0 (p : Fin 8) (f : Port → Port) : (modPort p f s).pd0 = s.pd0 := rfl
@[simp] theorem modPort_avs (p : Fin 8) (f : Port → Port) : (modPort p f s).avs = s.avs := rfl
@[simp] theorem modPort_mon (p : Fin 8) (f : Port → Port) : (modPort p f s).mon = s.mon := rfl
@[simp] theorem modPort_pwr (p : Fin 8) (f : Port → Port) : (modPort p f s).pwr = s.pwr := rfl
@[simp] theorem modPort_refs (p : Fin 8) (f : Port → Port) : (modPort p f s).refs = s.refs := rfl
@[simp] theorem modPort_gov (p : Fin 8) (f : Port → Port) : (modPort p f s).gov = s.gov := rfl
@[simp] theorem modPort_ho (p : Fin 8) (f : Port → Port) : (modPort p f s).ho = s.ho := rfl
@[simp] theorem modPort_outs (p : Fin 8) (f : Port → Port) : (modPort p f s).outs = s.outs := rfl
@[simp] theorem modPort_ic (p : Fin 8) (f : Port → Port) : (modPort p f s).ic = s.ic := rfl
@[simp] theorem modPort_gnss (p : Fin 8) (f : Port → Port) : (modPort p f s).gnss = s.gnss := rfl
@[simp] theorem modPort_core (p : Fin 8) (f : Port → Port) : (modPort p f s).core = s.core := rfl
@[simp] theorem modPort_garner (p : Fin 8) (f : Port → Port) : (modPort p f s).garner = s.garner := rfl
@[simp] theorem modPort_ports (p : Fin 8) (f : Port → Port) : (modPort p f s).ports = s.ports.set p (f s.ports[p]) := rfl
@[simp] theorem modPort_weir (p : Fin 8) (f : Port → Port) : (modPort p f s).weir = s.weir := rfl
@[simp] theorem modPort_ntp (p : Fin 8) (f : Port → Port) : (modPort p f s).ntp = s.ntp := rfl
@[simp] theorem modPort_cli (p : Fin 8) (f : Port → Port) : (modPort p f s).cli = s.cli := rfl
@[simp] theorem modPort_leat (p : Fin 8) (f : Port → Port) : (modPort p f s).leat = s.leat := rfl
@[simp] theorem modPort_dress (p : Fin 8) (f : Port → Port) : (modPort p f s).dress = s.dress := rfl

/-! `modBook` -/

@[simp] theorem modBook_pending (p : Fin 8) (f : List Booking → List Booking) : (modBook p f s).pending = s.pending := rfl
@[simp] theorem modBook_out (p : Fin 8) (f : List Booking → List Booking) : (modBook p f s).out = s.out := rfl
@[simp] theorem modBook_wire (p : Fin 8) (f : List Booking → List Booking) : (modBook p f s).wire = s.wire := rfl
@[simp] theorem modBook_notes (p : Fin 8) (f : List Booking → List Booking) : (modBook p f s).notes = s.notes := rfl
@[simp] theorem modBook_clk (p : Fin 8) (f : List Booking → List Booking) : (modBook p f s).clk = s.clk := rfl
@[simp] theorem modBook_tb (p : Fin 8) (f : List Booking → List Booking) : (modBook p f s).tb = s.tb := rfl
@[simp] theorem modBook_ts (p : Fin 8) (f : List Booking → List Booking) : (modBook p f s).ts = s.ts := rfl
@[simp] theorem modBook_pll (p : Fin 8) (f : List Booking → List Booking) : (modBook p f s).pll = s.pll := rfl
@[simp] theorem modBook_cfg (p : Fin 8) (f : List Booking → List Booking) : (modBook p f s).cfg = s.cfg := rfl
@[simp] theorem modBook_ld (p : Fin 8) (f : List Booking → List Booking) : (modBook p f s).ld = s.ld := rfl
@[simp] theorem modBook_otp (p : Fin 8) (f : List Booking → List Booking) : (modBook p f s).otp = s.otp := rfl
@[simp] theorem modBook_rep (p : Fin 8) (f : List Booking → List Booking) : (modBook p f s).rep = s.rep := rfl
@[simp] theorem modBook_tele (p : Fin 8) (f : List Booking → List Booking) : (modBook p f s).tele = s.tele := rfl
@[simp] theorem modBook_pd0 (p : Fin 8) (f : List Booking → List Booking) : (modBook p f s).pd0 = s.pd0 := rfl
@[simp] theorem modBook_avs (p : Fin 8) (f : List Booking → List Booking) : (modBook p f s).avs = s.avs := rfl
@[simp] theorem modBook_mon (p : Fin 8) (f : List Booking → List Booking) : (modBook p f s).mon = s.mon := rfl
@[simp] theorem modBook_pwr (p : Fin 8) (f : List Booking → List Booking) : (modBook p f s).pwr = s.pwr := rfl
@[simp] theorem modBook_refs (p : Fin 8) (f : List Booking → List Booking) : (modBook p f s).refs = s.refs := rfl
@[simp] theorem modBook_gov (p : Fin 8) (f : List Booking → List Booking) : (modBook p f s).gov = s.gov := rfl
@[simp] theorem modBook_ho (p : Fin 8) (f : List Booking → List Booking) : (modBook p f s).ho = s.ho := rfl
@[simp] theorem modBook_outs (p : Fin 8) (f : List Booking → List Booking) : (modBook p f s).outs = s.outs := rfl
@[simp] theorem modBook_ic (p : Fin 8) (f : List Booking → List Booking) : (modBook p f s).ic = s.ic := rfl
@[simp] theorem modBook_gnss (p : Fin 8) (f : List Booking → List Booking) : (modBook p f s).gnss = s.gnss := rfl
@[simp] theorem modBook_core (p : Fin 8) (f : List Booking → List Booking) : (modBook p f s).core = s.core := rfl
@[simp] theorem modBook_garner (p : Fin 8) (f : List Booking → List Booking) : (modBook p f s).garner = s.garner := rfl
@[simp] theorem modBook_weir (p : Fin 8) (f : List Booking → List Booking) : (modBook p f s).weir = s.weir := rfl
@[simp] theorem modBook_ntp (p : Fin 8) (f : List Booking → List Booking) : (modBook p f s).ntp = s.ntp := rfl
@[simp] theorem modBook_cli (p : Fin 8) (f : List Booking → List Booking) : (modBook p f s).cli = s.cli := rfl
@[simp] theorem modBook_leat (p : Fin 8) (f : List Booking → List Booking) : (modBook p f s).leat = s.leat := rfl
@[simp] theorem modBook_dress (p : Fin 8) (f : List Booking → List Booking) : (modBook p f s).dress = s.dress := rfl

/-! `modCli` -/

@[simp] theorem modCli_pending (i : Fin 2) (f : Client → Client) : (modCli i f s).pending = s.pending := rfl
@[simp] theorem modCli_out (i : Fin 2) (f : Client → Client) : (modCli i f s).out = s.out := rfl
@[simp] theorem modCli_wire (i : Fin 2) (f : Client → Client) : (modCli i f s).wire = s.wire := rfl
@[simp] theorem modCli_notes (i : Fin 2) (f : Client → Client) : (modCli i f s).notes = s.notes := rfl
@[simp] theorem modCli_clk (i : Fin 2) (f : Client → Client) : (modCli i f s).clk = s.clk := rfl
@[simp] theorem modCli_tb (i : Fin 2) (f : Client → Client) : (modCli i f s).tb = s.tb := rfl
@[simp] theorem modCli_ts (i : Fin 2) (f : Client → Client) : (modCli i f s).ts = s.ts := rfl
@[simp] theorem modCli_pll (i : Fin 2) (f : Client → Client) : (modCli i f s).pll = s.pll := rfl
@[simp] theorem modCli_cfg (i : Fin 2) (f : Client → Client) : (modCli i f s).cfg = s.cfg := rfl
@[simp] theorem modCli_ld (i : Fin 2) (f : Client → Client) : (modCli i f s).ld = s.ld := rfl
@[simp] theorem modCli_otp (i : Fin 2) (f : Client → Client) : (modCli i f s).otp = s.otp := rfl
@[simp] theorem modCli_rep (i : Fin 2) (f : Client → Client) : (modCli i f s).rep = s.rep := rfl
@[simp] theorem modCli_tele (i : Fin 2) (f : Client → Client) : (modCli i f s).tele = s.tele := rfl
@[simp] theorem modCli_pd0 (i : Fin 2) (f : Client → Client) : (modCli i f s).pd0 = s.pd0 := rfl
@[simp] theorem modCli_avs (i : Fin 2) (f : Client → Client) : (modCli i f s).avs = s.avs := rfl
@[simp] theorem modCli_mon (i : Fin 2) (f : Client → Client) : (modCli i f s).mon = s.mon := rfl
@[simp] theorem modCli_pwr (i : Fin 2) (f : Client → Client) : (modCli i f s).pwr = s.pwr := rfl
@[simp] theorem modCli_refs (i : Fin 2) (f : Client → Client) : (modCli i f s).refs = s.refs := rfl
@[simp] theorem modCli_gov (i : Fin 2) (f : Client → Client) : (modCli i f s).gov = s.gov := rfl
@[simp] theorem modCli_ho (i : Fin 2) (f : Client → Client) : (modCli i f s).ho = s.ho := rfl
@[simp] theorem modCli_outs (i : Fin 2) (f : Client → Client) : (modCli i f s).outs = s.outs := rfl
@[simp] theorem modCli_ic (i : Fin 2) (f : Client → Client) : (modCli i f s).ic = s.ic := rfl
@[simp] theorem modCli_gnss (i : Fin 2) (f : Client → Client) : (modCli i f s).gnss = s.gnss := rfl
@[simp] theorem modCli_core (i : Fin 2) (f : Client → Client) : (modCli i f s).core = s.core := rfl
@[simp] theorem modCli_garner (i : Fin 2) (f : Client → Client) : (modCli i f s).garner = s.garner := rfl
@[simp] theorem modCli_ports (i : Fin 2) (f : Client → Client) : (modCli i f s).ports = s.ports := rfl
@[simp] theorem modCli_weir (i : Fin 2) (f : Client → Client) : (modCli i f s).weir = s.weir := rfl
@[simp] theorem modCli_ntp (i : Fin 2) (f : Client → Client) : (modCli i f s).ntp = s.ntp := rfl
@[simp] theorem modCli_cli (i : Fin 2) (f : Client → Client) : (modCli i f s).cli = s.cli.set i (f s.cli[i]) := rfl
@[simp] theorem modCli_leat (i : Fin 2) (f : Client → Client) : (modCli i f s).leat = s.leat := rfl
@[simp] theorem modCli_dress (i : Fin 2) (f : Client → Client) : (modCli i f s).dress = s.dress := rfl

/-! `modLeat` -/

@[simp] theorem modLeat_pending (f : Leat → Leat) : (modLeat f s).pending = s.pending := rfl
@[simp] theorem modLeat_out (f : Leat → Leat) : (modLeat f s).out = s.out := rfl
@[simp] theorem modLeat_wire (f : Leat → Leat) : (modLeat f s).wire = s.wire := rfl
@[simp] theorem modLeat_notes (f : Leat → Leat) : (modLeat f s).notes = s.notes := rfl
@[simp] theorem modLeat_clk (f : Leat → Leat) : (modLeat f s).clk = s.clk := rfl
@[simp] theorem modLeat_tb (f : Leat → Leat) : (modLeat f s).tb = s.tb := rfl
@[simp] theorem modLeat_ts (f : Leat → Leat) : (modLeat f s).ts = s.ts := rfl
@[simp] theorem modLeat_pll (f : Leat → Leat) : (modLeat f s).pll = s.pll := rfl
@[simp] theorem modLeat_cfg (f : Leat → Leat) : (modLeat f s).cfg = s.cfg := rfl
@[simp] theorem modLeat_ld (f : Leat → Leat) : (modLeat f s).ld = s.ld := rfl
@[simp] theorem modLeat_otp (f : Leat → Leat) : (modLeat f s).otp = s.otp := rfl
@[simp] theorem modLeat_rep (f : Leat → Leat) : (modLeat f s).rep = s.rep := rfl
@[simp] theorem modLeat_tele (f : Leat → Leat) : (modLeat f s).tele = s.tele := rfl
@[simp] theorem modLeat_pd0 (f : Leat → Leat) : (modLeat f s).pd0 = s.pd0 := rfl
@[simp] theorem modLeat_avs (f : Leat → Leat) : (modLeat f s).avs = s.avs := rfl
@[simp] theorem modLeat_mon (f : Leat → Leat) : (modLeat f s).mon = s.mon := rfl
@[simp] theorem modLeat_pwr (f : Leat → Leat) : (modLeat f s).pwr = s.pwr := rfl
@[simp] theorem modLeat_refs (f : Leat → Leat) : (modLeat f s).refs = s.refs := rfl
@[simp] theorem modLeat_gov (f : Leat → Leat) : (modLeat f s).gov = s.gov := rfl
@[simp] theorem modLeat_ho (f : Leat → Leat) : (modLeat f s).ho = s.ho := rfl
@[simp] theorem modLeat_outs (f : Leat → Leat) : (modLeat f s).outs = s.outs := rfl
@[simp] theorem modLeat_ic (f : Leat → Leat) : (modLeat f s).ic = s.ic := rfl
@[simp] theorem modLeat_gnss (f : Leat → Leat) : (modLeat f s).gnss = s.gnss := rfl
@[simp] theorem modLeat_core (f : Leat → Leat) : (modLeat f s).core = s.core := rfl
@[simp] theorem modLeat_garner (f : Leat → Leat) : (modLeat f s).garner = s.garner := rfl
@[simp] theorem modLeat_ports (f : Leat → Leat) : (modLeat f s).ports = s.ports := rfl
@[simp] theorem modLeat_weir (f : Leat → Leat) : (modLeat f s).weir = s.weir := rfl
@[simp] theorem modLeat_ntp (f : Leat → Leat) : (modLeat f s).ntp = s.ntp := rfl
@[simp] theorem modLeat_cli (f : Leat → Leat) : (modLeat f s).cli = s.cli := rfl
@[simp] theorem modLeat_leat (f : Leat → Leat) : (modLeat f s).leat = f s.leat := rfl
@[simp] theorem modLeat_dress (f : Leat → Leat) : (modLeat f s).dress = s.dress := rfl

/-! `modLink` -/

@[simp] theorem modLink_pending (n : Fin 4) (f : LeatLink → LeatLink) : (modLink n f s).pending = s.pending := rfl
@[simp] theorem modLink_out (n : Fin 4) (f : LeatLink → LeatLink) : (modLink n f s).out = s.out := rfl
@[simp] theorem modLink_wire (n : Fin 4) (f : LeatLink → LeatLink) : (modLink n f s).wire = s.wire := rfl
@[simp] theorem modLink_notes (n : Fin 4) (f : LeatLink → LeatLink) : (modLink n f s).notes = s.notes := rfl
@[simp] theorem modLink_clk (n : Fin 4) (f : LeatLink → LeatLink) : (modLink n f s).clk = s.clk := rfl
@[simp] theorem modLink_tb (n : Fin 4) (f : LeatLink → LeatLink) : (modLink n f s).tb = s.tb := rfl
@[simp] theorem modLink_ts (n : Fin 4) (f : LeatLink → LeatLink) : (modLink n f s).ts = s.ts := rfl
@[simp] theorem modLink_pll (n : Fin 4) (f : LeatLink → LeatLink) : (modLink n f s).pll = s.pll := rfl
@[simp] theorem modLink_cfg (n : Fin 4) (f : LeatLink → LeatLink) : (modLink n f s).cfg = s.cfg := rfl
@[simp] theorem modLink_ld (n : Fin 4) (f : LeatLink → LeatLink) : (modLink n f s).ld = s.ld := rfl
@[simp] theorem modLink_otp (n : Fin 4) (f : LeatLink → LeatLink) : (modLink n f s).otp = s.otp := rfl
@[simp] theorem modLink_rep (n : Fin 4) (f : LeatLink → LeatLink) : (modLink n f s).rep = s.rep := rfl
@[simp] theorem modLink_tele (n : Fin 4) (f : LeatLink → LeatLink) : (modLink n f s).tele = s.tele := rfl
@[simp] theorem modLink_pd0 (n : Fin 4) (f : LeatLink → LeatLink) : (modLink n f s).pd0 = s.pd0 := rfl
@[simp] theorem modLink_avs (n : Fin 4) (f : LeatLink → LeatLink) : (modLink n f s).avs = s.avs := rfl
@[simp] theorem modLink_mon (n : Fin 4) (f : LeatLink → LeatLink) : (modLink n f s).mon = s.mon := rfl
@[simp] theorem modLink_pwr (n : Fin 4) (f : LeatLink → LeatLink) : (modLink n f s).pwr = s.pwr := rfl
@[simp] theorem modLink_refs (n : Fin 4) (f : LeatLink → LeatLink) : (modLink n f s).refs = s.refs := rfl
@[simp] theorem modLink_gov (n : Fin 4) (f : LeatLink → LeatLink) : (modLink n f s).gov = s.gov := rfl
@[simp] theorem modLink_ho (n : Fin 4) (f : LeatLink → LeatLink) : (modLink n f s).ho = s.ho := rfl
@[simp] theorem modLink_outs (n : Fin 4) (f : LeatLink → LeatLink) : (modLink n f s).outs = s.outs := rfl
@[simp] theorem modLink_ic (n : Fin 4) (f : LeatLink → LeatLink) : (modLink n f s).ic = s.ic := rfl
@[simp] theorem modLink_gnss (n : Fin 4) (f : LeatLink → LeatLink) : (modLink n f s).gnss = s.gnss := rfl
@[simp] theorem modLink_core (n : Fin 4) (f : LeatLink → LeatLink) : (modLink n f s).core = s.core := rfl
@[simp] theorem modLink_garner (n : Fin 4) (f : LeatLink → LeatLink) : (modLink n f s).garner = s.garner := rfl
@[simp] theorem modLink_ports (n : Fin 4) (f : LeatLink → LeatLink) : (modLink n f s).ports = s.ports := rfl
@[simp] theorem modLink_weir (n : Fin 4) (f : LeatLink → LeatLink) : (modLink n f s).weir = s.weir := rfl
@[simp] theorem modLink_ntp (n : Fin 4) (f : LeatLink → LeatLink) : (modLink n f s).ntp = s.ntp := rfl
@[simp] theorem modLink_cli (n : Fin 4) (f : LeatLink → LeatLink) : (modLink n f s).cli = s.cli := rfl
@[simp] theorem modLink_leat (n : Fin 4) (f : LeatLink → LeatLink) : (modLink n f s).leat = { s.leat with link := s.leat.link.set n (f s.leat.link[n]) } := rfl
@[simp] theorem modLink_dress (n : Fin 4) (f : LeatLink → LeatLink) : (modLink n f s).dress = s.dress := rfl

/-! `modDress` -/

@[simp] theorem modDress_pending (f : Dresser → Dresser) : (modDress f s).pending = s.pending := rfl
@[simp] theorem modDress_out (f : Dresser → Dresser) : (modDress f s).out = s.out := rfl
@[simp] theorem modDress_wire (f : Dresser → Dresser) : (modDress f s).wire = s.wire := rfl
@[simp] theorem modDress_notes (f : Dresser → Dresser) : (modDress f s).notes = s.notes := rfl
@[simp] theorem modDress_clk (f : Dresser → Dresser) : (modDress f s).clk = s.clk := rfl
@[simp] theorem modDress_tb (f : Dresser → Dresser) : (modDress f s).tb = s.tb := rfl
@[simp] theorem modDress_ts (f : Dresser → Dresser) : (modDress f s).ts = s.ts := rfl
@[simp] theorem modDress_pll (f : Dresser → Dresser) : (modDress f s).pll = s.pll := rfl
@[simp] theorem modDress_cfg (f : Dresser → Dresser) : (modDress f s).cfg = s.cfg := rfl
@[simp] theorem modDress_ld (f : Dresser → Dresser) : (modDress f s).ld = s.ld := rfl
@[simp] theorem modDress_otp (f : Dresser → Dresser) : (modDress f s).otp = s.otp := rfl
@[simp] theorem modDress_rep (f : Dresser → Dresser) : (modDress f s).rep = s.rep := rfl
@[simp] theorem modDress_tele (f : Dresser → Dresser) : (modDress f s).tele = s.tele := rfl
@[simp] theorem modDress_pd0 (f : Dresser → Dresser) : (modDress f s).pd0 = s.pd0 := rfl
@[simp] theorem modDress_avs (f : Dresser → Dresser) : (modDress f s).avs = s.avs := rfl
@[simp] theorem modDress_mon (f : Dresser → Dresser) : (modDress f s).mon = s.mon := rfl
@[simp] theorem modDress_pwr (f : Dresser → Dresser) : (modDress f s).pwr = s.pwr := rfl
@[simp] theorem modDress_refs (f : Dresser → Dresser) : (modDress f s).refs = s.refs := rfl
@[simp] theorem modDress_gov (f : Dresser → Dresser) : (modDress f s).gov = s.gov := rfl
@[simp] theorem modDress_ho (f : Dresser → Dresser) : (modDress f s).ho = s.ho := rfl
@[simp] theorem modDress_outs (f : Dresser → Dresser) : (modDress f s).outs = s.outs := rfl
@[simp] theorem modDress_ic (f : Dresser → Dresser) : (modDress f s).ic = s.ic := rfl
@[simp] theorem modDress_gnss (f : Dresser → Dresser) : (modDress f s).gnss = s.gnss := rfl
@[simp] theorem modDress_core (f : Dresser → Dresser) : (modDress f s).core = s.core := rfl
@[simp] theorem modDress_garner (f : Dresser → Dresser) : (modDress f s).garner = s.garner := rfl
@[simp] theorem modDress_ports (f : Dresser → Dresser) : (modDress f s).ports = s.ports := rfl
@[simp] theorem modDress_weir (f : Dresser → Dresser) : (modDress f s).weir = s.weir := rfl
@[simp] theorem modDress_ntp (f : Dresser → Dresser) : (modDress f s).ntp = s.ntp := rfl
@[simp] theorem modDress_cli (f : Dresser → Dresser) : (modDress f s).cli = s.cli := rfl
@[simp] theorem modDress_leat (f : Dresser → Dresser) : (modDress f s).leat = s.leat := rfl
@[simp] theorem modDress_dress (f : Dresser → Dresser) : (modDress f s).dress = f s.dress := rfl

/-! `modAvs` -/

@[simp] theorem modAvs_pending (f : Avs → Avs) : (modAvs f s).pending = s.pending := rfl
@[simp] theorem modAvs_out (f : Avs → Avs) : (modAvs f s).out = s.out := rfl
@[simp] theorem modAvs_wire (f : Avs → Avs) : (modAvs f s).wire = s.wire := rfl
@[simp] theorem modAvs_notes (f : Avs → Avs) : (modAvs f s).notes = s.notes := rfl
@[simp] theorem modAvs_clk (f : Avs → Avs) : (modAvs f s).clk = s.clk := rfl
@[simp] theorem modAvs_tb (f : Avs → Avs) : (modAvs f s).tb = s.tb := rfl
@[simp] theorem modAvs_ts (f : Avs → Avs) : (modAvs f s).ts = s.ts := rfl
@[simp] theorem modAvs_pll (f : Avs → Avs) : (modAvs f s).pll = s.pll := rfl
@[simp] theorem modAvs_cfg (f : Avs → Avs) : (modAvs f s).cfg = s.cfg := rfl
@[simp] theorem modAvs_ld (f : Avs → Avs) : (modAvs f s).ld = s.ld := rfl
@[simp] theorem modAvs_otp (f : Avs → Avs) : (modAvs f s).otp = s.otp := rfl
@[simp] theorem modAvs_rep (f : Avs → Avs) : (modAvs f s).rep = s.rep := rfl
@[simp] theorem modAvs_tele (f : Avs → Avs) : (modAvs f s).tele = s.tele := rfl
@[simp] theorem modAvs_pd0 (f : Avs → Avs) : (modAvs f s).pd0 = s.pd0 := rfl
@[simp] theorem modAvs_avs (f : Avs → Avs) : (modAvs f s).avs = f s.avs := rfl
@[simp] theorem modAvs_mon (f : Avs → Avs) : (modAvs f s).mon = s.mon := rfl
@[simp] theorem modAvs_pwr (f : Avs → Avs) : (modAvs f s).pwr = s.pwr := rfl
@[simp] theorem modAvs_refs (f : Avs → Avs) : (modAvs f s).refs = s.refs := rfl
@[simp] theorem modAvs_gov (f : Avs → Avs) : (modAvs f s).gov = s.gov := rfl
@[simp] theorem modAvs_ho (f : Avs → Avs) : (modAvs f s).ho = s.ho := rfl
@[simp] theorem modAvs_outs (f : Avs → Avs) : (modAvs f s).outs = s.outs := rfl
@[simp] theorem modAvs_ic (f : Avs → Avs) : (modAvs f s).ic = s.ic := rfl
@[simp] theorem modAvs_gnss (f : Avs → Avs) : (modAvs f s).gnss = s.gnss := rfl
@[simp] theorem modAvs_core (f : Avs → Avs) : (modAvs f s).core = s.core := rfl
@[simp] theorem modAvs_garner (f : Avs → Avs) : (modAvs f s).garner = s.garner := rfl
@[simp] theorem modAvs_ports (f : Avs → Avs) : (modAvs f s).ports = s.ports := rfl
@[simp] theorem modAvs_weir (f : Avs → Avs) : (modAvs f s).weir = s.weir := rfl
@[simp] theorem modAvs_ntp (f : Avs → Avs) : (modAvs f s).ntp = s.ntp := rfl
@[simp] theorem modAvs_cli (f : Avs → Avs) : (modAvs f s).cli = s.cli := rfl
@[simp] theorem modAvs_leat (f : Avs → Avs) : (modAvs f s).leat = s.leat := rfl
@[simp] theorem modAvs_dress (f : Avs → Avs) : (modAvs f s).dress = s.dress := rfl

/-! `countBy` -/

@[simp] theorem countBy_pending (a n : Nat) : (countBy a n s).pending = s.pending := by unfold countBy; split <;> rfl
@[simp] theorem countBy_out (a n : Nat) : (countBy a n s).out = s.out := by unfold countBy; split <;> rfl
@[simp] theorem countBy_wire (a n : Nat) : (countBy a n s).wire = s.wire := by unfold countBy; split <;> rfl
@[simp] theorem countBy_clk (a n : Nat) : (countBy a n s).clk = s.clk := by unfold countBy; split <;> rfl
@[simp] theorem countBy_tb (a n : Nat) : (countBy a n s).tb = s.tb := by unfold countBy; split <;> rfl
@[simp] theorem countBy_ts (a n : Nat) : (countBy a n s).ts = s.ts := by unfold countBy; split <;> rfl
@[simp] theorem countBy_pll (a n : Nat) : (countBy a n s).pll = s.pll := by unfold countBy; split <;> rfl
@[simp] theorem countBy_cfg (a n : Nat) : (countBy a n s).cfg = s.cfg := by unfold countBy; split <;> rfl
@[simp] theorem countBy_ld (a n : Nat) : (countBy a n s).ld = s.ld := by unfold countBy; split <;> rfl
@[simp] theorem countBy_otp (a n : Nat) : (countBy a n s).otp = s.otp := by unfold countBy; split <;> rfl
@[simp] theorem countBy_rep (a n : Nat) : (countBy a n s).rep = s.rep := by unfold countBy; split <;> rfl
@[simp] theorem countBy_tele (a n : Nat) : (countBy a n s).tele = s.tele := by unfold countBy; split <;> rfl
@[simp] theorem countBy_pd0 (a n : Nat) : (countBy a n s).pd0 = s.pd0 := by unfold countBy; split <;> rfl
@[simp] theorem countBy_avs (a n : Nat) : (countBy a n s).avs = s.avs := by unfold countBy; split <;> rfl
@[simp] theorem countBy_mon (a n : Nat) : (countBy a n s).mon = s.mon := by unfold countBy; split <;> rfl
@[simp] theorem countBy_pwr (a n : Nat) : (countBy a n s).pwr = s.pwr := by unfold countBy; split <;> rfl
@[simp] theorem countBy_refs (a n : Nat) : (countBy a n s).refs = s.refs := by unfold countBy; split <;> rfl
@[simp] theorem countBy_gov (a n : Nat) : (countBy a n s).gov = s.gov := by unfold countBy; split <;> rfl
@[simp] theorem countBy_ho (a n : Nat) : (countBy a n s).ho = s.ho := by unfold countBy; split <;> rfl
@[simp] theorem countBy_outs (a n : Nat) : (countBy a n s).outs = s.outs := by unfold countBy; split <;> rfl
@[simp] theorem countBy_ic (a n : Nat) : (countBy a n s).ic = s.ic := by unfold countBy; split <;> rfl
@[simp] theorem countBy_gnss (a n : Nat) : (countBy a n s).gnss = s.gnss := by unfold countBy; split <;> rfl
@[simp] theorem countBy_core (a n : Nat) : (countBy a n s).core = s.core := by unfold countBy; split <;> rfl
@[simp] theorem countBy_garner (a n : Nat) : (countBy a n s).garner = s.garner := by unfold countBy; split <;> rfl
@[simp] theorem countBy_ports (a n : Nat) : (countBy a n s).ports = s.ports := by unfold countBy; split <;> rfl
@[simp] theorem countBy_weir (a n : Nat) : (countBy a n s).weir = s.weir := by unfold countBy; split <;> rfl
@[simp] theorem countBy_ntp (a n : Nat) : (countBy a n s).ntp = s.ntp := by unfold countBy; split <;> rfl
@[simp] theorem countBy_cli (a n : Nat) : (countBy a n s).cli = s.cli := by unfold countBy; split <;> rfl
@[simp] theorem countBy_leat (a n : Nat) : (countBy a n s).leat = s.leat := by unfold countBy; split <;> rfl
@[simp] theorem countBy_dress (a n : Nat) : (countBy a n s).dress = s.dress := by unfold countBy; split <;> rfl

/-- What an event leaves among the notes: its entry, newest. -/
@[simp] theorem emit_notes (c i j : Nat) : (emit c s i j).notes =
    .entry { code := c, inst1 := i, inst2 := j, stamp := stampNow s, compact := s.cfg.b03.timescale.stampFormat,
             stepEpoch := s.tb.stepCount, masked := eventMasked s.cfg.b10.attn c, valid := timeValid s } :: s.notes := rfl

end Sys2Proof.Machine
end

