-- ==== Sys2Proof/Laws/Ops.lean ====
section
/-!
SUPPORT. What the shared operations of Machine/Ops.lean can do: the passing of time, the forms in which a command answers, and the
counters' store.
-/

namespace Sys2Proof.Machine

variable (s : State)

/-! The passing of time changes the device clock, the time value, what is left of a microsecond in DIRECT, and a counter. -/

@[simp] theorem elapse_pending (n : Nat) : (elapse n s).pending = s.pending := by
  unfold elapse; simp only []; split
  · split <;> simp
  · rfl
@[simp] theorem elapse_out (n : Nat) : (elapse n s).out = s.out := by
  unfold elapse; simp only []; split
  · split <;> simp
  · rfl
@[simp] theorem elapse_wire (n : Nat) : (elapse n s).wire = s.wire := by
  unfold elapse; simp only []; split
  · split <;> simp
  · rfl
@[simp] theorem elapse_ts (n : Nat) : (elapse n s).ts = s.ts := by
  unfold elapse; simp only []; split
  · split <;> simp
  · rfl
@[simp] theorem elapse_cfg (n : Nat) : (elapse n s).cfg = s.cfg := by
  unfold elapse; simp only []; split
  · split <;> simp
  · rfl
@[simp] theorem elapse_ld (n : Nat) : (elapse n s).ld = s.ld := by
  unfold elapse; simp only []; split
  · split <;> simp
  · rfl
@[simp] theorem elapse_otp (n : Nat) : (elapse n s).otp = s.otp := by
  unfold elapse; simp only []; split
  · split <;> simp
  · rfl
@[simp] theorem elapse_rep (n : Nat) : (elapse n s).rep = s.rep := by
  unfold elapse; simp only []; split
  · split <;> simp
  · rfl
@[simp] theorem elapse_tele (n : Nat) : (elapse n s).tele = s.tele := by
  unfold elapse; simp only []; split
  · split <;> simp
  · rfl
@[simp] theorem elapse_pd0 (n : Nat) : (elapse n s).pd0 = s.pd0 := by
  unfold elapse; simp only []; split
  · split <;> simp
  · rfl
@[simp] theorem elapse_avs (n : Nat) : (elapse n s).avs = s.avs := by
  unfold elapse; simp only []; split
  · split <;> simp
  · rfl
@[simp] theorem elapse_mon (n : Nat) : (elapse n s).mon = s.mon := by
  unfold elapse; simp only []; split
  · split <;> simp
  · rfl
@[simp] theorem elapse_pwr (n : Nat) : (elapse n s).pwr = s.pwr := by
  unfold elapse; simp only []; split
  · split <;> simp
  · rfl
@[simp] theorem elapse_refs (n : Nat) : (elapse n s).refs = s.refs := by
  unfold elapse; simp only []; split
  · split <;> simp
  · rfl
@[simp] theorem elapse_gov (n : Nat) : (elapse n s).gov = s.gov := by
  unfold elapse; simp only []; split
  · split <;> simp
  · rfl
@[simp] theorem elapse_ho (n : Nat) : (elapse n s).ho = s.ho := by
  unfold elapse; simp only []; split
  · split <;> simp
  · rfl
@[simp] theorem elapse_outs (n : Nat) : (elapse n s).outs = s.outs := by
  unfold elapse; simp only []; split
  · split <;> simp
  · rfl
@[simp] theorem elapse_ic (n : Nat) : (elapse n s).ic = s.ic := by
  unfold elapse; simp only []; split
  · split <;> simp
  · rfl
@[simp] theorem elapse_gnss (n : Nat) : (elapse n s).gnss = s.gnss := by
  unfold elapse; simp only []; split
  · split <;> simp
  · rfl
@[simp] theorem elapse_core (n : Nat) : (elapse n s).core = s.core := by
  unfold elapse; simp only []; split
  · split <;> simp
  · rfl
@[simp] theorem elapse_garner (n : Nat) : (elapse n s).garner = s.garner := by
  unfold elapse; simp only []; split
  · split <;> simp
  · rfl
@[simp] theorem elapse_ports (n : Nat) : (elapse n s).ports = s.ports := by
  unfold elapse; simp only []; split
  · split <;> simp
  · rfl
@[simp] theorem elapse_weir (n : Nat) : (elapse n s).weir = s.weir := by
  unfold elapse; simp only []; split
  · split <;> simp
  · rfl
@[simp] theorem elapse_ntp (n : Nat) : (elapse n s).ntp = s.ntp := by
  unfold elapse; simp only []; split
  · split <;> simp
  · rfl
@[simp] theorem elapse_cli (n : Nat) : (elapse n s).cli = s.cli := by
  unfold elapse; simp only []; split
  · split <;> simp
  · rfl
@[simp] theorem elapse_leat (n : Nat) : (elapse n s).leat = s.leat := by
  unfold elapse; simp only []; split
  · split <;> simp
  · rfl
@[simp] theorem elapse_dress (n : Nat) : (elapse n s).dress = s.dress := by
  unfold elapse; simp only []; split
  · split <;> simp
  · rfl

theorem elapse_clk (n : Nat) : (elapse n s).clk = s.clk + n * clkPerAdvance s := by
  unfold elapse; simp only []; split
  · split <;> simp
  · rfl

/-- Time passing notes at most the whole microseconds in DIRECT (R108). -/
theorem elapse_notes (n : Nat) : (elapse n s).notes = s.notes ∨ ∃ k, (elapse n s).notes = .count 0x040013 k :: s.notes := by
  unfold elapse; simp only []; split
  · split
    · unfold countBy; split
      · exact .inl rfl
      · exact .inr ⟨_, rfl⟩
    · exact .inl rfl
  · exact .inl rfl

/-- With the timebase standing, the time value stands. -/
theorem elapse_tb_stopped (n : Nat) (h : s.tb.running = false) : (elapse n s).tb = s.tb := by
  unfold elapse; simp [h]

/-- The clock block keeps everything but the rest of a microsecond. -/
theorem elapse_pll (n : Nat) : (elapse n s).pll = { s.pll with directAcc := (elapse n s).pll.directAcc } := by
  unfold elapse; simp only []; split
  · split <;> simp
  · rfl

@[simp] theorem elapse_pll_tbState (n : Nat) : (elapse n s).pll.tbState = s.pll.tbState := by rw [elapse_pll]
@[simp] theorem elapse_pll_adpll (n : Nat) : (elapse n s).pll.adpll = s.pll.adpll := by rw [elapse_pll]
@[simp] theorem elapse_pll_roleTb (n : Nat) : (elapse n s).pll.roleTb = s.pll.roleTb := by rw [elapse_pll]
@[simp] theorem elapse_pll_roleCk (n : Nat) : (elapse n s).pll.roleCk = s.pll.roleCk := by rw [elapse_pll]
@[simp] theorem elapse_pll_roleSd (n : Nat) : (elapse n s).pll.roleSd = s.pll.roleSd := by rw [elapse_pll]
@[simp] theorem elapse_pll_unfilled (n : Nat) : (elapse n s).pll.unfilled = s.pll.unfilled := by rw [elapse_pll]
@[simp] theorem elapse_pll_spare (n : Nat) : (elapse n s).pll.spare = s.pll.spare := by rw [elapse_pll]
@[simp] theorem elapse_pll_incoming (n : Nat) : (elapse n s).pll.incoming = s.pll.incoming := by rw [elapse_pll]
@[simp] theorem elapse_pll_savedTb (n : Nat) : (elapse n s).pll.savedTb = s.pll.savedTb := by rw [elapse_pll]
@[simp] theorem elapse_pll_savedSd (n : Nat) : (elapse n s).pll.savedSd = s.pll.savedSd := by rw [elapse_pll]
@[simp] theorem elapse_pll_savedCk (n : Nat) : (elapse n s).pll.savedCk = s.pll.savedCk := by rw [elapse_pll]
@[simp] theorem elapse_pll_oscinPresent (n : Nat) : (elapse n s).pll.oscinPresent = s.pll.oscinPresent := by rw [elapse_pll]
@[simp] theorem elapse_pll_oscFault (n : Nat) : (elapse n s).pll.oscFault = s.pll.oscFault := by rw [elapse_pll]
@[simp] theorem elapse_pll_detectDue (n : Nat) : (elapse n s).pll.detectDue = s.pll.detectDue := by rw [elapse_pll]
@[simp] theorem elapse_pll_detectValid (n : Nat) : (elapse n s).pll.detectValid = s.pll.detectValid := by rw [elapse_pll]
@[simp] theorem elapse_pll_detected (n : Nat) : (elapse n s).pll.detected = s.pll.detected := by rw [elapse_pll]
@[simp] theorem elapse_pll_measHz (n : Nat) : (elapse n s).pll.measHz = s.pll.measHz := by rw [elapse_pll]
@[simp] theorem elapse_pll_ckRetune (n : Nat) : (elapse n s).pll.ckRetune = s.pll.ckRetune := by rw [elapse_pll]
@[simp] theorem elapse_pll_holdSince (n : Nat) : (elapse n s).pll.holdSince = s.pll.holdSince := by rw [elapse_pll]
@[simp] theorem elapse_pll_oscin (n : Nat) : (elapse n s).pll.oscin = s.pll.oscin := by rw [elapse_pll]
@[simp] theorem elapse_pll_oscinFixed (n : Nat) : (elapse n s).pll.oscinFixed = s.pll.oscinFixed := by rw [elapse_pll]

@[simp] theorem elapse_tb_running (n : Nat) : (elapse n s).tb.running = s.tb.running := by
  unfold elapse; simp only []; split
  · split <;> simp [advance, addSub] <;> split <;> rfl
  · rfl
@[simp] theorem elapse_tb_w (n : Nat) : (elapse n s).tb.w = s.tb.w := by
  unfold elapse; simp only []; split
  · split <;> simp [advance, addSub] <;> split <;> rfl
  · rfl
@[simp] theorem elapse_tb_stepCount (n : Nat) : (elapse n s).tb.stepCount = s.tb.stepCount := by
  unfold elapse; simp only []; split
  · split <;> simp [advance, addSub] <;> split <;> rfl
  · rfl
@[simp] theorem elapse_tb_lastStepSec (n : Nat) : (elapse n s).tb.lastStepSec = s.tb.lastStepSec := by
  unfold elapse; simp only []; split
  · split <;> simp [advance, addSub] <;> split <;> rfl
  · rfl
@[simp] theorem elapse_tb_lastStepNs (n : Nat) : (elapse n s).tb.lastStepNs = s.tb.lastStepNs := by
  unfold elapse; simp only []; split
  · split <;> simp [advance, addSub] <;> split <;> rfl
  · rfl
@[simp] theorem elapse_tb_markerSec (n : Nat) : (elapse n s).tb.markerSec = s.tb.markerSec := by
  unfold elapse; simp only []; split
  · split <;> simp [advance, addSub] <;> split <;> rfl
  · rfl
@[simp] theorem elapse_tb_lastTick (n : Nat) : (elapse n s).tb.lastTick = s.tb.lastTick := by
  unfold elapse; simp only []; split
  · split <;> simp [advance, addSub] <;> split <;> rfl
  · rfl

/-! The state a command starts from. -/

@[simp] theorem begin_pending (n : Nat) : (begin n s).pending = s.pending := by simp [begin]
@[simp] theorem begin_ts (n : Nat) : (begin n s).ts = s.ts := by simp [begin]
@[simp] theorem begin_cfg (n : Nat) : (begin n s).cfg = s.cfg := by simp [begin]
@[simp] theorem begin_ld (n : Nat) : (begin n s).ld = s.ld := by simp [begin]
@[simp] theorem begin_otp (n : Nat) : (begin n s).otp = s.otp := by simp [begin]
@[simp] theorem begin_rep (n : Nat) : (begin n s).rep = s.rep := by simp [begin]
@[simp] theorem begin_tele (n : Nat) : (begin n s).tele = s.tele := by simp [begin]
@[simp] theorem begin_pd0 (n : Nat) : (begin n s).pd0 = s.pd0 := by simp [begin]
@[simp] theorem begin_avs (n : Nat) : (begin n s).avs = s.avs := by simp [begin]
@[simp] theorem begin_mon (n : Nat) : (begin n s).mon = s.mon := by simp [begin]
@[simp] theorem begin_pwr (n : Nat) : (begin n s).pwr = s.pwr := by simp [begin]
@[simp] theorem begin_refs (n : Nat) : (begin n s).refs = s.refs := by simp [begin]
@[simp] theorem begin_gov (n : Nat) : (begin n s).gov = s.gov := by simp [begin]
@[simp] theorem begin_ho (n : Nat) : (begin n s).ho = s.ho := by simp [begin]
@[simp] theorem begin_outs (n : Nat) : (begin n s).outs = s.outs := by simp [begin]
@[simp] theorem begin_ic (n : Nat) : (begin n s).ic = s.ic := by simp [begin]
@[simp] theorem begin_gnss (n : Nat) : (begin n s).gnss = s.gnss := by simp [begin]
@[simp] theorem begin_core (n : Nat) : (begin n s).core = s.core := by simp [begin]
@[simp] theorem begin_garner (n : Nat) : (begin n s).garner = s.garner := by simp [begin]
@[simp] theorem begin_ports (n : Nat) : (begin n s).ports = s.ports := by simp [begin]
@[simp] theorem begin_weir (n : Nat) : (begin n s).weir = s.weir := by simp [begin]
@[simp] theorem begin_ntp (n : Nat) : (begin n s).ntp = s.ntp := by simp [begin]
@[simp] theorem begin_cli (n : Nat) : (begin n s).cli = s.cli := by simp [begin]
@[simp] theorem begin_leat (n : Nat) : (begin n s).leat = s.leat := by simp [begin]
@[simp] theorem begin_dress (n : Nat) : (begin n s).dress = s.dress := by simp [begin]
@[simp] theorem begin_out (n : Nat) : (begin n s).out = [] := by simp [begin]
@[simp] theorem begin_wire (n : Nat) : (begin n s).wire = [] := by simp [begin]
@[simp] theorem begin_pll_tbState (n : Nat) : (begin n s).pll.tbState = s.pll.tbState := by simp [begin]
@[simp] theorem begin_pll_adpll (n : Nat) : (begin n s).pll.adpll = s.pll.adpll := by simp [begin]
@[simp] theorem begin_pll_roleTb (n : Nat) : (begin n s).pll.roleTb = s.pll.roleTb := by simp [begin]
@[simp] theorem begin_pll_roleCk (n : Nat) : (begin n s).pll.roleCk = s.pll.roleCk := by simp [begin]
@[simp] theorem begin_pll_roleSd (n : Nat) : (begin n s).pll.roleSd = s.pll.roleSd := by simp [begin]
@[simp] theorem begin_pll_unfilled (n : Nat) : (begin n s).pll.unfilled = s.pll.unfilled := by simp [begin]
@[simp] theorem begin_pll_spare (n : Nat) : (begin n s).pll.spare = s.pll.spare := by simp [begin]
@[simp] theorem begin_pll_incoming (n : Nat) : (begin n s).pll.incoming = s.pll.incoming := by simp [begin]
@[simp] theorem begin_pll_savedTb (n : Nat) : (begin n s).pll.savedTb = s.pll.savedTb := by simp [begin]
@[simp] theorem begin_pll_savedSd (n : Nat) : (begin n s).pll.savedSd = s.pll.savedSd := by simp [begin]
@[simp] theorem begin_pll_savedCk (n : Nat) : (begin n s).pll.savedCk = s.pll.savedCk := by simp [begin]
@[simp] theorem begin_pll_oscinPresent (n : Nat) : (begin n s).pll.oscinPresent = s.pll.oscinPresent := by simp [begin]
@[simp] theorem begin_pll_oscFault (n : Nat) : (begin n s).pll.oscFault = s.pll.oscFault := by simp [begin]
@[simp] theorem begin_pll_detectDue (n : Nat) : (begin n s).pll.detectDue = s.pll.detectDue := by simp [begin]
@[simp] theorem begin_pll_detectValid (n : Nat) : (begin n s).pll.detectValid = s.pll.detectValid := by simp [begin]
@[simp] theorem begin_pll_detected (n : Nat) : (begin n s).pll.detected = s.pll.detected := by simp [begin]
@[simp] theorem begin_pll_measHz (n : Nat) : (begin n s).pll.measHz = s.pll.measHz := by simp [begin]
@[simp] theorem begin_pll_ckRetune (n : Nat) : (begin n s).pll.ckRetune = s.pll.ckRetune := by simp [begin]
@[simp] theorem begin_pll_holdSince (n : Nat) : (begin n s).pll.holdSince = s.pll.holdSince := by simp [begin]
@[simp] theorem begin_pll_oscin (n : Nat) : (begin n s).pll.oscin = s.pll.oscin := by simp [begin]
@[simp] theorem begin_pll_oscinFixed (n : Nat) : (begin n s).pll.oscinFixed = s.pll.oscinFixed := by simp [begin]
@[simp] theorem begin_tb_running (n : Nat) : (begin n s).tb.running = s.tb.running := by simp [begin]
@[simp] theorem begin_tb_w (n : Nat) : (begin n s).tb.w = s.tb.w := by simp [begin]
@[simp] theorem begin_tb_stepCount (n : Nat) : (begin n s).tb.stepCount = s.tb.stepCount := by simp [begin]
@[simp] theorem begin_tb_lastStepSec (n : Nat) : (begin n s).tb.lastStepSec = s.tb.lastStepSec := by simp [begin]
@[simp] theorem begin_tb_lastStepNs (n : Nat) : (begin n s).tb.lastStepNs = s.tb.lastStepNs := by simp [begin]
@[simp] theorem begin_tb_markerSec (n : Nat) : (begin n s).tb.markerSec = s.tb.markerSec := by simp [begin]
@[simp] theorem begin_tb_lastTick (n : Nat) : (begin n s).tb.lastTick = s.tb.lastTick := by simp [begin]

theorem begin_notes (n : Nat) : (begin n s).notes = [] ∨ ∃ k, (begin n s).notes = [.count 0x040013 k] := by
  unfold begin
  rcases elapse_notes { s with out := [], wire := [], notes := [] } n with h | ⟨k, h⟩
  · exact .inl h
  · exact .inr ⟨k, h⟩

/-! What the four forms of a command answer. -/

theorem act_next (dt : Nat) (f : State → State) : act dt f s = .next { f (begin dt s) with
    pd0 := s.pd0, pending := s.pending, otp := s.otp, tb := (begin dt s).tb, clk := (begin dt s).clk
    rep := applyNotes (f (begin dt s)).notes s.rep, notes := [] } := rfl

theorem actPd0_next (dt : Nat) (f : State → State) : actPd0 dt f s = .next { f (begin dt s) with
    pending := s.pending, otp := s.otp, tb := (begin dt s).tb, clk := (begin dt s).clk
    rep := applyNotes (f (begin dt s)).notes s.rep, notes := [] } := rfl

theorem actTime_next (dt : Nat) (f : State → State) : actTime dt f s = .next { f (begin dt s) with
    pending := s.pending, otp := s.otp, rep := applyNotes (f (begin dt s)).notes s.rep, notes := [] } := rfl

theorem actOtp_next (dt : Nat) (f : State → State) : actOtp dt f s = .next { f (begin dt s) with
    pending := s.pending, pd0 := s.pd0, tb := (begin dt s).tb, clk := (begin dt s).clk
    rep := applyNotes (f (begin dt s)).notes s.rep, notes := [] } := rfl

/-! The report. -/

@[simp] theorem applyNotes_nil (r : Report) : applyNotes [] r = r := rfl

@[simp] theorem applyNotes_cons (n : Note) (ns : List Note) (r : Report) :
    applyNotes (n :: ns) r = applyNote n (applyNotes ns r) := rfl

theorem applyNotes_append (a b : List Note) (r : Report) : applyNotes (a ++ b) r = applyNotes a (applyNotes b r) := by
  simp [applyNotes, List.foldr_append]

/-- A counter note leaves the ring and the attention part. -/
@[simp] theorem applyNote_count_ring (a k : Nat) (r : Report) : (applyNote (.count a k) r).ring = r.ring := rfl
@[simp] theorem applyNote_count_attnPending (a k : Nat) (r : Report) : (applyNote (.count a k) r).attnPending = r.attnPending := rfl
@[simp] theorem applyNote_count_attnLow (a k : Nat) (r : Report) : (applyNote (.count a k) r).attnLow = r.attnLow := rfl

/-- An entry note puts its entry at the head of the ring. -/
@[simp] theorem applyNote_entry_head (e : EvEntry) (r : Report) : (applyNote (.entry e) r).ring.head? = some e := by
  simp only [applyNote]; split <;> rfl

@[simp] theorem applyNote_entry_cnt (e : EvEntry) (r : Report) : (applyNote (.entry e) r).cnt = r.cnt := by
  simp only [applyNote]; split <;> rfl

/-! The counters' store keeps its canonical form. -/

theorem rising_tail {α : Type} {a : Nat × α} {l : List (Nat × α)} (h : rising (a :: l) = true) : rising l = true := by
  cases l with
  | nil => rfl
  | cons b r => simp only [rising, Bool.and_eq_true] at h; exact h.2

theorem rising_head {α : Type} {a b : Nat × α} {l : List (Nat × α)} (h : rising (a :: l) = true) (hb : b ∈ l) : a.1 < b.1 := by
  induction l generalizing a with
  | nil => cases hb
  | cons c r ih =>
    simp only [rising, Bool.and_eq_true, decide_eq_true_eq] at h
    rcases List.mem_cons.1 hb with rfl | hb
    · exact h.1
    · exact Nat.lt_trans h.1 (ih h.2 hb)

theorem rising_cons {α : Type} {a : Nat × α} {l : List (Nat × α)} (h : rising l = true) (ha : ∀ b ∈ l, a.1 < b.1) :
    rising (a :: l) = true := by
  cases l with
  | nil => rfl
  | cons b r => simp only [rising, Bool.and_eq_true, decide_eq_true_eq]; exact ⟨ha b (by simp), h⟩

theorem rising_filter {α : Type} {l : List (Nat × α)} (p : Nat × α → Bool) (h : rising l = true) : rising (l.filter p) = true := by
  induction l with
  | nil => rfl
  | cons a r ih =>
    have first : ∀ c ∈ r, a.1 < c.1 := fun _ hc => rising_head h hc
    grind [rising_cons, rising_tail]

/-- What stands in the store after a counter is set. -/
theorem mem_cntSet {a v : Nat} {l : List (Nat × Nat)} {e : Nat × Nat} (h : e ∈ cntSet a v l) : e ∈ l ∨ (e = (a, v) ∧ v ≠ 0) := by
  induction l <;> grind [cntSet]

/-- Setting a counter keeps the addresses rising. -/
theorem rising_cntSet (a v : Nat) {l : List (Nat × Nat)} (h : rising l = true) : rising (cntSet a v l) = true := by
  induction l with
  | nil => grind [cntSet, rising]
  | cons b r ih =>
    have new := @mem_cntSet a v r
    have first : ∀ c ∈ r, b.1 < c.1 := fun _ hc => rising_head h hc
    grind [cntSet, rising_cons, rising_tail]

/-- Setting a counter within its field's width keeps the store canonical. -/
theorem cntSet_wf (a v : Nat) {l : List (Nat × Nat)} (h : counterWf l = true) (hv : v ≤ rcMax a) : counterWf (cntSet a v l) = true := by
  simp only [counterWf, Bool.and_eq_true, List.all_eq_true, decide_eq_true_eq] at h ⊢
  refine ⟨rising_cntSet a v h.1, fun e he => ?_⟩
  rcases mem_cntSet he with he | ⟨rfl, h0⟩
  · exact h.2 e he
  · exact ⟨Nat.pos_of_ne_zero h0, hv⟩

/-- A counter just set reads as set. -/
theorem cntGet_cntSet (a v : Nat) {l : List (Nat × Nat)} (h : rising l = true) : cntGet a (cntSet a v l) = v := by
  have absent (l : List (Nat × Nat)) (hb : ∀ b ∈ l, a < b.1) : cntGet a l = 0 := by
    induction l <;> grind [cntGet]
  induction l with
  | nil => grind [cntSet, cntGet]
  | cons b r ih =>
    have first : ∀ c ∈ r, b.1 < c.1 := fun _ hc => rising_head h hc
    grind [cntSet, cntGet, rising_tail]

/-- Every other counter reads as before. -/
theorem cntGet_cntSet_ne {a b : Nat} (v : Nat) (l : List (Nat × Nat)) (h : b ≠ a) : cntGet b (cntSet a v l) = cntGet b l := by
  induction l <;> grind [cntSet, cntGet]

/-- What an event's entry rests on: the configuration, the time value, the timebase's state and the mode. -/
theorem eventNote_congr {a b : State} (code i j : Nat) (h1 : a.cfg = b.cfg) (h2 : a.tb = b.tb) (h3 : a.pll.tbState = b.pll.tbState)
    (h4 : a.pwr = b.pwr) : eventNote code a i j = eventNote code b i j := by
  simp only [eventNote, stampNow, nowUnits, degradedNow, timeValid, h1, h2, h3, h4]

/-! The Tally: a sample changes the telemetry block and the notes alone. -/

/-- A limited event changes the telemetry block and the notes. -/
theorem emitLimited_frame (code i : Nat) : ∃ te ns, emitLimited code i s = { s with tele := te, notes := ns } := by
  unfold emitLimited emitOncePer
  split
  · split
    · exact ⟨_, _, rfl⟩
    · exact ⟨_, _, rfl⟩
  · exact ⟨_, _, rfl⟩

/-- The limit of a monitor changes the telemetry block and the notes. -/
theorem tallyLimit_frame (n : Fin 24) (v : Int) : ∃ te ns, tallyLimit n v s = { s with tele := te, notes := ns } := by
  unfold tallyLimit
  simp only []
  split
  · exact emitLimited_frame s _ _
  · exact ⟨_, _, rfl⟩

/-- A fold of steps that change the telemetry block and the notes changes only these. -/
theorem foldl_tele_frame {α : Type} (f : State → α → State) (h : ∀ s a, ∃ te ns, f s a = { s with tele := te, notes := ns }) :
    ∀ (l : List α) (s : State), ∃ te ns, l.foldl f s = { s with tele := te, notes := ns } := by
  intro l
  induction l with
  | nil => exact fun s => ⟨_, _, rfl⟩
  | cons a r ih =>
    intro s
    obtain ⟨te, ns, e⟩ := h s a
    obtain ⟨te2, ns2, e2⟩ := ih { s with tele := te, notes := ns }
    exact ⟨te2, ns2, by rw [List.foldl_cons, e, e2]⟩

/-- A sample delivered to the Tally changes the telemetry block and the notes. -/
theorem tallySample_frame (src inst : Nat) (v : Int) : ∃ te ns, tallySample src inst v s = { s with tele := te, notes := ns } := by
  unfold tallySample
  refine foldl_tele_frame _ (fun s n => ?_) _ s
  simp only []
  split
  · obtain ⟨te, ns, e⟩ := tallyLimit_frame (modMonitor n (fun m => { m with live := tallyAdd (s.cfg.b10.tally[n]).tallyShift v m.live }) s) n v
    exact ⟨te, ns, by rw [e]; rfl⟩
  · exact ⟨_, _, rfl⟩

end Sys2Proof.Machine
end

