-- ==== Sys2Proof/Laws/Garner.lean ====
section
/-!
SUPPORT. The Garner's memory keeps its canonical form under each operation on it, and a record read back is the record stored.
-/

namespace Sys2Proof.Machine

theorem mem_putIndexed {α : Type} {i : Nat} {x : α} {l : List (Nat × α)} {e : Nat × α} (h : e ∈ putIndexed i x l) :
    e ∈ l ∨ e = (i, x) := by
  induction l <;> grind [putIndexed]

theorem rising_putIndexed {α : Type} (i : Nat) (x : α) {l : List (Nat × α)} (h : rising l = true) :
    rising (putIndexed i x l) = true := by
  induction l with
  | nil => grind [putIndexed, rising]
  | cons b r ih =>
    have new := @mem_putIndexed α i x r
    have first : ∀ c ∈ r, b.1 < c.1 := fun _ hc => rising_head h hc
    grind [putIndexed, rising_cons, rising_tail]

theorem rising_setIndexed {α : Type} [DecidableEq α] (d : α) (i : Nat) (x : α) {l : List (Nat × α)} (h : rising l = true) :
    rising (setIndexed d i x l) = true := by
  unfold setIndexed
  split
  · exact rising_filter _ h
  · exact rising_putIndexed _ _ h

theorem mem_setIndexed {α : Type} [DecidableEq α] {d : α} {i : Nat} {x : α} {l : List (Nat × α)} {e : Nat × α}
    (h : e ∈ setIndexed d i x l) : e ∈ l ∨ (e = (i, x) ∧ x ≠ d) := by
  unfold setIndexed at h
  split at h
  · exact .inl (List.mem_filter.1 h).1
  · rename_i hx
    exact (mem_putIndexed h).imp id fun h => ⟨h, hx⟩

theorem wf_iff {g : Garner} : Memory.wf g = true ↔ ((rising g.rate = true ∧ rising g.grant = true) ∧ (∀ e ∈ g.rate, e.2 ≠ {})) ∧
    ∀ e ∈ g.grant, e.2 ≠ {} := by
  simp [Memory.wf, and_assoc]

/-- Storing a rate record keeps the canonical form. -/
theorem setRate_wf (i : Nat) (r : RateRec) (s : State) (h : Memory.wf s.garner = true) : Memory.wf (setRate i r s).garner = true := by
  rw [wf_iff] at h ⊢
  refine ⟨⟨⟨rising_setIndexed _ _ _ h.1.1.1, h.1.1.2⟩, fun e he => ?_⟩, h.2⟩
  rcases mem_setIndexed he with he | ⟨rfl, hx⟩
  · exact h.1.2 e he
  · exact hx

/-- Storing a grant record keeps the canonical form. -/
theorem setGrantRec_wf (i : Nat) (r : GrantRec) (s : State) (h : Memory.wf s.garner = true) :
    Memory.wf (setGrantRec i r s).garner = true := by
  rw [wf_iff] at h ⊢
  refine ⟨⟨⟨h.1.1.1, rising_setIndexed _ _ _ h.1.1.2⟩, h.1.2⟩, fun e he => ?_⟩
  rcases mem_setIndexed he with he | ⟨rfl, hx⟩
  · exact h.2 e he
  · exact hx

/-- A rate record made invalid (R455) leaves the memory canonical. -/
theorem dropRate_wf (i : Nat) (s : State) (h : Memory.wf s.garner = true) : Memory.wf (dropRate i s).garner = true :=
  setRate_wf _ _ s h

/-- As `dropRate_wf`, for a grant record and the second of its pair. -/
theorem dropGrant_wf (i : Nat) (s : State) (h : Memory.wf s.garner = true) : Memory.wf (dropGrant i s).garner = true := by
  unfold dropGrant
  simp only []
  split
  · exact setGrantRec_wf _ _ _ (setGrantRec_wf _ _ _ h)
  · exact setGrantRec_wf _ _ _ h

/-- A write beat on a grant record leaves the memory canonical. -/
theorem writeGrant_wf (g : Nat) (r : GrantRec) (s : State) (h : Memory.wf s.garner = true) :
    Memory.wf (writeGrant g r s).garner = true := by
  unfold writeGrant
  simp only []
  have one := setGrantRec_wf g { r with seq := false } s h
  have two (x : GrantRec) := setGrantRec_wf (g + 1) x _ one
  generalize hs : (if r.v6 = true then _ else _) = s1
  have kept : Memory.wf s1.garner = true := by
    rw [← hs]
    split
    · exact two _
    · exact one
  split <;> split <;> exact kept

theorem rising_map {α : Type} (f : Nat → α → α) {l : List (Nat × α)} (h : rising l = true) :
    rising (l.map fun e => (e.1, f e.1 e.2)) = true := by
  induction l with
  | nil => rfl
  | cons a r ih =>
    cases r with
    | nil => rfl
    | cons b t =>
      have := ih (rising_tail h)
      grind [rising]

/-- Every entry of a list changed leaves it canonical. -/
theorem rising_voidAll {α : Type} [DecidableEq α] (d : α) (f : Nat → α → α) {l : List (Nat × α)} (h : rising l = true) :
    rising (voidAll d f l) = true := rising_filter _ (rising_map f h)

theorem mem_voidAll {α : Type} [DecidableEq α] {d : α} {f : Nat → α → α} {l : List (Nat × α)} {e : Nat × α} (h : e ∈ voidAll d f l) :
    e.2 ≠ d := by simpa using (List.mem_filter.1 h).2

/-- The serving half's reset at LOAD entry, which makes every record invalid, leaves the memory canonical (R57). -/
theorem voided_wf (f : Nat → RateRec → RateRec) (k : Nat → GrantRec → GrantRec) (g : Garner) (h : Memory.wf g = true) :
    Memory.wf { g with rate := voidAll {} f g.rate, grant := voidAll {} k g.grant } = true := by
  rw [wf_iff] at h ⊢
  exact ⟨⟨⟨rising_voidAll _ f h.1.1.1, rising_voidAll _ k h.1.1.2⟩, fun _ he => mem_voidAll he⟩, fun _ he => mem_voidAll he⟩

/-- A bank cleared (R57, R461) leaves the memory canonical. -/
theorem clearBank_wf (b : Fin 48) (s : State) (h : Memory.wf s.garner = true) : Memory.wf (clearBank b s).garner = true :=
  voided_wf _ _ _ h

/-- The update of a bank's arbiter, holder, shadow or map leaves the memory. -/
theorem modBank_wf (b : Fin 48) (f : Bank → Bank) (s : State) (h : Memory.wf s.garner = true) :
    Memory.wf (modBank b f s).garner = true := h

/-- The memory after reset is canonical. -/
theorem reset_memory_wf : Memory.wf State.reset.garner = true := rfl

theorem getIndexed_putIndexed {α : Type} (i : Nat) (x : α) (l : List (Nat × α)) : getIndexed i (putIndexed i x l) = some x := by
  induction l <;> grind [putIndexed, getIndexed]

/-- A rate record read back is the one stored (R277). -/
theorem rateRec_setRate (i : Nat) (r : RateRec) (s : State) : rateRec (setRate i r s) i = r := by
  simp only [rateRec, setRate, modGarner, setIndexed]
  split
  · rename_i h
    have : ((s.garner.rate.filter fun e => e.1 != i).find? fun e => e.1 == i) = none := by
      rw [List.find?_eq_none]
      intro e he
      simpa using (List.mem_filter.1 he).2
    simp [getIndexed, this, h]
  · rw [getIndexed_putIndexed]; rfl

end Sys2Proof.Machine
end

