-- ==== Sys2Proof/Laws/Siv.lean ====
section
/-!
SUPPORT. What AES-SIV-CMAC-256 seals opens again (R315), whatever the AES block is.
-/

namespace Sys2Proof.Machine

/-- Counter mode twice under one V is the identity. -/
theorem ctrMode_ctrMode (key : Bytes) (v : Nat) (p : Bytes) : ctrMode key v (ctrMode key v p) = p := by
  apply List.ext_getElem
  · simp [ctrMode]
  · intro i _ _
    simp [ctrMode, BitVec.xor_assoc]

/-- A number within its bytes is read back from them. -/
theorem beNat_beBytes (w n : Nat) (h : n < 256 ^ w) : beNat (beBytes w n) = n := by
  induction w generalizing n with
  | zero => simp [beBytes, beNat]; omega
  | succ w ih =>
    have hw : n / 256 < 256 ^ w := by rw [Nat.pow_succ] at h; omega
    have := ih (n / 256) hw
    simp only [beBytes, beNat, List.foldl_append, List.foldl_cons, List.foldl_nil] at this ⊢
    rw [this]
    simp only [BitVec.toNat_ofNat]
    omega

theorem cmac_lt (key m : Bytes) : cmac key m < 2 ^ 128 := Nat.mod_lt _ (by decide)

theorem s2v_lt (key : Bytes) (ads : List Bytes) (p : Bytes) : s2v key ads p < 2 ^ 128 := by
  unfold s2v
  simp only []
  split <;> exact cmac_lt _ _

/-- Sealing and opening agree: under the same key, associated data and nonce the plaintext comes back. -/
theorem sivOpen_sivSeal (key : Bytes) (ads : List Bytes) (nonce p : Bytes) :
    sivOpen key ads nonce (sivSeal key ads nonce p).1 (sivSeal key ads nonce p).2 = some p := by
  have h : beNat (sivSeal key ads nonce p).1 = s2v (sivMacKey key) (ads ++ [nonce]) p :=
    beNat_beBytes 16 _ (by simpa using s2v_lt (sivMacKey key) (ads ++ [nonce]) p)
  have e : (sivSeal key ads nonce p).2 = ctrMode (sivCtrKey key) (s2v (sivMacKey key) (ads ++ [nonce]) p) p := rfl
  unfold sivOpen
  simp only [h, e, ctrMode_ctrMode]
  simp [sivSeal]

end Sys2Proof.Machine
end

