-- ==== Sys2Proof/Laws/Spares.lean ====
section
/-!
SUPPORT. What the Dresser's shared operations and the draw on the KoD budget change, and that they change nothing else.
-/

namespace Sys2Proof.Machine

/-- The maps are kept in retention RAM, and nothing else changes (R452). -/
theorem keepMaps_eq (s : State) : keepMaps s = { s with pd0 := { s.pd0 with maps := keep (mapsOf s) s.pd0.maps } } := rfl

@[simp] theorem keepMaps_maps (s : State) : (keepMaps s).pd0.maps = keep (mapsOf s) s.pd0.maps := rfl

@[simp] theorem keepMaps_dress (s : State) : (keepMaps s).dress = s.dress := rfl

@[simp] theorem keepMaps_core (s : State) : (keepMaps s).core = s.core := rfl

@[simp] theorem keepMaps_notes (s : State) : (keepMaps s).notes = s.notes := rfl

/-- A changed reserve reports and is kept; the Millstones, the retired maps and what waits stay (R451, R452). -/
theorem checkReserve_core (k : Fin 12) (s : State) : (checkReserve k s).core = s.core := by
  unfold checkReserve
  simp only [keepMaps_core]
  split <;> split <;> rfl

theorem checkReserve_retired (k : Fin 12) (s : State) : (checkReserve k s).dress.retired = s.dress.retired := by
  unfold checkReserve
  simp only [keepMaps_dress]
  split <;> split <;> rfl

/-- A PRECEDENCE request draws nothing on the KoD budget (R371). -/
@[simp] theorem drawKod_prec (cost : Nat) (s : State) : drawKod .prec cost s = (true, s) := rfl

/-- Every other request draws its cost (R377). -/
theorem drawKod_other {c : Cls} (h : c ≠ .prec) (cost : Nat) (s : State) : drawKod c cost s = chargeKod cost s := if_neg h

end Sys2Proof.Machine
end

