-- ==== Sys2Proof/WellFormed.lean ====
section
/-!
DEFINITION. Which terms of `Instr` are commands that can occur: operands within the widths and counts their interfaces give them. A
meaning is total, and takes an ill-formed term as its own text says.
-/

namespace Sys2Proof

/-- Retention items named at most once per copy (R475). -/
def noRepeats (l : List (RetItem × Bool)) : Bool := l.eraseDups.length == l.length

/-- A record as the parse pass delivers it (R40, R41): at least its 8-byte header. -/
def recordWhole (r : Bytes) : Bool := decide (8 ≤ r.length)

/-- The PRN of a GPS satellite (R169). -/
def prnOk (n : Nat) : Bool := decide (1 ≤ n ∧ n ≤ 32)

/-- The fields of subframe 4, page 18 that R76 reads, within their widths. -/
def utcOk (u : GpsUtc) : Bool := decide (u.wnLsf < 2 ^ 8) && decide (1 ≤ u.dn ∧ u.dn ≤ 7)

/-- The units of a kind (R450). -/
def kindUnits (k : Fin 12) : Nat :=
  match k.val with
  | 0 => 40
  | 1 => 52
  | 2 => 18432
  | 3 => 12
  | 4 => 4
  | 5 => 32
  | 6 | 7 => 5
  | _ => 2

/-- A record index the Garner has (R276). -/
def targetOk (t : UeTarget) : Bool :=
  match t with
  | .hopperRequest _ _ | .hopperCell _ => true
  | .rateRecord i => decide (i < 2 ^ 22)
  | .grantRecord g => decide (g < 2 ^ 20)

/-- PMBus words of 16 bits at most (R480). -/
def takeoverOk (r : AvsTakeover) : Bool := r.voutMode.all (fun v => decide (v < 2 ^ 8)) && r.voutMv.all fun v => decide (v < 2 ^ 16)

/-- The widths of a PTP message's fields (R331). -/
def ptpOk (m : PtpMsg) : Bool :=
  decide (m.messageType < 2 ^ 4) && decide (m.majorSdoId < 2 ^ 4) && decide (m.domain < 2 ^ 8) && decide (m.clockId < 2 ^ 64) &&
  decide (m.portNumber < 2 ^ 16) && decide (m.seqId < 2 ^ 16)

/-- The widths of a frame's fields (R245, R246). -/
def frameOk (f : Frame) : Bool :=
  decide (f.dst < 2 ^ 48) && decide (f.src < 2 ^ 48) && decide (f.etherType < 2 ^ 16) &&
  f.tags.all (fun t => decide (t.1 < 2 ^ 16) && decide (t.2.1 < 8) && decide (t.2.2 < 4096)) &&
  f.ip.all (fun h => decide (h.src < 2 ^ 128) && decide (h.dst < 2 ^ 128)) &&
  f.udp.all (fun u => decide (u.srcPort < 2 ^ 16) && decide (u.dstPort < 2 ^ 16)) && f.ptp.all ptpOk

/-- A term is a well-formed command. Named are the commands some operand of which has a type wider than its interface; the types of
every other command admit only what can occur. -/
def Instr.wellFormed (i : Instr) : Bool :=
  match i with
  | .retainExit _ damaged => noRepeats damaged
  | .resetRelease _ _ damaged => noRepeats damaged
  | .domainPowerGood _ _ pd => decide (pd.pd.val ≠ 0)
  | .nvmWakeDone _ jedec0 jedec1 hdrA hdrB =>
    decide (jedec0 < 2 ^ 24) && decide (jedec1 < 2 ^ 24) && hdrA.length == 64 && hdrB.cs0.length == 64 && hdrB.cs1.length == 64
  | .verificationPassDone _ hdr _ trailer => hdr.length == 64 && decide (trailer.length = 0 ∨ trailer.length = 96)
  | .parseRecord _ record => recordWhole record
  | .sectionEndRecord _ record => recordWhole record
  | .applyTick avs => takeoverOk avs
  | .otpProgram _ word data => decide (word < 2 ^ 8) && decide (data < 2 ^ 32)
  | .otpRead _ word => decide (word < 2 ^ 8)
  | .windowRead _ _ words _ => decide (1 ≤ words)
  | .windowReadId _ words => decide (1 ≤ words)
  | .governorTick msRates _ _ => msRates.length == 40 && msRates.all fun r => decide (r < 2 ^ 16)
  | .adpllWindowEnd _ _ _ _ meanTune => decide (meanTune < 2 ^ 24)
  | .refDisagree _ i j => i != j
  | .integrityFailure _ cause => decide (cause = 1 ∨ cause = 2)
  | .esmcRx _ _ ssm _ => decide (ssm < 16)
  | .hoIntegrityFailure _ cause => decide (cause = 1 ∨ cause = 2)
  | .returnCorroborated _ i j => i != j
  | .satAcquired _ _ found => prnOk found.prn
  | .gnssStart _ facts => facts.hotSats.all prnOk
  | .navWord _ _ _ _ subframe wordNum tow utc =>
    decide (1 ≤ subframe ∧ subframe ≤ 5) && decide (1 ≤ wordNum ∧ wordNum ≤ 10) && decide (tow < 2 ^ 17) && utc.all utcOk
  | .timingSolution _ _ towMs sats epoch =>
    decide (towMs < 604800000) && (sats.all fun m => prnOk m.prn && decide (m.elevDeg ≤ 90)) &&
      epoch.elevs.all fun e => prnOk e.1 && decide (e.2 ≤ 90)
  | .shadowVisit _ chan tracked _ _ => chan != tracked
  | .frameRefused _ _ frame => frameOk frame
  | .ntpRequest _ _ _ frame => frameOk frame
  | .arpRequest _ _ frame => frameOk frame
  | .neighbourSolicitation _ _ frame => frameOk frame
  | .echoRequest _ _ frame => frameOk frame
  | .pauseFrame _ _ quanta _ => decide (quanta < 2 ^ 16)
  | .pfcFrame _ _ times _ => decide (times.enable < 2 ^ 8) && times.quanta.length == 8 && times.quanta.all fun q => decide (q < 2 ^ 16)
  | .spillTimeout _ handle => decide (handle < 2 ^ 16)
  | .delayReq _ _ _ frame => frameOk frame
  | .signalingRequest _ _ _ frame => frameOk frame
  | .ptpMessageDropped _ _ frame => frameOk frame
  | .clientAnnounceRx _ _ _ msg => ptpOk msg
  | .clientSyncRx _ _ _ _ msg => ptpOk msg
  | .clientFollowUpRx _ _ _ msg => ptpOk msg
  | .clientDelayRespRx _ _ _ msg => ptpOk msg
  | .clientSignalingRx _ _ _ msg => ptpOk msg
  | .leatHelloRx _ _ frame => decide (frame.sender < 2 ^ 64) && decide (frame.port < 4)
  | .leatTimeRx _ _ _ frame => decide (frame.sender < 2 ^ 64) && decide (frame.seq < 2 ^ 16) && decide (frame.wave < 2 ^ 16) && decide (frame.hops < 2 ^ 16)
  | .leatWaveLaunch _ grid => grid.length == 4
  | .leatWaveForward _ grid => grid.length == 4
  | .leatNoWave _ grid => grid.length == 4
  | .leatCreditRx _ _ spillRet respRet suRate => decide (spillRet < 2 ^ 32) && decide (respRet < 2 ^ 32) && decide (suRate < 2 ^ 16)
  | .leatTelemRx _ _ frame => decide (frame.sender < 2 ^ 64) && decide (frame.selSlot < 16) && decide (frame.selQl < 16)
  | .leatSpillRx _ _ _ frame => decide (frame.handle < 2 ^ 16) && frameOk frame.req
  | .leatRespRx _ _ frame => decide (frame.handle < 2 ^ 16) && decide (frame.kind ≤ 2)
  | .leatProxyWave _ grid => grid.length == 4
  | .wearCheck _ kind checks => checks.all fun c => decide (c.unit < kindUnits kind)
  | .uncorrectableError _ target => targetOk target
  | .garnerMigrationBeat _ beats _ => decide (beats ≤ 16) && decide (1 ≤ beats)
  | .avsVoutCheck _ voutMv => voutMv.all fun v => decide (v < 2 ^ 16)
  | .avsAlert _ status => status.status.all fun w => decide (w < 2 ^ 16)
  | .avsTakeoverRetry _ readings => takeoverOk readings
  | .railMonitorSample _ rails _ => rails.length == 8 && rails.all fun v => decide (v < 2 ^ 16)
  | .railOutOfRange _ _ mv => decide (mv < 2 ^ 16)
  | _ => true

end Sys2Proof
end

