-- ==== Sys2Proof/Tests/Slice0.lean ====
section
/-!
SUPPORT. Tests: ill-formed commands that WellFormed refuses, a few steps with the values the spec works out, and, for every clause of
an obligation that has hypotheses, a concrete state and operands that meet them together.
-/

open Sys2Proof Sys2Proof.Machine

namespace Sys2Proof.Tests

set_option Elab.async false
set_option maxRecDepth 100000
set_option linter.unusedVariables false

/-- A small running state: the timebase runs, OSCIN is there, every domain is on and the mode is LOCKED. -/
def w0 : State := { State.reset with
  clk := 987654321987, tb := { State.reset.tb with running := true, sec := 1000, sub := 12345678901234 }
  pll := { State.reset.pll with oscinPresent := true, savedTb := some 77, savedSd := some 78, savedCk := some 79 }
  pwr := { State.reset.pwr with mode := .locked, domainOn := 4095, applied := true }
  rep := { State.reset.rep with cnt := [(0x02000C, 3), (0x04000E, 5), (0x0A0004, 7)], evHead := 65535, attnPending := 0 }
  notes := [.count 5 5], pending := [.tapReset 3] }

/-- The same state with its timebase in DIRECT. -/
def wdir (s : State) : State := { s with pll := { s.pll with tbState := .direct } }

/-- An equation with `.ok`, from a test that computes. -/
theorem exceptOk {α β : Type} [DecidableEq β] (x : Except α β) (b : β)
    (h : (match x with | .ok a => decide (a = b) | .error _ => false) = true) : x = .ok b := by
  cases x with
  | ok a => simpa using h
  | error e => cases h

/-- An outcome is a next state of which something holds. -/
def isNextWith (o : Host.Outcome State Fault Refusal) (p : State → Bool) : Bool :=
  match o with
  | .next t => p t
  | _ => false

theorem forallSome {α : Type} {P : α → Prop} [DecidablePred P] {x : Option α} (h : x.all (fun a => decide (P a)) = true) :
    ∀ a, x = some a → P a := by
  rintro a rfl
  simpa using h

namespace W10

def wa (n : Fin 4) (a : Adpll) (s : State) : State := { s with pll := modAdpll n (fun _ => a) s.pll }

def w1 := wa 0 { st := .locked, windows := 2 } (wa 3 { st := .locked } { w0 with pll := { w0.pll with spare := some 3 } })

def w2 := wa 0 { st := .qualifying, windows := 2 } w0

def w3 := wdir (wa 0 { st := .qualifying, windows := 3 } w0)

theorem witness_AdpllWindowsQualifyAndSaveWords_1 :
    ∃ (s : State) (dt : Nat) (n : Fin 4) (cnt : Nat) (pe : Int) (w : Nat) (r : Role),
      (s.pll.oscinPresent = true) ∧
      ((s.pll.adpll[n]).st = .locked) ∧
      (roleOf s.pll n = some r) ∧
      (-2 ≤ (cnt : Rat) - expectedCount (begin dt s) r) ∧
      ((cnt : Rat) - expectedCount (begin dt s) r ≤ 2) :=
  ⟨w1, 5, 0, 63999, 44, 999, .tb, by decide +kernel⟩

theorem witness_AdpllWindowsQualifyAndSaveWords_2 :
    ∃ (s : State) (dt : Nat) (n : Fin 4) (cnt : Nat) (pe : Int) (w : Nat) (r : Role),
      (s.pll.oscinPresent = true) ∧
      ((s.pll.adpll[n]).st = .qualifying) ∧
      ((s.pll.adpll[n]).windows < 3) ∧
      (roleOf s.pll n = some r) ∧
      (-2 ≤ (cnt : Rat) - expectedCount (begin dt s) r) ∧
      ((cnt : Rat) - expectedCount (begin dt s) r ≤ 2) :=
  ⟨w2, 5, 0, 63998, 44, 999, .tb, by decide +kernel⟩

theorem witness_AdpllWindowsQualifyAndSaveWords_3 :
    ∃ (s : State) (dt : Nat) (n : Fin 4) (cnt : Nat) (pe : Int) (w : Nat),
      (s.pll.oscinPresent = true) ∧
      ((s.pll.adpll[n]).st = .qualifying) ∧
      ((s.pll.adpll[n]).windows = 3) ∧
      (roleOf s.pll n = some .tb) ∧
      (s.pll.tbState = .direct) ∧
      (-2 ≤ (cnt : Rat) - expectedCount (begin dt s) .tb) ∧
      ((cnt : Rat) - expectedCount (begin dt s) .tb ≤ 2) :=
  ⟨w3, 5, 0, 64002, 44, 999, by decide +kernel⟩

theorem witness_UnlockTakeoverAndAcquisition_1 :
    ∃ (s : State) (dt : Nat) (n m : Fin 4),
      (s.pll.oscinPresent = true) ∧
      ((s.pll.adpll[n]).st = .locked) ∧
      (roleOf s.pll n = some .tb) ∧
      (s.pll.tbState = .normal) ∧
      (s.pll.spare = some m) ∧
      (m ≠ n) ∧
      ((s.pll.adpll[m]).st = .locked) :=
  ⟨w1, 5, 0, 3, by decide +kernel⟩

def w4 := wa 2 { st := .locked, windows := 2 } w0

theorem witness_UnlockTakeoverAndAcquisition_2 :
    ∃ (s : State) (dt : Nat) (n : Fin 4),
      (s.pll.oscinPresent = true) ∧
      ((s.pll.adpll[n]).st = .locked) ∧
      (roleOf s.pll n = some .sd) ∧
      (s.pll.spare = none) ∧
      (s.pll.incoming = none) :=
  ⟨w4, 5, 2, by decide +kernel⟩

def w5 := wa 2 { st := .acquiring, windows := 2 } w0

theorem witness_UnlockTakeoverAndAcquisition_3 :
    ∃ (s : State) (dt : Nat) (n : Fin 4),
      ((s.pll.adpll[n]).st = .acquiring) ∧
      (s.pll.oscinPresent = true) :=
  ⟨w5, 5, 2, by decide +kernel⟩

def w6 := wdir { w1 with pll := { w1.pll with incoming := some (.tb, 3), spare := none } }

theorem witness_UnlockTakeoverAndAcquisition_4 :
    ∃ (s : State) (dt : Nat) (n : Fin 4),
      (s.pll.incoming = some (.tb, n)) ∧
      ((s.pll.adpll[n]).st = .locked) ∧
      (s.pll.roleTb ≠ n) ∧
      (s.pll.tbState = .direct) ∧
      ((s.pll.adpll[s.pll.roleTb]).st ≠ .retired) ∧
      (bitAt s.dress.retired[4] s.pll.roleTb.val = false) :=
  ⟨w6, 5, 3, by decide +kernel⟩

def w7 := wa 0 { st := .qualifying, pulling := true } { w0 with pll := { w0.pll with tbState := .dcoHold } }

theorem witness_UnlockTakeoverAndAcquisition_5 :
    ∃ (s : State) (dt : Nat) (n : Fin 4),
      (s.pll.oscinPresent = true) ∧
      ((s.pll.adpll[n]).st = .qualifying) ∧
      ((s.pll.adpll[n]).pulling = true) ∧
      (roleOf s.pll n = some .tb) ∧
      (s.pll.tbState = .dcoHold) ∧
      (s.pll.spare = none) ∧
      (s.pll.incoming = none) :=
  ⟨w7, 5, 0, by decide +kernel⟩

theorem witness_OscinLossRestorationAndDetection_1 :
    ∃ (s : State) (dt : Nat),
      (s.pll.oscinPresent = true) :=
  ⟨w1, 5, by decide +kernel⟩

def w8 := wa 0 { st := .dcoHold, tune := 5 } { w0 with pll := { w0.pll with tbState := .dcoHold, oscinPresent := false } }

theorem witness_OscinLossRestorationAndDetection_2 :
    ∃ (s : State) (dt : Nat),
      (s.pll.oscinPresent = false) ∧
      (s.pll.tbState = .dcoHold ∨ s.pll.tbState = .freeRun) :=
  ⟨w8, 5, by decide +kernel⟩

def w9 := { w0 with pll := { w0.pll with detectDue := true } }

theorem witness_OscinLossRestorationAndDetection_3 :
    ∃ (s : State) (dt cycles i : Nat),
      (s.pll.detectDue = true) ∧
      (0 < cycles) ∧
      (matchOscin (cycles * 1024) = some i) :=
  ⟨w9, 5, 9766, 0, by decide +kernel⟩

theorem witness_OscinLossRestorationAndDetection_4 :
    ∃ (s : State) (dt cycles : Nat),
      (s.pll.detectDue = true) :=
  ⟨w9, 5, 9766, by decide +kernel⟩

end W10

namespace W11

def o1 := { w0 with pwr := { w0.pwr with mode := .safe } }

def ow (i : Fin 17) (w : BitVec 32) (s : State) : State := { s with otp := { s.otp with word := s.otp.word.set i w } }

theorem witness_OtpCommandsActOnlyInSafe_1 :
    ∃ (s : State) (dt word data : Nat),
      (pd4Runs s = true) ∧
      (s.pwr.mode ≠ .safe ∨ s.otp.busy = true) :=
  ⟨w0, 5, 3, 4, by decide +kernel⟩

theorem witness_OtpCommandsActOnlyInSafe_2 :
    ∃ (s : State) (dt word data : Nat),
      (s.pwr.mode = .safe) ∧
      (s.otp.busy = false) ∧
      (word < 17) ∧
      (otpLocked s.otp = false) ∧
      ((word < 8 → sealKeySet s.otp = false)) ∧
      ((8 ≤ word → word < 16 → keyHashSet s.otp = false)) ∧
      ((word = 16 → data % 2 ^ 32 < 4)) :=
  ⟨o1, 5, 16, 3, by decide +kernel⟩

theorem witness_OtpCommandsActOnlyInSafe_3 :
    ∃ (s : State) (dt word data : Nat),
      (s.pwr.mode = .safe) ∧
      (s.pwr.resetHeld = .none) ∧
      (16 < word ∨ otpLocked s.otp = true ∨ (word < 8 ∧ sealKeySet s.otp = true) ∨ (8 ≤ word ∧ word < 16 ∧ keyHashSet s.otp = true) ∨ (word = 16 ∧ 4 ≤ data % 2 ^ 32)) :=
  ⟨(ow 16 1 o1), 5, 7, (2^40+3), by decide +kernel⟩

theorem witness_OtpCommandsActOnlyInSafe_4 :
    ∃ (s : State) (dt : Nat) (i : Fin 17) (d : BitVec 32),
      (s.otp.programming = some (i, d)) :=
  ⟨{ o1 with otp := {o1.otp with busy := true, programming := some (3, 5)}}, 5, 3, 5, by decide +kernel⟩

theorem witness_OtpCommandsActOnlyInSafe_5 :
    ∃ (s : State) (dt word : Nat),
      (s.pwr.mode = .safe) ∧
      (s.otp.busy = false) ∧
      (word < 17) :=
  ⟨(ow 16 7 o1), 5, 16, by decide +kernel⟩

theorem witness_OtpCommandsActOnlyInSafe_6 :
    ∃ (s : State) (dt : Nat),
      (s.pwr.mode = .safe) ∧
      (s.otp.busy = false) :=
  ⟨(ow 16 7 o1), 5, by decide +kernel⟩

theorem witness_OtpCommandsActOnlyInSafe_7 :
    ∃ (s : State) (dt : Nat),
      (s.pwr.mode = .safe) ∧
      (s.pwr.resetHeld = .none) ∧
      (s.otp.busy = false) :=
  ⟨(ow 16 3 o1), 5, by decide +kernel⟩

end W11

namespace W12

def wv (s : State) : State := { s with pd0 := { s.pd0 with rtcValid := true, rtcSec := 77, rtcSub := 32767 } }

def r1 := wv { w0 with pwr := {mode := .retain}, tb := {}, pll := {}, refs := w0.refs.set 5 {st := .eligible} }

theorem witness_RetainIsLeftAndEntered_1 :
    ∃ (s : State) (n : Nat) (damaged : List (RetItem × Bool)),
      (s.pwr.mode = .retain) :=
  ⟨r1, 40000, [], by decide +kernel⟩

def ot (s : State) : State := {s with otp := {s.otp with busy := true, refused := true, programming := some (3, 0), word := s.otp.word.set 3 7}}

def r2 := wv { w0 with refs := w0.refs.set 5 {st := .eligible} }

theorem witness_RetainIsLeftAndEntered_2 :
    ∃ (s : State) (dt n : Nat) (k : RetainCause),
      (s.pwr.mode ≠ .retain) ∧
      (counterWf s.rep.cnt = true) :=
  ⟨r2, 5, 9, .stbyN, by decide +kernel⟩

theorem witness_RetainIsLeftAndEntered_3 :
    ∃ (s : State) (dt n : Nat) (k : RetainCause),
      (s.pwr.mode = .retain) :=
  ⟨{r1 with mon.vddioB33 := some true, pwr.pgoodLow := true}, 5, 40000, .stbyN, by decide +kernel⟩

theorem witness_ResetsKeepWhatTheRulesName_1 :
    ∃ (s : State) (dt : Nat),
      (s.pwr.mode ≠ .retain) ∧
      (s.pwr.resetHeld = .none) :=
  ⟨(ot {r2 with gov.needQualify := true}), 5, by decide +kernel⟩

def r3 := { r2 with pwr := {r2.pwr with resetHeld := .warm }}

def r4 := { r3 with pwr := {r3.pwr with resetHeld := .cold }, tb := {}}

theorem witness_ResetsKeepWhatTheRulesName_2 :
    ∃ (s : State) (dt : Nat),
      (s.pwr.resetHeld = .warm) ∧
      (counterWf s.rep.cnt = true) :=
  ⟨r3, 5, by decide +kernel⟩

theorem witness_ResetsKeepWhatTheRulesName_3 :
    ∃ (s : State) (dt : Nat),
      (s.pwr.mode = .retain) :=
  ⟨r1, 5, by decide +kernel⟩

theorem witness_PowerAndResetReleaseStartDomains_1 :
    ∃ (s : State) (dt n : Nat) (damaged : List (RetItem × Bool)),
      (s.pwr.resetHeld ≠ .none) :=
  ⟨r3, 5, 1, [], by decide +kernel⟩

def pg (d : Nat) (s : State) : State := {s with pwr := {s.pwr with mode := .load, powering := d :: [9]}}

theorem witness_PowerAndResetReleaseStartDomains_2 :
    ∃ (s : State) (dt n : Nat) (pd : Fin 12) (c : SdCal) (r : List Nat),
      (s.pwr.powering = pd.val :: r) ∧
      (s.pwr.mode ≠ .retain) ∧
      (s.pwr.resetHeld = .none) :=
  ⟨(pg 1 r2), 5, 1, 1, .fitted, [9], by decide +kernel⟩

def r5 := {r2 with cfg.b02.system.reloadEnable := true}

theorem witness_ReloadEntersLoadAndEmptiesTheServingHalf_1 :
    ∃ (s : State) (dt : Nat),
      (s.pwr.resetHeld = .none) ∧
      ((s.pwr.mode = .acquire ∨ s.pwr.mode = .locked ∨ s.pwr.mode = .holdover) ∧ s.cfg.b02.system.reloadEnable = true ∨ s.pwr.mode = .safe ∧ s.pwr.safeAt ≠ some (begin dt s).clk) :=
  ⟨r5, 5, by decide +kernel⟩

theorem witness_ReloadEntersLoadAndEmptiesTheServingHalf_2 :
    ∃ (s : State) (dt : Nat),
      (s.pwr.resetHeld = .none) ∧
      (s.pwr.mode = .load ∨ (s.pwr.mode = .acquire ∨ s.pwr.mode = .locked ∨ s.pwr.mode = .holdover) ∧ s.cfg.b02.system.reloadEnable = false) :=
  ⟨{r2 with cfg.b02.system.reloadEnable := false}, 5, by decide +kernel⟩

theorem witness_ReloadEntersLoadAndEmptiesTheServingHalf_3 :
    ∃ (s : State) (dt : Nat),
      (s.pwr.resetHeld ≠ .none ∨ s.pwr.mode = .retain ∨ s.pwr.mode = .safe ∧ s.pwr.safeAt = some (begin dt s).clk) :=
  ⟨{r5 with pwr.mode := .safe, pwr.safeAt := some (begin 5 r5).clk}, 5, by decide +kernel⟩

theorem witness_PowerAndResetReleaseStartDomains_3 :
    ∃ (s : State) (v : Bool),
      (s.pwr.mode = .retain) ∧
      (counterWf s.rep.cnt = true) :=
  ⟨r1, true, by decide +kernel⟩

end W12

namespace W13

def by_ (l : List Nat) : Bytes := l.map (BitVec.ofNat 8)

def hd (seq : Nat) : Bytes := 
  let h := by_ ([0x47,0x48,0x49,0x4D,1,0,0,0] ++ [seq,0,0,0] ++ [16,0,0,0] ++ List.replicate 44 0)
  h ++ (List.range 4).map fun i => BitVec.ofNat 8 (crc32c h / 256^i)

def l0 : State := {w0 with pwr := {w0.pwr with mode := .load}, ld := { w0.ld with stage := 1}}

theorem witness_LoaderChoosesAndVerifiesTheSlot_1 :
    ∃ (s : State) (dt j0 j1 : Nat) (a : Bytes) (b : SlotBHeader),
      (s.pwr.mode = .load) ∧
      (s.ld.stage = 1) ∧
      ((readHeader a).cause = 0 ∨ (readHeader (if jedecAnswers j1 then b.cs1 else b.cs0)).cause = 0) :=
  ⟨l0, 5, 3, (2^24-1), (hd 3), {cs0 := hd 4}, by decide +kernel⟩

theorem witness_LoaderChoosesAndVerifiesTheSlot_2 :
    ∃ (s : State) (dt j0 j1 : Nat) (a : Bytes) (b : SlotBHeader),
      (s.pwr.mode = .load) ∧
      (s.ld.stage = 1) ∧
      ((readHeader a).cause ≠ 0) ∧
      ((readHeader (if jedecAnswers j1 then b.cs1 else b.cs0)).cause ≠ 0) :=
  ⟨l0, 5, 3, (2^24+1), [], {}, by decide +kernel⟩

def l1 : State := {l0 with ld := { w0.ld with stage := 2, hdrA := {len := 4, bodyCrc := crc32c (by_ [1,2,3,4])}, hdrB := {cause := 0}}}

theorem witness_LoaderChoosesAndVerifiesTheSlot_3 :
    ∃ (s : State) (dt : Nat) (h b tr : Bytes),
      (s.pwr.mode = .load) ∧
      (s.ld.stage = 2) ∧
      (b.length = (slotHeader s.ld.trying s.ld).len) ∧
      (crc32c b = (slotHeader s.ld.trying s.ld).bodyCrc) :=
  ⟨l1, 5, [], (by_ [1,2,3,4]), [], by decide +kernel⟩

theorem witness_LoaderChoosesAndVerifiesTheSlot_4 :
    ∃ (s : State) (dt : Nat) (h b tr : Bytes),
      (s.pwr.mode = .load) ∧
      (s.ld.stage = 2) ∧
      (b.length ≠ (slotHeader s.ld.trying s.ld).len ∨ crc32c b ≠ (slotHeader s.ld.trying s.ld).bodyCrc) :=
  ⟨l1, 5, [], (by_ [1,2,3,3]), [], by decide +kernel⟩

def l2 := {l1 with ld.verBody := [1]}

def l2l := {l2 with otp.word := l2.otp.word.set 16 4}

theorem witness_LoaderChoosesAndVerifiesTheSlot_5 :
    ∃ (s : State) (dt : Nat),
      (s.pwr.mode = .load) ∧
      (s.ld.stage = 2) ∧
      (s.ld.verBody ≠ []) ∧
      (signatureCause s.otp (slotHeader s.ld.trying s.ld).signed s.ld.verBody s.ld.verTrailer = none) :=
  ⟨l2, 5, by decide +kernel⟩

theorem witness_LoaderChoosesAndVerifiesTheSlot_6 :
    ∃ (s : State) (dt : Nat),
      (s.pwr.mode = .load) ∧
      (s.ld.stage = 2) ∧
      (s.ld.verBody ≠ []) ∧
      (otpLocked s.otp = false) ∧
      ((slotHeader s.ld.trying s.ld).signed = false ∨ keyHashSet s.otp = false) :=
  ⟨{l2 with ld.hdrB.signed := true, ld.trying := .b}, 5, by decide +kernel⟩

theorem witness_LoaderChoosesAndVerifiesTheSlot_7 :
    ∃ (s : State) (dt c : Nat),
      (s.pwr.mode = .load) ∧
      (s.ld.stage = 2) ∧
      (s.ld.verBody ≠ []) ∧
      (signatureCause s.otp (slotHeader s.ld.trying s.ld).signed s.ld.verBody s.ld.verTrailer = some c) :=
  ⟨l2l, 5, 6, by decide +kernel⟩

theorem witness_LoaderChoosesAndVerifiesTheSlot_8 :
    ∃ (s : State) (dt : Nat),
      (s.pwr.mode = .load) ∧
      (s.ld.stage = 2) ∧
      (s.ld.verBody ≠ []) ∧
      ((slotHeader s.ld.trying s.ld).signed = false) ∧
      (otpLocked s.otp = true) :=
  ⟨l2l, 5, by decide +kernel⟩

def l3 := {l2 with ld := {l2.ld with stage := 3, parseCrc := BitVec.allOnes 32, hdrA := {l2.ld.hdrA with len := 5000}}}

def rk : Bytes := by_ ([2,2,32,0,0,0,0,0] ++ List.replicate 32 0)

def ru : Bytes := by_ ([0xEE,4,8,0,0,0,0,0] ++ List.replicate 8 0)

def rb : Bytes := by_ ([0xEE,4,7,0,0,0,0,0] ++ List.replicate 8 0)

def rx : Bytes := by_ ([0xEE,4,8,0,2,0,0,0] ++ List.replicate 8 0)

theorem witness_RecordsAreParsedIntoPendingSections_2 :
    ∃ (s : State) (dt : Nat) (r : Bytes),
      (s.pwr.mode = .load) ∧
      (s.ld.stage = 3) ∧
      (bitsOf (leNat (r.take 8)) 0 8 ≠ 0xFF) ∧
      (framingCause s.ld r = none) ∧
      (checkRecord s.otp (openedFor (bitsOf (leNat (r.take 8)) 8 8) s.ld) (bitsOf (leNat (r.take 8)) 0 16) (bitsOf (leNat (r.take 8)) 32 8) (r.take 8) (bytesAt r 8 (bitsOf (leNat (r.take 8)) 16 16)) = .ok none) :=
  ⟨l3, 5, ru, by decide +kernel, by decide +kernel, by decide +kernel, by decide +kernel, exceptOk _ _ (by decide +kernel)⟩

theorem witness_RecordsAreParsedIntoPendingSections_3 :
    ∃ (s : State) (dt : Nat) (r : Bytes) (c : Nat),
      (s.pwr.mode = .load) ∧
      (s.ld.stage = 3) ∧
      (bitsOf (leNat (r.take 8)) 0 8 ≠ 0xFF) ∧
      (framingCause s.ld r = some c ∨ framingCause s.ld r = none ∧ checkRecord s.otp (openedFor (bitsOf (leNat (r.take 8)) 8 8) s.ld) (bitsOf (leNat (r.take 8)) 0 16) (bitsOf (leNat (r.take 8)) 32 8) (r.take 8) (bytesAt r 8 (bitsOf (leNat (r.take 8)) 16 16)) = .error c) :=
  ⟨l3, 5, rb, 0x11, by decide +kernel, by decide +kernel, by decide +kernel, Or.inl (by decide +kernel)⟩

def re : Bytes := by_ [0xFF,4,8,0,0,0,0,0,0,0,0,0,0,0,0,0]

theorem witness_RecordsAreParsedIntoPendingSections_4 :
    ∃ (s : State) (dt b : Nat) (r : Bytes) (o : OpenSection) (cfg : Cfg),
      (s.pwr.mode = .load) ∧
      (s.ld.stage = 3) ∧
      (bitsOf (leNat (r.take 8)) 0 16 = 256 * b + 0xFF) ∧
      (o = openedFor b s.ld) ∧
      (cfg = o.recs.foldl (fun c e => putRecord e.2.1 e.2.2 c) (copySection b {} s.ld.pend)) ∧
      (framingCause s.ld r = none) ∧
      (endRecordCause s.otp o r = none) ∧
      ((∀ e ∈ o.recs, recordInRange e.2.1 e.2.2 = true ∧ recordFits (begin dt s) cfg o.recs e.2.1 e.2.2 = true)) ∧
      (relationsHold b o.recs cfg = true) :=
  ⟨l3, 5, 4, re, (openedFor 4 l3.ld), (copySection 4 {} l3.ld.pend), by decide +kernel⟩

def rg : Bytes := by_ [0xFF,4,8,0,0,0,0,0,0,0,1,0,0,0,0,0]

theorem witness_RecordsAreParsedIntoPendingSections_5 :
    ∃ (s : State) (dt b c : Nat) (r : Bytes),
      (s.pwr.mode = .load) ∧
      (s.ld.stage = 3) ∧
      (bitsOf (leNat (r.take 8)) 0 16 = 256 * b + 0xFF) ∧
      (framingCause s.ld r = some c ∨ framingCause s.ld r = none ∧ endRecordCause s.otp (openedFor b s.ld) r = some c) :=
  ⟨l3, 5, 4, 0x11, rg, by decide +kernel, by decide +kernel, by decide +kernel, Or.inr ⟨by decide +kernel, by decide +kernel⟩⟩

def o5 : OpenSection := { block := 5, recs := [(16, 0x0501, List.replicate 24 255)] }

def l5 : State := { l3 with ld.opened := some o5 }

def re5 : Bytes := by_ [0xFF,5,8,0,0,0,0,0,0,0,0,0,0,0,0,0]

theorem witness_RecordsAreParsedIntoPendingSections_6 :
    ∃ (s : State) (dt b : Nat) (r : Bytes) (o : OpenSection) (cfg : Cfg),
      (s.pwr.mode = .load) ∧
      (s.ld.stage = 3) ∧
      (bitsOf (leNat (r.take 8)) 0 16 = 256 * b + 0xFF) ∧
      (o = openedFor b s.ld) ∧
      (cfg = o.recs.foldl (fun c e => putRecord e.2.1 e.2.2 c) (copySection b {} s.ld.pend)) ∧
      (framingCause s.ld r = none) ∧
      (endRecordCause s.otp o r = none) ∧
      (oscinMismatch (begin dt s) o.recs = false) :=
  ⟨l5, 5, 5, re5, o5, (o5.recs.foldl (fun c e => putRecord e.2.1 e.2.2 c) (copySection 5 {} l5.ld.pend)), by decide +kernel⟩

def re3 : Bytes := by_ [0xFF,3,8,0,0,0,0,0,0,0,0,0,0,0,0,0]

def l4 := {l3 with ld.hdrA.len := 0, ld.parseCrc := 0, ld.hdrA.bodyCrc := 2^32-1}

theorem witness_RecordsAreParsedIntoPendingSections_7 :
    ∃ (s : State) (dt : Nat),
      (s.pwr.mode = .load) ∧
      (s.ld.stage = 3) ∧
      (s.ld.opened = none) ∧
      ((~~~ s.ld.parseCrc).toNat = (slotHeader s.ld.trying s.ld).bodyCrc) ∧
      (s.ld.offset = (slotHeader s.ld.trying s.ld).len) ∧
      (missingSection s.ld = none) :=
  ⟨l4, 5, by decide +kernel⟩

theorem witness_RecordsAreParsedIntoPendingSections_8 :
    ∃ (s : State) (dt : Nat),
      (s.pwr.mode = .load) ∧
      (s.ld.stage = 3) :=
  ⟨l4, 5, by decide +kernel⟩

theorem witness_RecordsAreParsedIntoPendingSections_1 :
    ∃ (s : State) (dt : Nat) (r : Bytes) (p : Bytes),
      (s.pwr.mode = .load) ∧
      (s.ld.stage = 3) ∧
      (bitsOf (leNat (r.take 8)) 0 8 ≠ 0xFF) ∧
      (framingCause s.ld r = none) ∧
      (checkRecord s.otp (openedFor (bitsOf (leNat (r.take 8)) 8 8) s.ld) (bitsOf (leNat (r.take 8)) 0 16) (bitsOf (leNat (r.take 8)) 32 8) (r.take 8) (bytesAt r 8 (bitsOf (leNat (r.take 8)) 16 16)) = .ok (some p)) :=
  ⟨l3, 5, rk, (List.replicate 32 0), by decide +kernel, by decide +kernel, by decide +kernel, by decide +kernel, exceptOk _ _ (by decide +kernel)⟩

def o3 : OpenSection := { block := 3, recs := [(16, 0x0302, by_ [37,0,0,0,0,0,0,0,1,0,0,0,0,0,0,0])] }

def l7 : State := { l3 with ld.opened := some o3 }

end W13

namespace W14

def wr (n : Fin 13) (r : RefSlot) (s : State) : State := { s with refs := s.refs.set n r }

def a1 := wr 0 {st := .qualifying} w0

theorem witness_PhaseSamplesAreFilteredAndJumpsDiscarded_1 :
    ∃ (s : State) (dt : Nat) (n : Fin 13) (m : PhaseMeas) (x : Units),
      (rawSample (begin dt s) n m = some x) ∧
      ((s.refs[n]).awaited = false) ∧
      ((s.refs[n]).st ≠ .disabled) ∧
      ((s.refs[n]).st ≠ .unavailable) ∧
      (¬(((s.refs[n]).st = .eligible ∨ (s.refs[n]).st = .selected) ∧ timeOrPhase (refKind s n) = true ∧ (s.refs[n]).samples ≠ [] ∧ apartNs (filteredX (begin dt s) n x s.refs[n] : Rat) (trackAt s.refs[n] (nowUnits (begin dt s))) s.cfg.b05.fantail.phaseJumpNs = true)) :=
  ⟨a1, 5, 0, (.edge 77), (-77), by decide +kernel⟩

def a2z := wr 0 {st := .eligible, samples := [(0, 0),(10,0)]} w0

def ax : Units := (rawSample (begin 5 w0) 0 (.edge (10^17))).getD 0

def af : Units := filteredX (begin 5 w0) 0 ax { samples := [(0, 0)] }

def a2 : State := wr 0 { st := .eligible, samples := [(0, af + 10^30)] } w0


theorem a2_apart : apartNs (filteredX (begin 5 a2) 0 ax a2.refs[0] : Rat) (trackAt a2.refs[0] (nowUnits (begin 5 a2)))
    a2.cfg.b05.fantail.phaseJumpNs = true := by
  have e : filteredX (begin 5 a2) 0 ax a2.refs[0] = af := rfl
  have r : a2.refs[0] = { st := .eligible, samples := [(0, af + 10^30)] } := rfl
  have j : a2.cfg.b05.fantail.phaseJumpNs = 1000 := by decide +kernel
  rw [e, r, j]
  generalize nowUnits (begin 5 a2) = t
  generalize af = f
  have m1 : ∀ v : Rat, mean [v] = v := by intro v; show (0 + v) / 1 = v; grind
  have k : ((1000 * unitsPerNs : Nat) : Rat) = 8192000000 := by decide +kernel
  have c : ((f + 10 ^ 30 : Int) : Rat) = (f : Rat) + 10 ^ 30 := by rw [Rat.intCast_add]; rfl
  have y0 : (0 : Rat) / 1000000000 = 0 := by decide +kernel
  simp only [apartNs, trackAt, List.map, m1, decide_eq_true_eq, k, y0]
  right
  have c' : (((f + 10 ^ 30 : Units) : Int) : Rat) = (f : Rat) + 10 ^ 30 := c
  grind


theorem witness_PhaseSamplesAreFilteredAndJumpsDiscarded_2 :
    ∃ (s : State) (dt : Nat) (n : Fin 13) (m : PhaseMeas) (x : Units),
      (rawSample (begin dt s) n m = some x) ∧
      ((s.refs[n]).awaited = false) ∧
      ((s.refs[n]).st = .eligible ∨ (s.refs[n]).st = .selected) ∧
      (timeOrPhase (refKind s n) = true) ∧
      ((s.refs[n]).samples ≠ []) ∧
      (apartNs (filteredX (begin dt s) n x s.refs[n] : Rat) (trackAt s.refs[n] (nowUnits (begin dt s))) s.cfg.b05.fantail.phaseJumpNs = true) :=
  ⟨a2, 5, 0, (.edge (10^17)), ax, by decide +kernel, by decide +kernel, by decide +kernel, by decide +kernel, by decide +kernel, a2_apart⟩

def aw := wr 0 {st := .eligible, awaited := true, samples := [(0, -77),(10,-77)]} {w0 with cfg.b05.slot := w0.cfg.b05.slot.set 0 {w0.cfg.b05.slot[0] with refQlFixed := 3}}

theorem witness_PhaseSamplesAreFilteredAndJumpsDiscarded_3 :
    ∃ (s : State) (dt : Nat) (n : Fin 13) (m : PhaseMeas) (x : Units),
      (rawSample (begin dt s) n m = some x) ∧
      ((s.refs[n]).awaited = true) ∧
      ((s.refs[n]).st ≠ .disabled) ∧
      ((s.refs[n]).st ≠ .unavailable) :=
  ⟨aw, 5, 0, (.edge 77), (-77), by decide +kernel⟩

def a2e := wr 4 {a2.refs[0] with delivered := some (10^17)} w0

theorem witness_PhaseSamplesAreFilteredAndJumpsDiscarded_4 :
    ∃ (s : State) (dt : Nat) (n : Fin 13) (m : PhaseMeas),
      (rawSample (begin dt s) n m = none ∨ (s.refs[n]).st = .disabled ∨ (s.refs[n]).st = .unavailable) :=
  ⟨a2, 5, 0, (.accumulated 4), by decide +kernel⟩

theorem witness_ReferenceSlotsMoveBetweenStates_1 :
    ∃ (s : State) (dt : Nat) (n : Fin 13),
      ((s.refs[n]).st ≠ .disabled) ∧
      ((s.refs[n]).st ≠ .unavailable) ∧
      ((s.refs[n]).st ≠ .noSignal) ∧
      ((s.refs[n]).awaited = false) ∧
      (slotHeld (begin dt s) n = false) :=
  ⟨a2, 5, 0, by decide +kernel⟩

theorem witness_ReferenceSlotsMoveBetweenStates_2 :
    ∃ (s : State) (dt : Nat) (n : Fin 13),
      ((s.refs[n]).st = .disabled ∨ (s.refs[n]).st = .unavailable ∨ (s.refs[n]).st = .noSignal ∨ (s.refs[n]).awaited = true ∨ slotHeld (begin dt s) n = true) :=
  ⟨aw, 5, 0, by decide +kernel⟩

def hs (r : RefSlot) : State := wr 8 r {w0 with leat.link := w0.leat.link.set 1 {w0.leat.link[1] with held := true}}

def a3 := wr 0 {st := .qualifying, signal := true, ql := 1} w0

theorem witness_ReferenceSlotsMoveBetweenStates_3 :
    ∃ (s : State) (dt : Nat) (n : Fin 13),
      ((s.refs[n]).st = .qualifying) ∧
      (qualifies (begin dt s) n = true) ∧
      (outsideWindow (begin dt s) n = false) ∧
      (slotHeld (begin dt s) n = false) :=
  ⟨a3, 5, 0, by decide +kernel⟩

theorem witness_ReferenceSlotsMoveBetweenStates_4 :
    ∃ (s : State) (dt : Nat) (n : Fin 13),
      (slotHeld (begin dt s) n = true) :=
  ⟨(hs {st := .wtr}), 5, 8, by decide +kernel⟩

theorem witness_ReferenceSlotsMoveBetweenStates_5 :
    ∃ (s : State) (dt : Nat) (n : Fin 13),
      ((s.refs[n]).st = .wtr) ∧
      (slotHeld (begin dt s) n = false) :=
  ⟨(wr 0 {st := .wtr, signal := true, ql := 1, returning := true} w0), 5, 0, by decide +kernel⟩

theorem witness_ReferenceSlotsMoveBetweenStates_6 :
    ∃ (s : State) (dt : Nat),
      (s.gov.grace = true) :=
  ⟨{(wr 0 {st := .eligible, awaited := true} (wr 5 {st := .eligible} w0)) with gov.grace := true}, 5, by decide +kernel⟩

def wt : State := { w0 with tb.lastTick := 10^9 }

def a4 := wr 0 {st := .eligible, x := 10^15, ql := 1} (wr 4 {st := .eligible, ql := 1} (wr 5 {st := .eligible, ql := 1} wt))

def sf (s : State) : State := slotsFirst (begin 5 s)

def a4p : State := {a4 with cfg.b05.slot := a4.cfg.b05.slot.set 0 {a4.cfg.b05.slot[0] with refPriority := 9}}

theorem witness_DisagreementsAreVotedOn_1 :
    ∃ (s u : State) (dt : Nat) (i j : Fin 13),
      (u = slotsFirst (begin dt s)) ∧
      (i ≠ j) ∧
      (inPlay u i = true) ∧
      (inPlay u j = true) ∧
      (slotsAgree u i j = false) ∧
      ((u.refs[i]).ql ≠ (u.refs[j]).ql ∨ (s.cfg.b05.slot[i]).refPriority ≠ (s.cfg.b05.slot[j]).refPriority) :=
  ⟨a4p, (sf a4p), 5, 0, 4, by decide +kernel⟩

theorem witness_DisagreementsAreVotedOn_2 :
    ∃ (s u : State) (dt : Nat) (i j : Fin 13) (a b : Bool),
      (u = slotsFirst (begin dt s)) ∧
      (i ≠ j) ∧
      (inPlay u i = true) ∧
      (inPlay u j = true) ∧
      (slotsAgree u i j = false) ∧
      ((u.refs[i]).ql = (u.refs[j]).ql) ∧
      ((s.cfg.b05.slot[i]).refPriority = (s.cfg.b05.slot[j]).refPriority) ∧
      (a = (voters u i j).any (fun k => slotsAgree u k i && !slotsAgree u k j)) ∧
      (b = (voters u i j).any (fun k => slotsAgree u k j && !slotsAgree u k i)) :=
  ⟨a4, (sf a4), 5, 4, 0, true, false, by decide +kernel⟩

def a4d := wr 5 {} a4

def ao := wr 4 {st := .outvoted} {a4 with gov.sel := some 5}

def ad := wr 4 {st := .disputed, partner := some 5} {a4 with gov.sel := some 5}

theorem witness_DisagreementsAreVotedOn_3 :
    ∃ (s u : State) (dt : Nat) (n k : Fin 13),
      (u = slotsFirst (begin dt s)) ∧
      (((u.refs[n]).st = .outvoted ∧ u.gov.sel = some k) ∨ ((u.refs[n]).st = .disputed ∧ (u.refs[n]).partner = some k)) ∧
      (slotsAgree u n k = true) :=
  ⟨ao, (sf ao), 5, 4, 5, by decide +kernel⟩

def at_ : State := {ad with tb.lastTick := 0}

theorem witness_DisagreementsAreVotedOn_4 :
    ∃ (s : State) (dt : Nat) (i j : Fin 13),
      (i ≠ j) ∧
      (govMode s = .holdover) ∧
      ((s.refs[i]).held = true) ∧
      ((s.refs[j]).held = true ∨ (s.refs[j]).st = .wtr ∨ (s.refs[j]).st = .eligible) ∧
      (refKind s i ≠ refKind s j) ∧
      (timeOrPhase (refKind s i) = true) ∧
      (timeOrPhase (refKind s j) = true) ∧
      (beyondNs ((s.refs[i]).x - (s.refs[j]).x) s.cfg.b05.fantail.disagreeNs = false) :=
  ⟨(wr 4 {st := .qualifying, held := true} {a4 with pwr.mode := .holdover}), 5, 4, 5, by decide +kernel⟩

def ae : State := { a4 with ports := a4.ports.set 0 {a4.ports[0] with link := true} }

theorem witness_EsmcIsReceivedAndSent_1 :
    ∃ (s : State) (dt : Nat) (k : Fin 2) (p : Fin 8) (ssm : Nat) (tlv : Option EsmcTlv),
      (p = lanePort s (Fin.ofNat 8 (s.cfg.b05.slot[11 + k.val]).synceLane)) ∧
      ((s.ports[p]).link = true) ∧
      (serving s = true ∨ s.pwr.mode = .load ∧ s.pwr.loadKind = .reload) :=
  ⟨ae, 5, 1, 0, 33, none, by decide +kernel⟩

theorem witness_EsmcIsReceivedAndSent_2 :
    ∃ (s : State) (dt : Nat) (k : Fin 2) (p : Fin 8) (ssm : Nat) (tlv : Option EsmcTlv),
      (p = lanePort s (Fin.ofNat 8 (s.cfg.b05.slot[11 + k.val]).synceLane)) ∧
      ((s.ports[p]).link = true) ∧
      (s.pwr.mode = .load ∧ s.pwr.loadKind ≠ .reload ∨ s.pwr.mode = .safe) :=
  ⟨{ae with pwr.mode := .load, pwr.loadKind := .retain}, 5, 1, 0, 33, none, by decide +kernel⟩

theorem witness_EsmcIsReceivedAndSent_3 :
    ∃ (s : State) (dt : Nat) (k : Fin 2) (ssm : Nat) (tlv : Option EsmcTlv),
      ((s.ports[lanePort s (Fin.ofNat 8 (s.cfg.b05.slot[11 + k.val]).synceLane)]).link = false) :=
  ⟨a4, 5, 1, 33, none, by decide +kernel⟩

end W14

namespace W15

def i0 : State := {w0 with cfg.b08.ic := { w0.cfg.b08.ic with armMode := 1, startSrc := 0 }, ic := { w0.ic with startCell := some 0, windowOpen := true, startAt := 5, windowSeq := 2^32-1, stop := Vector.ofFn fun n => {cell := some 3} }, cfg.b08.stop := w0.cfg.b08.stop.set 2 { w0.cfg.b08.stop[2] with stopEn := true, maxStops := 0}}

def i00 : State := { i0 with tb.sec := 0, tb.sub := 0 }

def u0 : Units := edgeTime (begin 5 i0) (some 0) 77

def wstop (n : Fin 8) (f : IcStop → IcStop) (s : State) : State := {s with ic.stop := s.ic.stop.set n (f s.ic.stop[n])}

def lx : IcEdge := {chan := .start, instant := u0 + 10^20}

theorem witness_StartOpensAWindowAndStopsAreTimed_1 :
    ∃ (s : State) (dt : Nat) (f : Fin 800) (u : Units),
      (StartSettles dt s f u) ∧
      ((s.cfg.b08.ic.armMode = 2 → s.ic.singleArmed = true)) ∧
      ((∀ l, s.ic.lastStart = some l → (1000 * unitsPerNs : Nat) ≤ u - l)) :=
  ⟨i0, 5, 77, u0, by unfold StartSettles NoneSettled; decide +kernel, by decide +kernel⟩

def i0b : State := {i0 with cfg.b08.ic.armMode := 2, ic.singleArmed := true, ic.lastStart := some (edgeTime (begin 5 i0) (some 0) 77 - 8192000000), ic.queue := List.replicate 256 {}}

def ic2 (l : Int) (a : Option Nat) : State := wstop 2 (fun p => {p with recent := some (l, a)}) i0

theorem witness_StartOpensAWindowAndStopsAreTimed_2 :
    ∃ (s : State) (dt : Nat) (f : Fin 800) (u l : Units),
      (StartSettles dt s f u) ∧
      (s.ic.lastStart = some l) ∧
      (u - l < (1000 * unitsPerNs : Nat)) :=
  ⟨i0b, 5, 78, (u0 - 8192), (u0 - 8192000000), by unfold StartSettles NoneSettled; decide +kernel, by decide +kernel⟩

def e2 : Units := edgeTime (begin 5 i0) (some 3) 5

def iw (d : Int) : State := {i0 with ic.startAt := e2 - d}

theorem witness_StartOpensAWindowAndStopsAreTimed_3 :
    ∃ (s : State) (dt : Nat) (n : Fin 8) (f : Fin 800) (b : Bool) (u : Units),
      (StopSettles dt s n f u) ∧
      (s.ic.windowOpen = true) ∧
      ((s.ic.stop[n]).shut = false) ∧
      ((∀ l, (s.ic.stop[n]).lastEdge = some l → (4 * unitsPerNs : Nat) ≤ u - l)) ∧
      ((s.ic.stop[n]).stops ≤ (s.cfg.b08.stop[n]).maxStops) ∧
      (s.ic.queue.length < 256) ∧
      (b = true ∨ -((3 * unitsPerPs : Nat) : Int) ≤ u - s.ic.startAt) :=
  ⟨(iw (3*8192+1)), 5, 2, 5, true, e2, by unfold StopSettles NoneSettled; decide +kernel, by decide +kernel⟩

def iws (d : Int) (k : Nat) : State := wstop 2 (fun p => {p with lastEdge := some (e2 - 4*8192*1000), spacingDue := true, stops := k}) {iw d with cfg.b08.stop := i0.cfg.b08.stop.set 2 { i0.cfg.b08.stop[2] with maxStops := 4}}

theorem witness_StartOpensAWindowAndStopsAreTimed_4 :
    ∃ (s : State) (dt : Nat) (n : Fin 8) (f : Fin 800) (b : Bool) (u : Units),
      (StopSettles dt s n f u) ∧
      (s.ic.windowOpen = false ∨ (s.ic.stop[n]).shut = true ∨ b = false ∧ u - s.ic.startAt < -((3 * unitsPerPs : Nat) : Int)) :=
  ⟨{i0 with ic.windowOpen := false}, 5, 2, 5, true, e2, by unfold StopSettles NoneSettled; decide +kernel, by decide +kernel⟩

theorem witness_StartOpensAWindowAndStopsAreTimed_5 :
    ∃ (s : State) (dt : Nat) (n : Fin 8) (f : Fin 800) (u : Units),
      (StopSettles dt s n f u) ∧
      (s.ic.windowOpen = true) ∧
      ((s.ic.stop[n]).shut = false) ∧
      ((3 * unitsPerPs : Nat) < u - s.ic.startAt) :=
  ⟨(wstop 2 (fun p => {p with lastEdge := some (e2 - 4*8192*1000 + 1)}) (iw (4*8192))), 5, 2, 5, e2, by unfold StopSettles NoneSettled; decide +kernel, by decide +kernel⟩

def idl : State := {i0 with cfg.b08.stop := i0.cfg.b08.stop.set 4 { i0.cfg.b08.stop[4] with stopDelayPs := 1000000}}

theorem witness_StartOpensAWindowAndStopsAreTimed_6 :
    ∃ (s : State) (dt : Nat) (f : Fin 800) (u : Units),
      (s.cfg.b08.ic.armMode ≠ 0) ∧
      (s.ic.startCell ≠ none) ∧
      (s.cfg.b08.ic.startSrc ≠ 12) ∧
      (u = edgeTime (begin dt s) s.ic.startCell f - s.cfg.b08.ic.startDelayPs * unitsPerPs) ∧
      (NoneSettled dt s) ∧
      (nowUnits (begin dt s) < u + icLag s) :=
  ⟨{idl with ic.line := [lx]}, 5, 77, u0, by decide +kernel, by decide +kernel, by decide +kernel, by decide +kernel, by unfold NoneSettled; decide +kernel, by decide +kernel⟩

theorem witness_StartOpensAWindowAndStopsAreTimed_7 :
    ∃ (s : State) (dt : Nat) (n : Fin 8) (f : Fin 800) (b : Bool) (u : Units),
      (stopWorks s n = true) ∧
      ((s.cfg.b08.stop[n]).stopMode = 0) ∧
      ((s.cfg.b08.stop[n]).stopSrc ≠ 12) ∧
      (u = edgeTime (begin dt s) (s.ic.stop[n]).cell f - (s.cfg.b08.stop[n]).stopDelayPs * unitsPerPs) ∧
      (NoneSettled dt s) ∧
      (nowUnits (begin dt s) < u + icLag s) :=
  ⟨{idl with ic.line := [{lx with instant := e2 - 7}]}, 5, 2, 5, false, e2, by decide +kernel, by decide +kernel, by decide +kernel, by decide +kernel, by unfold NoneSettled; decide +kernel, by decide +kernel⟩

def is1 : State := {iw 7 with cfg.b08.stop := i0.cfg.b08.stop.set 2 { i0.cfg.b08.stop[2] with stopMode := 1, stopDiv := 1 }}

def is2 : State := {is1 with cfg.b08.stop := is1.cfg.b08.stop.set 2 { is1.cfg.b08.stop[2] with stopDiv := 2 }}

theorem witness_StartOpensAWindowAndStopsAreTimed_8 :
    ∃ (s : State) (dt : Nat) (n : Fin 8) (f : Fin 800) (b : Bool),
      (stopWorks s n = true) ∧
      ((s.cfg.b08.stop[n]).stopMode ≠ 0) ∧
      ((s.cfg.b08.stop[n]).stopSrc ≠ 12) ∧
      (NoneSettled dt s) :=
  ⟨is2, 5, 2, 5, true, by decide +kernel, by decide +kernel, by decide +kernel, by unfold NoneSettled; decide +kernel⟩

theorem witness_StartOpensAWindowAndStopsAreTimed_9 :
    ∃ (s : State) (dt : Nat) (n : Fin 8) (f : Fin 800) (b : Bool) (u : Units),
      (stopWorks s n = true) ∧
      ((s.cfg.b08.stop[n]).stopMode ≠ 0) ∧
      ((s.cfg.b08.stop[n]).stopSrc ≠ 12) ∧
      ((s.cfg.b08.stop[n]).stopDiv ≤ (s.ic.stop[n]).divCount + 1) ∧
      (pairFree s (s.ic.stop[n]).cell (s.cfg.b08.stop[n]).stopSrc = true) ∧
      (s.ic.queue.length < 256) ∧
      (u = edgeTime (begin dt s) (s.ic.stop[n]).cell f - (s.cfg.b08.stop[n]).stopDelayPs * unitsPerPs) ∧
      (NoneSettled dt s) ∧
      (u + icLag s ≤ nowUnits (begin dt s)) :=
  ⟨is1, 5, 2, 5, true, e2, by decide +kernel, by decide +kernel, by decide +kernel, by decide +kernel, by decide +kernel, by decide +kernel, by decide +kernel, by unfold NoneSettled; decide +kernel, by decide +kernel⟩

theorem witness_StartOpensAWindowAndStopsAreTimed_10 :
    ∃ (s : State) (dt : Nat) (f : Fin 800),
      (s.cfg.b08.ic.startSrc = 12) ∧
      (NoneSettled dt s) :=
  ⟨{i0 with cfg.b08.ic.startSrc := 12}, 5, 2, by decide +kernel, by unfold NoneSettled; decide +kernel⟩

theorem witness_StartOpensAWindowAndStopsAreTimed_11 :
    ∃ (s : State) (dt : Nat) (n : Fin 8) (f : Fin 800) (b : Bool),
      ((s.cfg.b08.stop[n]).stopSrc = 12) ∧
      (NoneSettled dt s) :=
  ⟨{i0 with cfg.b08.stop := Vector.replicate 8 {stopSrc := 12}}, 5, 2, 5, true, by decide +kernel, by unfold NoneSettled; decide +kernel⟩

theorem witness_StartOpensAWindowAndStopsAreTimed_12 :
    ∃ (s : State) (dt : Nat),
      (NoneSettled dt s) :=
  ⟨i0, 5, by unfold NoneSettled; decide +kernel⟩

def i1 : State := {i0 with cfg.b08.stop := i0.cfg.b08.stop.set 2 { i0.cfg.b08.stop[2] with stopMode := 2, gateMs := 1000, stopDiv := 1, nomFreqHz := 1}, ic.stop := i0.ic.stop.set 2 {i0.ic.stop[2] with gate := some {stamps := [1,2]}}}

def g3 : IcGate := {stamps := [0, 8192000000000000, 2*8192000000000000], stop := 7}

theorem witness_GatesRingAndCellSwaps_2 :
    ∃ (s : State) (dt : Nat) (n : Fin 8) (g : IcGate) (l : List IcGate),
      ((s.ic.stop[n]).closed = g :: l) ∧
      (s.ic.queue.length < 256) :=
  ⟨{i1 with ic.stop := i0.ic.stop.set 2 {i1.ic.stop[2] with closed := [g3, {}]}}, 5, 2, g3, [{}], by decide +kernel⟩

theorem witness_GatesRingAndCellSwaps_3 :
    ∃ (s : State) (dt : Nat) (r : IcRec) (q : List IcRec),
      (NoneSettled dt s) ∧
      (s.ic.queue = r :: q) ∧
      (recSettled (begin dt s) r = true) :=
  ⟨{i0 with ic.queue := [{},{index:=3}]}, 5, {}, [{index:=3}], by unfold NoneSettled; decide +kernel, by decide +kernel⟩

def im : IcRec := {kind := .marker, instant := 999*unitsPerSec}

def imw : State := {i1 with ic.queue := [im], ic.stop := i0.ic.stop.set 2 {i1.ic.stop[2] with closed := [g3]}}

theorem witness_GatesRingAndCellSwaps_4 :
    ∃ (s : State) (dt : Nat) (r : IcRec) (q : List IcRec),
      (NoneSettled dt s) ∧
      (s.ic.queue = r :: q) ∧
      (recSettled (begin dt s) r = false) :=
  ⟨imw, 5, im, [], by unfold NoneSettled; decide +kernel, by decide +kernel⟩

def i2 : State := {i0 with dress.retired := i0.dress.retired.set 3 9}

theorem witness_GatesRingAndCellSwaps_5 :
    ∃ (s : State) (dt : Nat) (c : Fin 12),
      (cellRetired s s.ic.startCell = true) ∧
      ((spareCells s).head? = some c) :=
  ⟨i2, 5, 1, by decide +kernel⟩

theorem witness_GatesRingAndCellSwaps_6 :
    ∃ (s : State) (dt : Nat) (n : Fin 8) (c : Fin 12),
      (cellRetired s (s.ic.stop[n]).cell = true) ∧
      ((spareCells s).head? = some c) :=
  ⟨i2, 5, 4, 1, by decide +kernel⟩

theorem witness_GatesRingAndCellSwaps_7 :
    ∃ (s : State) (dt : Nat),
      (cellRetired s s.ic.startCell = false) :=
  ⟨i0, 5, by decide +kernel⟩

theorem witness_GatesRingAndCellSwaps_8 :
    ∃ (s : State) (dt : Nat) (n : Fin 8),
      (cellRetired s (s.ic.stop[n]).cell = false) :=
  ⟨i0, 5, 4, by decide +kernel⟩

def fr : IcGate := {bad := false, div := 1, nom := 1}

theorem witness_GatesRingAndCellSwaps_1 :
    ∃ (s : State) (dt : Nat) (n : Fin 8) (g fresh : IcGate),
      (stopWorks s n = true) ∧
      ((s.cfg.b08.stop[n]).stopMode = 2) ∧
      ((s.ic.stop[n]).gate = some g) ∧
      (NoneSettled dt s) ∧
      (fresh = { bad := s.pwr.mode == .load, div := (s.cfg.b08.stop[n]).stopDiv, nom := (s.cfg.b08.stop[n]).nomFreqHz }) :=
  ⟨i1, 5, 2, {stamps := [1,2]}, fr, by decide +kernel, by decide +kernel, by decide +kernel, by unfold NoneSettled; decide +kernel, by decide +kernel⟩

end W15

namespace W16

def wp (p : PpsOut) : State := {w0 with outs.pps := w0.outs.pps.set 2 p}

theorem witness_PulsesFollowTheirSchedule_1 :
    ∃ (s : State) (dt : Nat) (n : Fin 4) (T : Nat) (u : Units),
      ((s.outs.pps[n]).next = some T) ∧
      (u = riseAt s n T) ∧
      (instantCome (begin dt s) u = true) ∧
      ((s.outs.pps[n]).muted = false) ∧
      ((s.outs.pps[n]).high = false) :=
  ⟨(wp {next := some 5, muted := false, st := .periodic}), 5, 2, 5, (riseAt (wp {}) 2 5), by decide +kernel⟩

theorem witness_PulsesFollowTheirSchedule_2 :
    ∃ (s : State) (dt : Nat) (n : Fin 4) (T : Nat) (u : Units),
      ((s.outs.pps[n]).next = some T) ∧
      (u = riseAt s n T) ∧
      (instantCome (begin dt s) u = true) ∧
      ((s.outs.pps[n]).muted = true ∨ (s.outs.pps[n]).high = true) :=
  ⟨(wp {next := some 5, muted := true, st := .armed}), 5, 2, 5, (riseAt (wp {}) 2 5), by decide +kernel⟩

theorem witness_PulsesFollowTheirSchedule_3 :
    ∃ (s : State) (dt : Nat) (n : Fin 4),
      ((s.outs.pps[n]).next = none ∨ (∃ T, (s.outs.pps[n]).next = some T ∧ instantCome (begin dt s) (riseAt s n T) = false)) :=
  ⟨(wp {next := some (10^17), muted := true, high := true}), 5, 2, (Or.inr ⟨10^17, (by decide +kernel), (by decide +kernel)⟩)⟩

theorem witness_PulsesFollowTheirSchedule_4 :
    ∃ (s : State) (dt : Nat) (n : Fin 4),
      ((s.outs.pps[n]).high = true) ∧
      (instantCome (begin dt s) (s.outs.pps[n]).fallAt = true) ∧
      ((s.outs.pps[n]).deferred = false) ∧
      (ppsMuteWanted s n = false ∨ (s.outs.pps[n]).muted = true) :=
  ⟨(wp {next := some 5, muted := true, high := true}), 5, 2, by decide +kernel⟩

def wpe (p : PpsOut) : State := { wp p with pwr.mode := .safe }

theorem witness_PulsesFollowTheirSchedule_5 :
    ∃ (s : State) (dt : Nat) (n : Fin 4),
      ((s.outs.pps[n]).high = true) ∧
      (instantCome (begin dt s) (s.outs.pps[n]).fallAt = true) ∧
      (ppsMuteWanted s n = true) ∧
      ((s.outs.pps[n]).muted = false) :=
  ⟨(wpe {next := some 5, muted := false, high := true}), 5, 2, by decide +kernel⟩

theorem witness_PulsesFollowTheirSchedule_6 :
    ∃ (s : State) (dt : Nat) (n : Fin 4),
      ((s.outs.pps[n]).high = true) ∧
      (instantCome (begin dt s) (s.outs.pps[n]).fallAt = true) ∧
      ((s.outs.pps[n]).deferred = true) ∧
      (ppsMuteWanted s n = false) :=
  ⟨(wp {next := some 5, muted := false, high := true, deferred := true}), 5, 2, by decide +kernel⟩

theorem witness_PulsesFollowTheirSchedule_7 :
    ∃ (s : State) (dt : Nat) (n : Fin 4),
      ((s.outs.pps[n]).high = false ∨ instantCome (begin dt s) (s.outs.pps[n]).fallAt = false) :=
  ⟨(wp {next := some 5, muted := false, high := true, fallAt := 10^30, deferred := true}), 5, 2, by decide +kernel⟩

theorem witness_DividersAndTodSentences_1 :
    ∃ (s : State) (dt : Nat) (n : Fin 2) (d : Nat),
      (d = (s.cfg.b09.clk[n]).clkDiv) :=
  ⟨w0, 5, 1, (w0.cfg.b09.clk[1]).clkDiv, by decide +kernel⟩

theorem witness_DividersAndTodSentences_2 :
    ∃ (s : State) (dt : Nat) (n : Fin 2),
      ((s.outs.clk[n]).running = true) ∧
      ((s.outs.clk[n]).alignDue = true) ∧
      (atSecond (begin dt s) = true) :=
  ⟨{w0 with tb.sub := 5, outs.clk := w0.outs.clk.set 1 {running := true, alignDue := true}}, 0, 1, by decide +kernel⟩

theorem witness_DividersAndTodSentences_3 :
    ∃ (s : State) (dt : Nat) (n : Fin 2),
      ((s.outs.clk[n]).running = false ∨ (s.outs.clk[n]).alignDue = false ∨ atSecond (begin dt s) = false) :=
  ⟨{w0 with outs.clk := w0.outs.clk.set 1 {running := true, alignDue := true}}, 5, 1, by decide +kernel⟩

def tc : TodContent := {sec := 1000}

def td : State := {w0 with outs.todDue := [{start := 10^30}, tc], cfg.b09.tod.todEn := true}

theorem witness_DividersAndTodSentences_4 :
    ∃ (s : State) (dt : Nat) (c : TodContent),
      (s.outs.todDue.find? (fun c => instantCome (begin dt s) c.start) = some c) ∧
      (todLow s = false) ∧
      (s.cfg.b09.tod.todEn = true) :=
  ⟨td, 5, tc, by decide +kernel⟩

theorem witness_DividersAndTodSentences_5 :
    ∃ (s : State) (dt : Nat) (c : TodContent),
      (s.outs.todDue.find? (fun c => instantCome (begin dt s) c.start) = some c) ∧
      (todLow s = true ∨ s.cfg.b09.tod.todEn = false) :=
  ⟨{td with pwr.mode := .safe}, 5, tc, by decide +kernel⟩

theorem witness_DividersAndTodSentences_6 :
    ∃ (s : State) (dt : Nat),
      ((∀ c ∈ s.outs.todDue, instantCome (begin dt s) c.start = false)) :=
  ⟨{w0 with outs.todDue := [{start := 10^30}]}, 5, by decide +kernel⟩

theorem witness_DividersAndTodSentences_7 :
    ∃ (s : State) (dt : Nat) (b rx : Bytes),
      (s.outs.todSent = some b) :=
  ⟨{w0 with outs.todSent := some [1], cfg.b09.tod.todEchoEn := true}, 5, [1], [1], by decide +kernel⟩

theorem witness_DividersAndTodSentences_8 :
    ∃ (s : State) (dt : Nat) (rx : Bytes),
      (s.outs.todSent = none) :=
  ⟨w0, 5, [2], by decide +kernel⟩

def hx : State := {w0 with pwr.mode := .holdover, ho.st := 1, ho.e := 10^9, ho.par.expiryPpsMute := true, outs.pps := w0.outs.pps.set 2 {muted := false}, tb.lastTick := 10^9}

theorem witness_HoldoverKeysAndLeapFollowTheTime_1 :
    ∃ (s u : State) (dt : Nat),
      (u = disputesFirst (begin dt s)) ∧
      (u.ho.st = 1) ∧
      ((u.ho.par.hoBudgetNs : Rat) < u.ho.e) :=
  ⟨hx, (disputesFirst (begin 5 hx)), 5, by decide +kernel⟩

theorem witness_HoldoverKeysAndLeapFollowTheTime_2 :
    ∃ (s u : State) (dt : Nat),
      (u = disputesFirst (begin dt s)) ∧
      (u.ho.st ≠ 1 ∨ u.ho.e ≤ (u.ho.par.hoBudgetNs : Rat)) :=
  ⟨w0, (disputesFirst (begin 5 w0)), 5, by decide +kernel⟩

end W16

namespace W17

/-- At 40 degrees the sine is not 0, whatever stands below the binary places held. -/
theorem sin40 : sinSqDeg 40 ≠ 0 := by
  have key : ∀ q r : Rat, (0 : Int) < (q * ((2 ^ 48 : Nat) : Rat)).floor → nearBinary 48 q r ≠ 0 := by
    intro q r h
    have u : (0 : Rat) ≤ unitPart r := by
      have := Rat.floor_le (a := r)
      unfold unitPart; grind
    have f : (0 : Rat) < ((q * ((2 ^ 48 : Nat) : Rat)).floor : Rat) := by exact_mod_cast h
    unfold nearBinary
    have d : (0 : Rat) < ((2 ^ 48 : Nat) : Rat) := by decide +kernel
    have : (0 : Rat) < (((q * ((2 ^ 48 : Nat) : Rat)).floor : Rat) + unitPart r) / ((2 ^ 48 : Nat) : Rat) := by
      rw [Rat.div_def]; exact Rat.mul_pos (by grind) (Rat.inv_pos.mpr d)
    intro e; rw [e] at this; exact absurd this (by decide)
  exact key _ _ (by decide +kernel)

def gc (n : Fin 32) (c : GnssChan) (s : State) : State := modChan n (fun _ => c) s

def g0 : State := gc 3 {role := .track, prn := 7, used := true} {w0 with cfg.b07.gnss.gnssEnable := true, cfg.b07.gnss.gantEn := true, gnss := {w0.gnss with started := true, startDue := true, held := some (1,2,3), timingState := 1, solved := true, towKnown := true}, refs := w0.refs.set 4 {st := .eligible}}

def gg (s : State) : State := {s with cfg.b07.gnss.gfeClocking := true}

theorem witness_GnssStartsStopsSleepsAndWakes_1 :
    ∃ (s : State) (dt : Nat) (f : StartFacts),
      (s.cfg.b07.gnss.gnssEnable = true) ∧
      (s.gnss.startDue = true) ∧
      (s.gnss.asleep = false) ∧
      (s.gnss.sampleLoss = false) :=
  ⟨{g0 with gnss.timingState := 0}, 5, {hotSats := [], almanacFresh := true, posWithin100km := true}, by decide +kernel⟩

theorem witness_GnssStartsStopsSleepsAndWakes_2 :
    ∃ (s : State) (dt : Nat),
      (s.cfg.b07.gnss.gnssEnable = true) ∧
      (s.gnss.sampleLoss = false) :=
  ⟨g0, 5, by decide +kernel⟩

theorem witness_GnssStartsStopsSleepsAndWakes_3 :
    ∃ (s : State) (dt week tow : Nat) (sats : List SatMeas) (e : GnssEpoch),
      (gnssRuns s = true) ∧
      (200000 < e.gsRatePpb.natAbs) :=
  ⟨(gg {g0 with gnss.startAt := some 3}), 5, 3, 4, [], {gsRatePpb := -200001}, by decide +kernel⟩

theorem witness_GnssStartsStopsSleepsAndWakes_4 :
    ∃ (s : State) (dt : Nat),
      (s.gnss.sampleLoss = true) ∧
      (gsclkMayRun s = true) :=
  ⟨(gg {g0 with gnss.sampleLoss := true}), 5, by decide +kernel⟩

theorem witness_GnssStartsStopsSleepsAndWakes_5 :
    ∃ (s : State) (dt : Nat),
      (gnssRuns s = true) ∧
      (s.cfg.b07.gnss.sleepEn = true) ∧
      (s.pwr.mode = .locked) ∧
      (s.gov.sel ≠ some 4) ∧
      ((s.refs[4]).st = .eligible) ∧
      (s.gnss.held ≠ none) ∧
      (wakesNow s = false) :=
  ⟨{gg g0 with cfg.b07.gnss.sleepEn := true, refs := g0.refs.set 6 {st := .selected}}, 5, by decide +kernel⟩

theorem witness_GnssStartsStopsSleepsAndWakes_6 :
    ∃ (s : State) (dt : Nat),
      (s.gnss.asleep = true) ∧
      (s.gnss.sleepAt + s.cfg.b07.gnss.sleepS * clkPerSec ≤ (begin dt s).clk ∨ s.cfg.b07.gnss.sleepEn = false ∨ wakesNow s = true) :=
  ⟨{g0 with gnss.asleep := true}, 5, by decide +kernel⟩

def g1 := gg g0

theorem witness_GnssSuspicionFlagsSetTheTimingState_1 :
    ∃ (s : State) (l : AntLevel),
      (s.cfg.b07.gnss.gnssEnable = true) ∧
      (s.cfg.b07.gnss.gantEn = true) ∧
      (s.gnss.antFault = false) ∧
      (l.high = s.cfg.b07.gnss.gantPol) :=
  ⟨{g0 with gnss.timingState := 1}, {dt := 5, high := false}, by decide +kernel⟩

theorem witness_GnssSuspicionFlagsSetTheTimingState_2 :
    ∃ (s : State) (l : AntLevel),
      (s.cfg.b07.gnss.gnssEnable = true) ∧
      (s.cfg.b07.gnss.gantEn = true) ∧
      (s.gnss.antFault = true) ∧
      (l.high = !s.cfg.b07.gnss.gantPol) :=
  ⟨{g0 with gnss.antFault := true}, {dt := 5, high := true}, by decide +kernel⟩

theorem witness_GnssSuspicionFlagsSetTheTimingState_3 :
    ∃ (s : State) (dt : Nat),
      (s.gnss.spoof = false) ∧
      (gnssRuns s = true) ∧
      (spoofCondition s = true) :=
  ⟨{g1 with cfg.b07.gnss.spoofPrnMin := 0}, 5, by decide +kernel⟩

theorem witness_GnssSuspicionFlagsSetTheTimingState_4 :
    ∃ (s : State) (dt : Nat),
      (s.gnss.spoof = true) ∧
      (spoofCondition s = false) :=
  ⟨{g1 with gnss.spoof := true}, 5, by decide +kernel⟩

theorem witness_GnssSuspicionFlagsSetTheTimingState_5 :
    ∃ (s : State) (dt : Nat),
      (s.gnss.jamming = false) ∧
      (gnssRuns s = true) ∧
      (s.gnss.jamFresh = true) ∧
      ((10 * s.cfg.b07.gnss.jamDb : Int) ≤ s.gnss.jamLevel) :=
  ⟨{g1 with gnss.jamLevel := 3000, gnss.jamFresh := true}, 5, by decide +kernel⟩

theorem witness_GnssSuspicionFlagsSetTheTimingState_6 :
    ∃ (s : State) (dt : Nat),
      (s.gnss.jamming = true) ∧
      (trackedChans s ≠ []) ∧
      (s.gnss.jamFresh = true) ∧
      (s.gnss.jamLevel < 10 * s.cfg.b07.gnss.jamDb - 10) :=
  ⟨{g1 with gnss.jamLevel := -3000, gnss.jamFresh := true, gnss.jamming := true}, 5, by decide +kernel⟩

theorem witness_GnssSuspicionFlagsSetTheTimingState_7 :
    ∃ (s : State) (dt : Nat),
      (s.gnss.xcheck = false) ∧
      (gnssRuns s = true) ∧
      (s.cfg.b07.gnss.xcheckNs ≠ 0) ∧
      (timeHeld s = true) ∧
      (s.gov.sel ≠ some 4) ∧
      (s.gnss.xFails = 10) :=
  ⟨{g1 with cfg.b07.gnss.xcheckNs := 50, gnss.xFails := 10}, 5, by decide +kernel⟩

theorem witness_GnssSuspicionFlagsSetTheTimingState_8 :
    ∃ (s : State) (dt : Nat),
      (s.gnss.xcheck = true) ∧
      (s.gnss.xPasses = 10) :=
  ⟨{g1 with gnss.xcheck := true, gnss.xPasses := 10}, 5, by decide +kernel⟩

theorem witness_SatellitesAreAcquiredWatchedAndReadmitted_1 :
    ∃ (s : State) (dt : Nat) (n : Fin 32) (a : Acquired),
      (gnssRuns s = true) ∧
      (chanServes s n = true) ∧
      ((s.gnss.chan[n]).role = .search) ∧
      ((trackedChans s).length < 16) ∧
      (1 ≤ a.prn) ∧
      (a.prn ≤ 32) ∧
      ((∀ m ∈ trackedChans s, (s.gnss.chan[m]).prn ≠ a.prn)) ∧
      (notSearched (begin dt s) a = false) ∧
      ((a.dopp - doppPredicted (begin dt s) a).natAbs ≤ 1000 * s.cfg.b07.gnss.doppSearchKhz) :=
  ⟨(gc 2 {role := .search} g1), 5, 2, {prn := 8}, by decide +kernel⟩

theorem witness_SatellitesAreAcquiredWatchedAndReadmitted_2 :
    ∃ (s : State) (dt : Nat) (n : Fin 32) (peak : Nat) (db : Int) (m : Fin 32) (l : Vector GnssChan 32),
      (l = s.gnss.chan.set m { s.gnss.chan[m] with prn := (s.gnss.chan[n]).prn }) ∧
      (gnssRuns s = true) ∧
      (chanServes s m = true) ∧
      (m ≠ n) ∧
      ((s.gnss.chan[m]).role = .shadow) ∧
      ((s.gnss.chan[n]).role = .track) ∧
      ((s.gnss.chan[n]).dupRun = 1) ∧
      (s.cfg.b07.gnss.shadowRelDb ≠ 0) ∧
      (3 < peak) ∧
      (db ≤ (s.cfg.b07.gnss.shadowRelDb : Int)) :=
  ⟨{gc 2 {role := .shadow} (gc 3 {role := .track, prn := 7, dupRun := 1, used := true} g1) with cfg.b07.gnss.shadowRelDb := 6}, 5, 3, 4, 5, 2, _, rfl, by decide +kernel⟩

theorem witness_SatellitesAreAcquiredWatchedAndReadmitted_3 :
    ∃ (s : State) (dt : Nat) (n : Fin 32) (peak : Nat) (db : Int) (m : Fin 32) (l : Vector GnssChan 32),
      (l = s.gnss.chan.set m { s.gnss.chan[m] with prn := (s.gnss.chan[n]).prn }) ∧
      (gnssRuns s = true) ∧
      (chanServes s m = true) ∧
      (m ≠ n) ∧
      ((s.gnss.chan[m]).role = .shadow) ∧
      ((s.gnss.chan[n]).role = .track) ∧
      (s.cfg.b07.gnss.shadowRelDb ≠ 0) ∧
      (peak ≤ 3 ∨ (s.cfg.b07.gnss.shadowRelDb : Int) < db) :=
  ⟨{gc 2 {role := .shadow} (gc 3 {role := .track, prn := 7, dupRun := 1} g1) with cfg.b07.gnss.shadowRelDb := 6}, 5, 3, 3, 5, 2, _, rfl, by decide +kernel⟩

theorem witness_SatellitesAreAcquiredWatchedAndReadmitted_4 :
    ∃ (s : State) (dt : Nat) (n : Fin 32),
      (gnssRuns s = true) ∧
      ((s.gnss.chan[n]).role = .track) ∧
      ((s.gnss.chan[n]).excl ≠ 0) ∧
      ((s.gnss.chan[n]).testOk = true) :=
  ⟨(gc 3 {role := .track, prn := 7, excl := 4, testOk := true} g1), 5, 3, by decide +kernel⟩

theorem witness_NavigationWordsFixesAndSolutions_1 :
    ∃ (s : State) (dt : Nat) (n : Fin 32) (w : BitVec 30) (sf wn tow : Nat) (u : Option GpsUtc),
      (gnssRuns s = true) ∧
      ((s.gnss.chan[n]).role = .track) :=
  ⟨g1, 5, 3, 77, 9, 17, (2^17+5), none, by decide +kernel⟩

def gu : State := gc 3 {role := .track, prn := 7, sf := (4, 86), sfWords := [1,2,3,4,5,6,7,8,9]} g1

theorem witness_NavigationWordsFixesAndSolutions_2 :
    ∃ (s : State) (dt : Nat) (n : Fin 32) (w : BitVec 30) (sf wn tow : Nat) (u : GpsUtc),
      (gnssRuns s = true) ∧
      ((s.gnss.chan[n]).role = .track) ∧
      (utcComplete (noteParity sf wn tow true s.gnss.chan[n]) = true) :=
  ⟨gu, 5, 3, 77, 4, 10, 86, {}, by decide +kernel⟩

def gf : State := {g1 with gnss.held := none}

def gfx (s : State) (x y z : Int) : Gnss := { s.gnss with surveyN := s.gnss.surveyN + 1, sumX := s.gnss.sumX + x, sumY := s.gnss.sumY + y, sumZ := s.gnss.sumZ + z, sumSq := s.gnss.sumSq + x * x + y * y + z * z }

theorem witness_NavigationWordsFixesAndSolutions_3 :
    ∃ (s : State) (dt : Nat) (g : Gnss) (x y z : Int),
      (gnssRuns s = true) ∧
      (s.cfg.b07.gnss.posMode = false) ∧
      (s.gnss.held = none) ∧
      (s.gnss.timingState ≠ 3) ∧
      (s.gnss.retainedDue = false) ∧
      (g = { s.gnss with surveyN := s.gnss.surveyN + 1, sumX := s.gnss.sumX + x, sumY := s.gnss.sumY + y, sumZ := s.gnss.sumZ + z, sumSq := s.gnss.sumSq + x * x + y * y + z * z }) :=
  ⟨gf, 5, (gfx gf 3 77 9), 3, 77, 9, by decide +kernel⟩

def gf2 : State := {gf with cfg.b07.gnss.surveyMinS := 1}

def gp : State := {gf with gnss.retainedDue := true, pd0.position := {copy0 := some (1, {x := 3, y := 4, z := 5, source := 1})}}

theorem witness_NavigationWordsFixesAndSolutions_4 :
    ∃ (s : State) (dt : Nat) (p : RetPosition) (x y z : Int),
      (gnssRuns s = true) ∧
      (s.cfg.b07.gnss.posMode = false) ∧
      (s.gnss.held = none) ∧
      (s.gnss.timingState ≠ 3) ∧
      (s.gnss.retainedDue = true) ∧
      (kept s.pd0.position = some p) ∧
      (p.source ≠ 2) ∧
      (distSq (p.x, p.y, p.z) (x, y, z) ≤ 50000 * 50000) :=
  ⟨gp, 5, {x := 3, y := 4, z := 5, source := 1}, 3, 77, 9, by decide +kernel⟩

def sm (c : Fin 32) : SatMeas := {chan := c, prn := c.val, x := 12345, elevDeg := 40, cn0 := 400, ephemerisOk := true}

def g7 := gc 3 {role := .track, prn := 3} (gc 6 {used := true} g1)

theorem witness_NavigationWordsFixesAndSolutions_5 :
    ∃ (s : State) (dt week tow : Nat) (m : SatMeas) (e : GnssEpoch),
      (gnssRuns s = true) ∧
      (s.gnss.held ≠ none) ∧
      ((s.gnss.chan[m.chan]).role = .track) ∧
      ((s.gnss.chan[m.chan]).prn = m.prn) ∧
      ((s.gnss.chan[m.chan]).excl = 0) ∧
      ((s.gnss.chan[m.chan]).duplicate = false) ∧
      ((s.gnss.chan[m.chan]).ephBad = false) ∧
      (m.ephemerisOk = true) ∧
      (m.iodFails = false) ∧
      (s.cfg.b07.gnss.elevMaskDeg ≤ m.elevDeg) ∧
      (m.cn0 ≤ 10 * s.cfg.b07.gnss.powerMaxDbhz) ∧
      (sinSqDeg m.elevDeg ≠ 0) ∧
      (e.gsRatePpb.natAbs ≤ 200000) :=
  ⟨g7, 5, 3, 77, (sm 3), {}, by decide +kernel, by decide +kernel, by decide +kernel, by decide +kernel, by decide +kernel, by decide +kernel, by decide +kernel, by decide +kernel, by decide +kernel, by decide +kernel, by decide +kernel, sin40, by decide +kernel⟩

def g4 := (List.finRange 4).foldl (fun s c => gc (c.castLE (by decide)) {role := .track, prn := c.val} s) gf

theorem witness_NavigationWordsFixesAndSolutions_6 :
    ∃ (s : State) (dt week tow : Nat) (sats : List SatMeas) (e : GnssEpoch) (x : Units),
      (gnssRuns s = true) ∧
      (s.gnss.held = none) ∧
      (4 ≤ sats.length) ∧
      (sats.length < 6) ∧
      ((sats.map (·.chan)).Nodup) ∧
      ((∀ m ∈ sats, (s.gnss.chan[m.chan]).role = .track ∧ (s.gnss.chan[m.chan]).prn = m.prn ∧ (s.gnss.chan[m.chan]).excl = 0 ∧ (s.gnss.chan[m.chan]).ephBad = false ∧ m.ephemerisOk = true ∧ s.cfg.b07.gnss.elevMaskDeg ≤ m.elevDeg ∧ satCause s m = 0)) ∧
      (e.navX.head? = some x) ∧
      (e.gsRatePpb.natAbs ≤ 200000) :=
  ⟨g4, 5, 3, 77, [sm 0, sm 1, sm 2, sm 3], {navX := [-66]}, (-66), by decide +kernel⟩

end W17

namespace W18

def v0 : State := {w0 with avs := {w0.avs with st := .active, wanted := some 800, setMv := 790, exponent := -12, nakRun := 1, checkDue := true}}

theorem witness_AvsWritesChecksAndFaults_1 :
    ∃ (s : State) (dt v : Nat),
      (s.avs.wanted = some v) ∧
      (s.avs.st = .active) ∧
      (pd4Runs s = true) :=
  ⟨v0, 5, 800, by decide +kernel⟩

theorem witness_AvsWritesChecksAndFaults_2 :
    ∃ (s : State) (dt v : Nat),
      (s.avs.wanted = some v) ∧
      (s.avs.st = .active) ∧
      (pd4Runs s = true) :=
  ⟨v0, 5, 800, by decide +kernel⟩

theorem witness_AvsWritesChecksAndFaults_3 :
    ∃ (s : State) (dt : Nat),
      (s.avs.checkDue = true) ∧
      (s.avs.st = .active) ∧
      (pd4Runs s = true) :=
  ⟨v0, 5, by decide +kernel⟩

theorem witness_AvsWritesChecksAndFaults_4 :
    ∃ (s : State) (dt v : Nat),
      (s.avs.checkDue = true) ∧
      (s.avs.st = .active) ∧
      (pd4Runs s = true) :=
  ⟨v0, 5, 810, by decide +kernel⟩

theorem witness_AvsWritesChecksAndFaults_5 :
    ∃ (s : State) (dt w : Nat),
      (pd4Runs s = true) ∧
      (s.pwr.applied = true) ∧
      (s.avs.st ≠ .disabled) :=
  ⟨v0, 5, (2^20+5), by decide +kernel⟩

theorem witness_AvsWritesChecksAndFaults_6 :
    ∃ (s : State) (dt m v : Nat) (e : Int),
      (pd4Runs s = true) ∧
      (s.pwr.applied = true) ∧
      (s.avs.st = .fault ∨ s.avs.st = .awaiting) ∧
      (linearExponent m = some e) :=
  ⟨{v0 with avs.st := .fault}, 5, 0x14, 800, (-12), by decide +kernel⟩

theorem witness_AvsWritesChecksAndFaults_7 :
    ∃ (s : State) (dt m : Nat) (v : Option Nat),
      (pd4Runs s = true) ∧
      (s.pwr.applied = true) ∧
      (s.avs.st = .awaiting) ∧
      (linearExponent m = none) :=
  ⟨{v0 with avs.st := .awaiting}, 5, 0x34, none, by decide +kernel⟩

theorem witness_RailsAreWatchedAndIntegrityKept_1 :
    ∃ (s : State) (dt : Nat) (rails : List Nat) (tj : Int),
      (pd4Runs s = true) :=
  ⟨v0, 5, [1800,70000], 13000, by decide +kernel⟩

theorem witness_RailsAreWatchedAndIntegrityKept_2 :
    ∃ (s : State) (dt mv : Nat) (r : Fin 8),
      (pd4Runs s = true) ∧
      (mv < (railWindow (vddioBHigh s mv) r).1 ∨ (railWindow (vddioBHigh s mv) r).2 < mv) :=
  ⟨v0, 5, 1899, 2, by decide +kernel⟩

theorem witness_RailsAreWatchedAndIntegrityKept_3 :
    ∃ (s : State) (dt mv : Nat) (r : Fin 8),
      (r ≠ 2 ∨ s.mon.vddioB33 ≠ none) ∧
      ((railWindow (vddioBHigh s mv) r).1 ≤ mv) ∧
      (mv ≤ (railWindow (vddioBHigh s mv) r).2) :=
  ⟨v0, 5, 776, 4, by decide +kernel⟩

def h0 : State := {w0 with tb.lastTick := 10^9, ho.st := 1, ho.e := 10^9, cfg.b05.fantail.integrityLimitNs := 1000, refs := (w0.refs.set 4 {st := .offTime}).set 5 {st := .offTime}, pwr.mode := .holdover, gov.sel := some 4, ts.rateClamped := true, gov.e := 10^20, ho.par.hoExhaustSafe := true}

def dd (s : State) : State := disputesFirst (begin 5 s)

theorem witness_RailsAreWatchedAndIntegrityKept_4 :
    ∃ (s u : State) (dt : Nat),
      (u = disputesFirst (begin dt s)) ∧
      (s.cfg.b05.fantail.integrityLimitNs ≠ 0) ∧
      (timeHeld s = true) ∧
      (timescaleOutvoted u = true) :=
  ⟨h0, (dd h0), 5, by decide +kernel⟩

def h1 : State := {h0 with pwr.mode := .locked}

theorem witness_RailsAreWatchedAndIntegrityKept_6 :
    ∃ (s u : State) (dt cause : Nat),
      (u = disputesFirst (begin dt s)) ∧
      (s.cfg.b05.fantail.integrityLimitNs = 0 ∨ ¬(cause = 1 ∧ timeHeld s = true ∧ timescaleOutvoted u = true) ∧ ¬(cause = 2 ∧ govMode s = .locked ∧ untrackable u = true)) :=
  ⟨{h1 with pwr.mode := .acquire}, (dd {h1 with pwr.mode := .acquire}), 5, 1, by decide +kernel⟩

theorem witness_RailsAreWatchedAndIntegrityKept_5 :
    ∃ (s u : State) (dt : Nat),
      (u = disputesFirst (begin dt s)) ∧
      (s.cfg.b05.fantail.integrityLimitNs ≠ 0) ∧
      (govMode s = .locked) ∧
      (untrackable u = true) :=
  ⟨h1, (dd h1), 5, by decide +kernel⟩

theorem witness_RailsAreWatchedAndIntegrityKept_7 :
    ∃ (s u : State) (dt cause : Nat),
      (u = disputesFirst (begin dt s)) ∧
      (hoFails u cause = true) :=
  ⟨h0, (dd h0), 5, 1, by decide +kernel⟩

theorem witness_RailsAreWatchedAndIntegrityKept_8 :
    ∃ (s u : State) (dt cause : Nat),
      (u = disputesFirst (begin dt s)) ∧
      (hoFails u cause = false) :=
  ⟨h0, (dd h0), 5, 2, by decide +kernel⟩

end W18

namespace W19

def d0 : State := {w0 with core.ms := (w0.core.ms.set 3 {st := .inService}).set 5 {st := .spare}, dress.fails := [(2,7,2)], cfg.b11.hopperCeLimit := 10, cfg.b11.autoRetire := false, cfg.b11.adpllRetryMax := 3}

def rr (l : List (Nat × RateRec)) (k : Nat) : RateRec := (getIndexed k l).getD {}

theorem witness_WearChecksAndUncorrectableErrors_1 :
    ∃ (s : State) (dt : Nat) (k : Fin 12) (c : UnitCheck),
      (pd4Runs s = true) ∧
      (unitChecked s k c.unit = true) ∧
      (c.immediate = false) ∧
      (checkFails (begin dt s) k c = false) ∧
      (bitAt s.dress.worn[k] c.unit = false) ∧
      (NothingWaits s) :=
  ⟨d0, 5, 2, {unit := 7, measured := 9}, by decide +kernel, by decide +kernel, by decide +kernel, by decide +kernel, by decide +kernel, by unfold NothingWaits; decide +kernel⟩

theorem witness_WearChecksAndUncorrectableErrors_2 :
    ∃ (s : State) (dt : Nat) (k : Fin 12) (c : UnitCheck),
      (pd4Runs s = true) ∧
      (unitChecked s k c.unit = true) ∧
      (unitTested s k c.unit = true) ∧
      (c.immediate = false) ∧
      (checkFails (begin dt s) k c = true) ∧
      (failsOf s k c.unit = 2) ∧
      (k ≠ 0) ∧
      (s.cfg.b11.autoRetire = false) ∧
      (bitAt s.dress.worn[k] c.unit = false) ∧
      (NothingWaits s) :=
  ⟨d0, 5, 2, {unit := 7, measured := 10}, by decide +kernel, by decide +kernel, by decide +kernel, by decide +kernel, by decide +kernel, by decide +kernel, by decide +kernel, by decide +kernel, by decide +kernel, by unfold NothingWaits; decide +kernel⟩

def dl (k : LeatLink → LeatLink) : State := {d0 with leat.link := d0.leat.link.set 2 (k {d0.leat.link[2] with st := .up}), refs := d0.refs.set 9 {st := .eligible}}

theorem witness_WearChecksAndUncorrectableErrors_3 :
    ∃ (s : State) (dt : Nat) (k : Fin 12) (c : UnitCheck),
      (pd4Runs s = true) ∧
      (unitChecked s k c.unit = true) ∧
      (unitTested s k c.unit = true) ∧
      (c.immediate = true) ∧
      (8 ≤ k.val) ∧
      (NothingWaits s) :=
  ⟨(dl id), 5, 10, {unit := 0, immediate := true, measured := 0}, by decide +kernel, by decide +kernel, by decide +kernel, by decide +kernel, by decide +kernel, by unfold NothingWaits; decide +kernel⟩

theorem witness_WearChecksAndUncorrectableErrors_4 :
    ∃ (s : State) (dt : Nat) (c : Fin 18432),
      (pd4Runs s = true) ∧
      (bitAt s.dress.retired[2] c.val = false) :=
  ⟨d0, 5, 18431, by decide +kernel⟩

def dr : State := {d0 with garner.rate := [(2,{valid := true}),(3,{valid := true}),(34,{valid := true, tat := 7})], garner.grant := [(2,{valid := true, v6 := true}),(3,{valid := true}),(4,{valid := true})], garner.bank := Vector.ofFn fun n => {phys := n.val}}

theorem witness_WearChecksAndUncorrectableErrors_5 :
    ∃ (s : State) (dt i : Nat),
      (pd4Runs s = true) ∧
      (Memory.wf s.garner = true) :=
  ⟨dr, 5, 2, by decide +kernel⟩

theorem witness_WearChecksAndUncorrectableErrors_6 :
    ∃ (s : State) (dt g : Nat),
      (pd4Runs s = true) ∧
      (Memory.wf s.garner = true) :=
  ⟨dr, 5, 2, by decide +kernel⟩

theorem witness_WearChecksAndUncorrectableErrors_7 :
    ∃ (s : State) (dt i p n : Nat) (b : Fin 48),
      (pd4Runs s = true) ∧
      (Memory.wf s.garner = true) ∧
      (b = rateBank i) ∧
      (b.val < 32) ∧
      ((s.garner.bank[b]).migrating = some (p, n)) ∧
      (bankOf s (s.garner.bank[b]).phys = some b) ∧
      (s.dress.toMigrate = []) ∧
      (bitAt s.dress.retired[1] (s.garner.bank[b]).phys = false) :=
  ⟨{dr with garner.bank := dr.garner.bank.set 0 {phys := 0, migrating := some (50,3)}}, 5, 3, 50, 3, 0, by decide +kernel⟩

def kt (s : State) : State := katTurn (begin 5 s)

def dk : State := {d0 with dress.katRan := 7, dress.katSince := 987654321987}

theorem witness_KnownAnswerRunsAndProbations_1 :
    ∃ (s u : State) (dt : Nat) (m : Fin 40),
      (u = katTurn (begin dt s)) ∧
      (katReady u m = true) :=
  ⟨dk, (kt dk), 5, 3, by decide +kernel⟩

theorem witness_KnownAnswerRunsAndProbations_2 :
    ∃ (s u : State) (dt : Nat) (m : Fin 40),
      (u = katTurn (begin dt s)) ∧
      (katReady u m = true) ∧
      (bitAt s.dress.retired[0] m.val = false) :=
  ⟨dk, (kt dk), 5, 3, by decide +kernel⟩

theorem witness_KnownAnswerRunsAndProbations_3 :
    ∃ (s u : State) (dt : Nat) (m : Fin 40) (b : Bool),
      (u = katTurn (begin dt s)) ∧
      ((s.core.ms[m]).st ≠ .inService ∨ (s.core.ms[m]).front ≠ none ∨ (s.core.ms[m]).back ≠ none ∨ katDone u m = true ∨ katDoneBelow u m.val = false) :=
  ⟨dk, (kt dk), 5, 5, false, by decide +kernel⟩

def de : State := {dk with dress.katSince := 0, dress.katRan := 0, cfg.b11.katPeriodS := 0}

theorem witness_KnownAnswerRunsAndProbations_4 :
    ∃ (s u : State) (dt : Nat) (m : Fin 40),
      (u = katTurn (begin dt s)) ∧
      ((s.core.ms[m]).st = .inService) ∧
      (katDone u m = false) ∧
      (u.dress.katSince + s.cfg.b11.katPeriodS * clkPerSec ≤ u.clk) :=
  ⟨de, (kt de), 5, 3, by decide +kernel⟩

theorem witness_KnownAnswerRunsAndProbations_5 :
    ∃ (s u : State) (dt : Nat) (m : Fin 40),
      (u = katTurn (begin dt s)) ∧
      ((s.core.ms[m]).st ≠ .inService ∨ katDone u m = true ∨ u.clk < u.dress.katSince + s.cfg.b11.katPeriodS * clkPerSec) :=
  ⟨dk, (kt dk), 5, 5, by decide +kernel⟩

def pr0 : Probation := {unit := 5, partner := 7, worn := some 3}

def d1 : State := {d0 with core.ms := d0.core.ms.set 5 {st := .probation}, dress.probations := d0.dress.probations.set 1 (some pr0)}

theorem witness_KnownAnswerRunsAndProbations_6 :
    ∃ (s : State) (dt : Nat) (k : Fin 4) (p : Probation),
      (s.dress.probations[k] = some p) ∧
      (p.passed = false) :=
  ⟨d1, 5, 1, pr0, by decide +kernel⟩

def d1p (n : Nat) : State := {d1 with dress.probations := d0.dress.probations.set 1 (some {pr0 with done := n})}

theorem witness_KnownAnswerRunsAndProbations_7 :
    ∃ (s : State) (dt : Nat) (k : Fin 4) (p : Probation),
      (s.dress.probations[k] = some p) ∧
      (p.passed = false) ∧
      (p.done ≠ 65536) :=
  ⟨{d1p 7 with cfg.b11.probationMaxMs := 1}, 5, 1, {pr0 with done := 7}, by decide +kernel⟩

theorem witness_KnownAnswerRunsAndProbations_8 :
    ∃ (s : State) (dt : Nat) (k : Fin 4) (p : Probation) (w : Fin 40),
      (s.dress.probations[k] = some p) ∧
      (p.passed = true) ∧
      (p.worn = some w) ∧
      (w ≠ p.unit) ∧
      ((s.core.ms[w]).st = .inService) ∧
      (s.dress.toReplace = []) ∧
      (s.dress.toAdd = 0) :=
  ⟨{d1 with dress.probations := d0.dress.probations.set 1 (some {pr0 with passed := true})}, 5, 1, {pr0 with passed := true}, 3, by decide +kernel⟩

def d2 : State := {d0 with core.ms := d0.core.ms.set 3 {st := .draining}}

theorem witness_KnownAnswerRunsAndProbations_9 :
    ∃ (s : State) (dt : Nat) (k : Fin 4) (p : Probation),
      (s.dress.probations[k] = some p) ∧
      (p.passed = true) ∧
      (p.worn = none) ∧
      (s.dress.toReplace = []) ∧
      (s.dress.toAdd = 0) :=
  ⟨{d1 with dress.probations := d0.dress.probations.set 1 (some {pr0 with passed := true, worn := none})}, 5, 1, {pr0 with passed := true, worn := none}, by decide +kernel⟩

theorem witness_KnownAnswerRunsAndProbations_10 :
    ∃ (s : State) (dt : Nat) (m : Fin 40),
      ((s.core.ms[m]).st = .draining) ∧
      ((s.core.ms[m]).front = none) ∧
      ((s.core.ms[m]).back = none) :=
  ⟨d2, 5, 3, by decide +kernel⟩

def d3 (n : Nat) : State := {d0 with garner.bank := d0.garner.bank.set 4 {phys := 4, migrating := some (49, n), holder := some 40}}

theorem witness_MigrationMapsCalibrationAndRetries_1 :
    ∃ (s : State) (dt beats : Nat) (b : Fin 48) (phys done : Nat),
      ((s.garner.bank[b]).migrating = some (phys, done)) ∧
      ((∀ k : Fin 48, b ≠ k → (s.garner.bank[k]).migrating = none)) ∧
      (dresserHolds s b = true) ∧
      ((s.garner.bank[b]).susp = []) ∧
      (done + min 16 beats < 32768) ∧
      (16 ≤ beats ∨ (∀ r ∈ bankEligible s b, r.2 ≠ .prec)) :=
  ⟨(d3 32751), 5, 17, 4, 49, 32751, by decide +kernel⟩

def d5 : State := {d3 3 with core.ms := d0.core.ms.set 3 {st := .inService, front := some ({cls := .prec}, .state [(4, 4)])}}

theorem witness_MigrationMapsCalibrationAndRetries_2 :
    ∃ (s : State) (dt beats : Nat) (b : Fin 48) (phys done : Nat),
      ((s.garner.bank[b]).migrating = some (phys, done)) ∧
      ((∀ k : Fin 48, b ≠ k → (s.garner.bank[k]).migrating = none)) ∧
      (dresserHolds s b = true) ∧
      ((s.garner.bank[b]).susp = []) ∧
      (beats < 16) ∧
      (done + beats < 32768) ∧
      ((bankEligible s b).any (fun r => r.2 == .prec) = true) :=
  ⟨d5, 5, 7, 4, 49, 3, by decide +kernel⟩

theorem witness_MigrationMapsCalibrationAndRetries_3 :
    ∃ (s : State) (dt : Nat) (b : Fin 48) (phys done i : Nat),
      ((s.garner.bank[b]).migrating = some (phys, done)) ∧
      ((∀ k : Fin 48, b ≠ k → (s.garner.bank[k]).migrating = none)) ∧
      (dresserHolds s b = true) ∧
      ((s.garner.bank[b]).susp = []) ∧
      (done + 16 < 32768) ∧
      (b.val < 32) ∧
      (rateBank i = b) :=
  ⟨{d3 3 with garner.rate := [(2,{valid := true}),(524292,{valid := true, tat := 7})]}, 5, 4, 49, 3, 524292, by decide +kernel⟩

theorem witness_MigrationMapsCalibrationAndRetries_4 :
    ∃ (s : State) (dt beats : Nat) (b : Fin 48) (phys done : Nat),
      ((s.garner.bank[b]).migrating = some (phys, done)) ∧
      ((∀ k : Fin 48, b ≠ k → (s.garner.bank[k]).migrating = none)) ∧
      (dresserHolds s b = true) ∧
      (32768 ≤ done + min 16 beats) ∧
      ((s.garner.bank[b]).susp = []) ∧
      (s.dress.toMigrate = []) ∧
      (bitAt s.dress.retired[1] (s.garner.bank[b]).phys = false) :=
  ⟨(d3 32752), 5, 17, 4, 49, 32752, by decide +kernel⟩

theorem witness_MigrationMapsCalibrationAndRetries_5 :
    ∃ (s : State) (dt : Nat),
      (pd4Runs s = true) :=
  ⟨d0, 5, by decide +kernel⟩

theorem witness_MigrationMapsCalibrationAndRetries_6 :
    ∃ (s : State) (dt fs : Nat) (c : Fin 12),
      (pd4Runs s = true) ∧
      (bitAt (retiredCells s) c.val = false) :=
  ⟨d0, 5, 900, 4, by decide +kernel⟩

def d4 (n : Nat) : State := {d0 with pll := modAdpll 2 (fun a => {a with st := .wordHold, retries := n}) d0.pll}

theorem witness_MigrationMapsCalibrationAndRetries_7 :
    ∃ (s : State) (dt : Nat) (n : Fin 4),
      (s.pll.oscinPresent = true) ∧
      ((s.pll.adpll[n]).st = .wordHold) ∧
      ((s.pll.adpll[n]).retries < s.cfg.b11.adpllRetryMax) :=
  ⟨(d4 2), 5, 2, by decide +kernel⟩

def d6 : State := {d0 with pll := modAdpll 3 (fun a => {a with st := .acquiring, retries := 2}) {d0.pll with spare := none}}

theorem witness_MigrationMapsCalibrationAndRetries_8 :
    ∃ (s : State) (dt : Nat) (n : Fin 4),
      (retries s n = true) ∧
      ((s.pll.adpll[n]).st ≠ .wordHold) ∧
      ((s.pll.adpll[n]).retries < s.cfg.b11.adpllRetryMax) :=
  ⟨d6, 5, 3, by decide +kernel⟩

def d7 : State := {d0 with pll := modAdpll 3 (fun a => {a with st := .acquiring, retries := 3}) {d0.pll with spare := none}}

theorem witness_MigrationMapsCalibrationAndRetries_9 :
    ∃ (s : State) (dt : Nat) (n : Fin 4),
      (retries s n = true) ∧
      (s.cfg.b11.adpllRetryMax ≤ (s.pll.adpll[n]).retries) ∧
      (bitAt s.dress.retired[4] n.val = false) ∧
      (s.pll.incoming = none) ∧
      (roleOf s.pll n ≠ some .sd) ∧
      ((roleOf s.pll n = some .tb → s.pll.spare ≠ none)) :=
  ⟨d7, 5, 3, by decide +kernel⟩

theorem witness_MigrationMapsCalibrationAndRetries_10 :
    ∃ (s : State) (dt : Nat) (n : Fin 4),
      (retries s n = true) ∧
      (s.cfg.b11.adpllRetryMax ≤ (s.pll.adpll[n]).retries) ∧
      (bitAt s.dress.retired[4] n.val = false) ∧
      (roleOf s.pll n = some .sd) :=
  ⟨(d4 3), 5, 2, by decide +kernel⟩

theorem witness_MigrationMapsCalibrationAndRetries_11 :
    ∃ (s : State) (dt : Nat) (n : Fin 4),
      (retries s n = false) :=
  ⟨d0, 5, 2, by decide +kernel⟩

end W19

namespace W20

def n0 : State := {w0 with rep.attnPending := 3, rep.attnLow := true, rep.ring := [{code:=5}]}

theorem witness_WindowReadsOnlyClearAndLatch_1 :
    ∃ (s : State) (dt words : Nat) (addr : BitVec 24) (b : Bool),
      (counterWf s.rep.cnt = true) :=
  ⟨n0, 5, 3, 0x04000D, true, by decide +kernel⟩

theorem witness_WindowReadsOnlyClearAndLatch_3 :
    ∃ (s : State) (dt words : Nat) (addr : BitVec 24) (b : Bool) (op : Byte),
      (s.pwr.mode = .retain ∨ s.pwr.resetHeld ≠ .none) :=
  ⟨{n0 with pwr.mode := .retain}, 5, 3, 0x040010, true, 5, by decide +kernel⟩

theorem witness_WindowReadsReturnAndClear_1 :
    ∃ (s : State) (dt : Nat) (a : BitVec 24),
      (windowAnswers s = true) ∧
      (rcMax a.toNat = 0) ∧
      (latchedBy a.toNat = []) ∧
      (a ≠ 0x100001#24) ∧
      (getIndexed a.toNat s.tele.latches = none) :=
  ⟨n0, 5, 0x040000, by decide +kernel⟩

theorem witness_WindowReadsReturnAndClear_2 :
    ∃ (s : State) (dt n : Nat),
      (windowAnswers s = true) :=
  ⟨n0, 5, 4, by decide +kernel⟩

theorem witness_WindowReadsReturnAndClear_4 :
    ∃ (s : State) (dt : Nat) (a : BitVec 24),
      (windowAnswers s = true) ∧
      (counterWf s.rep.cnt = true) ∧
      (rcMax a.toNat ≠ 0) ∧
      (latchedBy a.toNat = []) ∧
      (getIndexed a.toNat s.tele.latches = none) ∧
      (a ≠ 0x040013#24) ∧
      (absentPort s a.toNat = false) :=
  ⟨n0, 5, 0x04000E, by decide +kernel⟩

theorem witness_WindowReadsReturnAndClear_5 :
    ∃ (s : State) (dt : Nat) (a : BitVec 24),
      (windowAnswers s = true) ∧
      (rcMax a.toNat ≠ 0) ∧
      (a ≠ 0x040013#24) :=
  ⟨(wdir n0), 1000000, 0x04000E, by decide +kernel⟩

theorem witness_WindowReadsReturnAndClear_6 :
    ∃ (s : State) (dt : Nat) (a : BitVec 24),
      (windowAnswers s = true) ∧
      (rcMax a.toNat ≠ 0) ∧
      (getIndexed a.toNat s.tele.latches = none) ∧
      (absentPort s a.toNat = true) :=
  ⟨n0, 5, 0x0A0028, by decide +kernel⟩

theorem witness_WindowReadsReturnAndClear_7 :
    ∃ (s : State) (dt : Nat) (a : BitVec 24) (whole : Bool),
      (windowAnswers s = true) ∧
      (latchedBy a.toNat ≠ []) :=
  ⟨n0, 5, 0x060000, true, by decide +kernel⟩

theorem witness_WindowReadsReturnAndClear_8 :
    ∃ (s : State) (dt : Nat),
      (windowAnswers s = true) ∧
      (getIndexed 0x100001 s.tele.latches = none) ∧
      (s.rep.attnPending < 65536) :=
  ⟨n0, 5, by decide +kernel⟩

def n1 : State := {n0 with cfg.b10.tally := n0.cfg.b10.tally.set 4 {n0.cfg.b10.tally[4] with tallySrc := 3}, core.cellsUsed := 77}

theorem witness_TallySamplersAndReports_1 :
    ∃ (s : State) (dt : Nat) (n : Fin 24),
      ((s.cfg.b10.tally[n]).tallySrc ≠ 0) ∧
      ((s.cfg.b10.tally[n]).tallyMode = false) ∧
      (s.pwr.mode ≠ .retain) :=
  ⟨n1, 5, 4, by decide +kernel⟩

theorem witness_TallySamplersAndReports_2 :
    ∃ (s : State) (dt : Nat) (n : Fin 24),
      ((s.cfg.b10.tally[n]).tallySrc = 0 ∨ (s.cfg.b10.tally[n]).tallyMode = true ∨ s.pwr.mode = .retain) :=
  ⟨n1, 5, 3, by decide +kernel⟩

theorem witness_TallySamplersAndReports_3 :
    ∃ (s : State) (dt : Nat) (n : Fin 24) (v : Int),
      ((s.cfg.b10.tally[n]).tallySrc = 3 ∧ v = (s.core.cellsUsed : Nat) ∨ (s.cfg.b10.tally[n]).tallySrc = 4 ∧ v = waitNs (begin dt s) (workAll s)) :=
  ⟨n1, 5, 4, 77, by decide +kernel⟩

def iu (s : State) : State := countIdle (begin 5 s)

theorem witness_TallySamplersAndReports_4 :
    ∃ (s u : State) (dt : Nat) (n : Fin 16) (r : SampleRec) (l : List SampleRec),
      (u = countIdle (begin dt s)) ∧
      ((u.tele.sampler[n]).due = r :: l) ∧
      (u.tele.smpQueue.length < 64) :=
  ⟨{n1 with tele.sampler := n1.tele.sampler.set 3 {due := [{},{}]}}, _, 5, 3, {}, [{}], rfl, by decide +kernel⟩

theorem witness_TallySamplersAndReports_5 :
    ∃ (s u : State) (dt : Nat) (n : Fin 16) (r : SampleRec) (l : List SampleRec),
      (u = countIdle (begin dt s)) ∧
      ((u.tele.sampler[n]).due = r :: l) ∧
      (64 ≤ u.tele.smpQueue.length) :=
  ⟨{n1 with tele.sampler := n1.tele.sampler.set 3 {due := [{},{}]}, tele.smpQueue := List.replicate 64 {}}, _, 5, 3, {}, [{}], rfl, by decide +kernel⟩

theorem witness_TallySamplersAndReports_6 :
    ∃ (s u : State) (dt : Nat) (n : Fin 16),
      (u = countIdle (begin dt s)) ∧
      ((u.tele.sampler[n]).due = []) :=
  ⟨n1, _, 5, 3, rfl, by decide +kernel⟩

def n1s : State := {n1 with cfg.b10.sampler := n1.cfg.b10.sampler.set 3 {n1.cfg.b10.sampler[3] with smpSrc := 3}, core.ms := n1.core.ms.set 2 {st := .inService, since := 77}, tele.sampler := n1.tele.sampler.set 3 {due := [{},{}]}}

theorem witness_TallySamplersAndReports_7 :
    ∃ (s : State) (dt : Nat) (r : SampleRec) (q : List SampleRec),
      (s.tele.smpQueue = r :: q) :=
  ⟨{n1 with tele.smpQueue := [{},{}]}, 5, {}, [{}], by decide +kernel⟩

def n2 : State := {n0 with cfg.b10.telem.telemPeriod := 1000, cfg.b10.telem.telemCollector := List.replicate 16 1}

theorem witness_TallySamplersAndReports_8 :
    ∃ (s : State) (dt : Nat) (p : Fin 8),
      (telemActive s = true) ∧
      (p = Fin.ofNat 8 s.cfg.b10.telem.telemPort) :=
  ⟨n2, 5, 0, by decide +kernel⟩

def n3 : State := {n2 with ports := n2.ports.set 0 {link := true}, cfg.b0A.group := Vector.replicate _ {groupMode := 1}}

theorem witness_TallySamplersAndReports_9 :
    ∃ (s : State) (dt : Nat),
      (telemActive s = false) :=
  ⟨n0, 5, by decide +kernel⟩

end W20

namespace W21

def m0 : State := {w0 with tb.markerSec := 1000, tb.w := 12345, tb.lastTick := 64*1000 + 12345678901234/subPerTick}

theorem witness_TicksMoveTheTimeAndHoldTheRate_1 :
    ∃ (s : State) (n : Nat),
      (s.tb.running = true) ∧
      (s.pll.tbState ≠ .direct) ∧
      (s.tb.sec = s.tb.markerSec) ∧
      (s.tb.sub < subPerSec) ∧
      (s.tb.sec + 1 < 2 ^ 48) ∧
      (s.tb.w.natAbs < 2 ^ 40) :=
  ⟨m0, 5, by decide +kernel⟩

theorem witness_TicksMoveTheTimeAndHoldTheRate_2 :
    ∃ (s : State) (n : Nat),
      (s.tb.running = false) :=
  ⟨{m0 with tb.running := false}, 50000, by decide +kernel⟩

theorem witness_TicksMoveTheTimeAndHoldTheRate_3 :
    ∃ (s : State) (rates : List Nat) (i : Option Nat) (b : Bool),
      (s.tb.running = true) ∧
      (s.pll.tbState ≠ .direct) ∧
      (s.tb.sec * 64 + s.tb.sub / subPerTick = s.tb.lastTick) ∧
      (s.tb.sub < subPerSec) ∧
      (s.tb.sec + 1 < 2 ^ 48) ∧
      (s.tb.w.natAbs < 2 ^ 40) :=
  ⟨{m0 with pwr.resetHeld := .warm}, [], none, true, by decide +kernel⟩

theorem witness_TicksMoveTheTimeAndHoldTheRate_4 :
    ∃ (s : State) (rates : List Nat) (i : Option Nat) (b : Bool),
      (s.tb.running = false) :=
  ⟨{m0 with tb.running := false}, [], none, true, by decide +kernel⟩

def m1 : State := {m0 with pwr.mode := .acquire, core.ms := Vector.replicate 40 {st := .inService}}

theorem witness_TicksMoveTheTimeAndHoldTheRate_5 :
    ∃ (s : State) (rates : List Nat) (i : Option Nat) (b : Bool),
      (s.tb.running = true) ∧
      (s.pwr.resetHeld = .none) ∧
      (s.pwr.mode = .acquire) ∧
      (s.gov.sel = none) ∧
      ((∀ n : Fin 13, s.refs[n] = {})) ∧
      (s.tb.w.natAbs ≤ (offsetLimit s).natAbs) :=
  ⟨{m1 with tb.w := 3}, [5,6], none, true, by decide +kernel⟩

def rr (st : RefState) (x : Units) : RefSlot := { st := st, x := x, y := 5, signal := true, ql := 3, samples := [(5,6)] }
-- acquire with GNSS slot 4 eligible

def m3 : State := {m1 with gnss.timingState := 2, gnss.solved := true, gnss.towKnown := true, pll.adpll := Vector.replicate 4 {m1.pll.adpll[0] with st := .locked}, refs := m1.refs.set 4 (rr .eligible (-12345678)) , cfg.b07.gnss.gnssEnable := true, cfg.b07.gnss.gfeClocking := true, cfg.b05.qlMap.gnssMap := [3,3,3]}

def dump (s : State) := let u := slotsSettled s; let v := selectionMade s; (candidates u, chooseAmong u (candidates u), v.pwr.mode, v.gov.sel, v.gov.b, v.notes.length, reprStr (u.refs[4]).st, (u.refs[4]).ql)

theorem witness_GovernorSelectsAndSteers_1 :
    ∃ (s : State) (rates : List Nat) (i : Option Nat) (b : Bool),
      (s.tb.running = true) ∧
      (s.pwr.resetHeld = .none) :=
  ⟨m3, [], none, true, by decide +kernel⟩

theorem witness_GovernorSelectsAndSteers_2 :
    ∃ (s : State),
      (s.pwr.mode = .acquire) ∧
      (s.pwr.resetHeld = .none) :=
  ⟨m3, by decide +kernel⟩

def m4 : State := {m3 with pwr.mode := .locked, pll.oscinPresent := true, gov.fedQl := 4, gov.i := 7, gov.b := 500000, gov.e := 33, gov.lastFed := 44}

theorem witness_GovernorSelectsAndSteers_3 :
    ∃ (s : State),
      (s.pwr.mode = .locked) ∧
      (s.pwr.resetHeld = .none) :=
  ⟨m4, by decide +kernel⟩

def m5 : State := {m4 with gov.sel := some 4, ts.stepArmed := true, gov.lockAfter := some 5, refs := m4.refs.set 4 (rr .selected 555555555555)}

def m6 : State := {m4 with pwr.mode := .holdover, gov.sel := none, ho.st := 1, ts.stepArmed := true, ho.e := 10^9, refs := m4.refs.set 4 {rr .eligible 55 with released := true}}

theorem witness_GovernorSelectsAndSteers_4 :
    ∃ (s : State),
      (s.pwr.mode = .holdover) ∧
      (s.pwr.resetHeld = .none) :=
  ⟨m6, by decide +kernel⟩

theorem witness_GovernorSelectsAndSteers_5 :
    ∃ (s : State),
      ((s.pwr.mode = .load ∨ s.pwr.mode = .safe ∨ s.pwr.mode = .retain)) :=
  ⟨{m4 with pwr.mode := .load}, by decide +kernel⟩

def m7 : State := {m4 with gov.sel := some 4, refs := m4.refs.set 4 (rr .selected 77777)}

theorem witness_GovernorSelectsAndSteers_6 :
    ∃ (s : State) (rates : List Nat) (i : Option Nat) (b : Bool) (n : Fin 13),
      (s.tb.running = true) ∧
      (s.pwr.resetHeld = .none) :=
  ⟨m7, [], none, true, 4, by decide +kernel⟩

theorem witness_GovernorSelectsAndSteers_7 :
    ∃ (s : State) (rates : List Nat) (i : Option Nat) (b : Bool),
      (s.tb.running = true) ∧
      (s.pwr.resetHeld = .none) ∧
      ((selectionMade s).gov.sel = none) ∧
      ((selectionMade s).pwr.mode = .holdover) :=
  ⟨{m6 with refs := m1.refs}, [], none, true, by decide +kernel⟩

def m2 : State := {m0 with pwr.mode := .load, ld.stage := 4, ld.sectionsPending := 2^5, ld.pend := {w0.cfg with b05.fantail.phaseJumpNs := 7}, ld.second := true}

theorem witness_ApplyTickActivatesTheImageAndEndsLoad_1 :
    ∃ (s : State) (r : AvsTakeover),
      (s.pwr.mode = .load) ∧
      (s.pwr.resetHeld = .none) ∧
      (s.ld.stage = 4) ∧
      (s.tb.running = true) :=
  ⟨m2, {}, by decide +kernel⟩

theorem witness_ApplyTickActivatesTheImageAndEndsLoad_2 :
    ∃ (s : State) (r : AvsTakeover),
      (s.pwr.mode ≠ .load ∨ s.ld.stage ≠ 4) :=
  ⟨m0, {}, by decide +kernel⟩

end W21

namespace W22

def pr : PortRec := {portEn := true, portMac := 0x020000000001, pauseObey := true, pfcObey := true}

def wp (q : Port) (r : PortRec := pr) : State := {w0 with
  cfg.b0A.group := Vector.replicate 2 {groupMode := 1}, cfg.b0A.port := w0.cfg.b0A.port.set 3 r, ports := w0.ports.set 3 q
  cfg.b0A.addr := [(0, {addrIp := [1,2,3,4] ++ zeroBytes 12}), (1, {addrV6 := true, addrIp := [1,2,3,4] ++ zeroBytes 12, addrAnycast := true})] }

def wl (q : Port) (r : PortRec := pr) : State := {wp q r with pwr.lanesCal := 4095}

theorem witness_LinksEqualisersAndFec_1 :
    ∃ (s : State) (dt : Nat) (l : LineState),
      (phyRuns s l.port = true) ∧
      ((s.ports[l.port]).link = false) ∧
      (linkGood (takePhy l (begin dt s)) l.port = true) ∧
      ((portCfg s l.port).garpEn = false) :=
  ⟨(wl {} {pr with garpEn := false}), 5, {port := 3, corrected := 2, skewPs := [1,2]}, by decide +kernel⟩

theorem witness_LinksEqualisersAndFec_2 :
    ∃ (s : State) (dt : Nat) (l : LineState) (a : ServingAddrRec),
      (phyRuns s l.port = true) ∧
      ((s.ports[l.port]).link = false) ∧
      (linkGood (takePhy l (begin dt s)) l.port = true) ∧
      ((portCfg s l.port).garpEn = true) ∧
      (serving s = true) ∧
      (boundAddrs s l.port = [a]) ∧
      (a.addrAnycast = false) ∧
      ((s.ports[l.port]).book = []) ∧
      ((∀ k : Fin 8, pauseEnd (begin dt s) l.port k = none)) :=
  ⟨({wl {} pr with cfg.b0A.addr := [(0, {addrIp := [1,2,3,4] ++ zeroBytes 12})]}), 5, {port := 3, corrected := 2}, {addrIp := [1,2,3,4] ++ zeroBytes 12}, by decide +kernel⟩

theorem witness_LinksEqualisersAndFec_3 :
    ∃ (s : State) (dt : Nat) (l : LineState),
      (phyRuns s l.port = true) ∧
      ((s.ports[l.port]).link = false) ∧
      (linkGood (takePhy l (begin dt s)) l.port = false) :=
  ⟨(wl {}), 5, {port := 3, corrected := 2, localFault := true}, by decide +kernel⟩

def jb : Job := {id := 9, port := 3, recommit := true, out := some {}}

def b1 : Booking := {jobId := 9, job := some jb, ttx := 5}

theorem witness_LinksEqualisersAndFec_4 :
    ∃ (s : State) (dt : Nat) (l : LineState),
      (phyRuns s l.port = true) ∧
      ((s.ports[l.port]).link = true) ∧
      (linkGood (takePhy l (begin dt s)) l.port = false) :=
  ⟨(wl {link := true, pause := some 5, crossing := some (10^40), book := [b1, {void := true}], waiting := [{prio := 1, counter := none, what := .leatSwap 1}]}), 5, {port := 3, signal := false}, by decide +kernel⟩

theorem witness_LinksEqualisersAndFec_5 :
    ∃ (s : State) (dt : Nat) (l : LineState),
      (phyRuns s l.port = true) ∧
      ((s.ports[l.port]).link = true) ∧
      (linkGood (takePhy l (begin dt s)) l.port = false) ∧
      ((s.ports[l.port]).book = []) ∧
      ((s.ports[l.port]).crossing = none) ∧
      (s.core.park = []) ∧
      (s.core.precQ = []) ∧
      (s.core.assuredQ = []) ∧
      (s.core.generalQ = []) :=
  ⟨(wl {link := true, pause := some 5}), 5, {port := 3, localFault := true, corrected := 5}, by decide +kernel⟩

theorem witness_LinksEqualisersAndFec_6 :
    ∃ (s : State) (dt : Nat) (l : LineState),
      (phyRuns s l.port = false) :=
  ⟨(wl {link := false, pause := some 5} {}), 5, {port := 3}, by decide +kernel⟩

theorem witness_PausesHoldAPort_2 :
    ∃ (s : State) (dt : Nat) (p : Fin 8) (q : Nat),
      (serving s = true) ∧
      ((s.ports[p]).link = true) ∧
      ((portCfg s p).pauseObey = true) ∧
      ((s.ports[p]).book = []) ∧
      ((s.ports[p]).waiting = []) ∧
      (s.core.park = []) ∧
      (q < 65536) :=
  ⟨(wp {link := true}), 5, 3, 100, by decide +kernel⟩

theorem witness_PausesHoldAPort_1 :
    ∃ (s : State) (dt : Nat) (p : Fin 8) (q : Nat),
      (serving s = true) ∧
      ((s.ports[p]).link = true) ∧
      ((portCfg s p).pauseObey = true) ∧
      (q < 65536) :=
  ⟨(wp {link := true}), 5, 3, 7, by decide +kernel⟩

theorem witness_PausesHoldAPort_3 :
    ∃ (s : State) (dt : Nat) (p : Fin 8) (q : Nat) (w : Bool),
      (serving s = true) ∧
      ((s.ports[p]).link = true) ∧
      ((portCfg s p).pauseObey = false ∨ w = false) :=
  ⟨(wp {link := true, pause := some (10^50)}), 5, 3, 0, false, by decide +kernel⟩

theorem witness_PausesHoldAPort_4 :
    ∃ (s : State) (dt : Nat) (p : Fin 8) (times : PfcTimes),
      (serving s = true) ∧
      ((s.ports[p]).link = true) ∧
      ((portCfg s p).pfcObey = true) :=
  ⟨(wp {link := true, pfc := Vector.replicate 8 (some (10^50))}), 5, 3, {enable := 6, quanta := [1,0,5]}, by decide +kernel⟩

theorem witness_PausesHoldAPort_5 :
    ∃ (s : State) (dt : Nat) (p : Fin 8) (times : PfcTimes) (w : Bool),
      (serving s = true) ∧
      ((s.ports[p]).link = true) ∧
      ((portCfg s p).pfcObey = false ∨ w = false) :=
  ⟨(wp {link := true} {}), 5, 3, {enable := 6, quanta := [1,0,5]}, true, by decide +kernel⟩

theorem witness_PausesHoldAPort_6 :
    ∃ (s : State) (dt : Nat) (p : Fin 8) (k : Option (Fin 8)),
      ((s.ports[p]).waiting = []) ∧
      (s.core.park = []) :=
  ⟨(wp {link := true, pause := some 5, pfc := Vector.replicate 8 (some 5)} {}), 5, 3, none, by decide +kernel⟩

def fa : Frame := {etherType := 0x0806, dst := 0xFFFFFFFFFFFF, src := 77, target := addrNat false ([1,2,3,4] ++ zeroBytes 12), ip := some {src := 5}}

def sp := wp {link := true, resp := {level := 10^20}, echo := {level := 10^20}}

def mm := (takeToken (begin 5 sp) (portCfg sp 3).respRate (sp.ports[3]).resp).getD {}

theorem witness_TheResponderAnswers_1 :
    ∃ (s : State) (dt : Nat) (p : Fin 8) (f : Frame) (m : Meter),
      (serving s = true) ∧
      ((s.ports[p]).link = true) ∧
      (f.fcsOk = true) ∧
      (refuseCause s p f = none) ∧
      (f.etherType = 0x0806) ∧
      (f.arpOp = 1) ∧
      ((portCfg s p).arpNdEn = true) ∧
      (isServing s p f false f.target = true) ∧
      (takeToken (begin dt s) (portCfg s p).respRate (s.ports[p]).resp = some m) ∧
      (pauseEnd (begin dt s) p (framePrio s p (arpReply s p f)) = none) ∧
      (fitsBeside (begin dt s) p f.len = true) :=
  ⟨sp, 5, 3, fa, mm, by decide +kernel⟩

def spb : State := {sp with ports := sp.ports.set 3 {sp.ports[3] with book := [{start := 10, ttx := 20, stop := 30}]}}

theorem witness_TheResponderAnswers_2 :
    ∃ (s : State) (dt : Nat) (p : Fin 8) (f : Frame) (m : Meter),
      (serving s = true) ∧
      ((s.ports[p]).link = true) ∧
      (f.fcsOk = true) ∧
      (refuseCause s p f = none) ∧
      (f.etherType = 0x0806) ∧
      (f.arpOp = 1) ∧
      ((portCfg s p).arpNdEn = true) ∧
      (isServing s p f false f.target = true) ∧
      (takeToken (begin dt s) (portCfg s p).respRate (s.ports[p]).resp = some m) ∧
      (pauseEnd (begin dt s) p (framePrio s p (arpReply s p f)) ≠ none ∨ fitsBeside (begin dt s) p f.len = false) :=
  ⟨spb, 5, 3, fa, mm, by decide +kernel, by decide +kernel, by decide +kernel, by decide +kernel, by decide +kernel, by decide +kernel, by decide +kernel, by decide +kernel, by decide +kernel, (Or.inr (by decide +kernel))⟩

def sq := {wp {link := true} with cfg.b0A.port := sp.cfg.b0A.port.set 3 {pr with respRate := 0, echoRate := 0}}

theorem witness_TheResponderAnswers_3 :
    ∃ (s : State) (dt : Nat) (p : Fin 8) (f : Frame),
      (serving s = true) ∧
      ((s.ports[p]).link = true) ∧
      (f.fcsOk = true) ∧
      (refuseCause s p f = none) ∧
      (f.etherType = 0x0806) ∧
      (f.arpOp = 1) ∧
      ((portCfg s p).arpNdEn = true) ∧
      (isServing s p f false f.target = true) ∧
      (takeToken (begin dt s) (portCfg s p).respRate (s.ports[p]).resp = none) :=
  ⟨sq, 5, 3, fa, by decide +kernel⟩

def fn : Frame := {etherType := 0x86DD, dst := pr.portMac, src := 77, target := addrNat true ([1,2,3,4] ++ zeroBytes 12), ip := some {src := 5, v6 := true, proto := 58, dst := addrNat true ([1,2,3,4] ++ zeroBytes 12)}, icmpType := some 135}

def aa : ServingAddrRec := {addrV6 := true, addrIp := [1,2,3,4] ++ zeroBytes 12, addrAnycast := true}

theorem witness_TheResponderAnswers_4 :
    ∃ (s : State) (dt : Nat) (p : Fin 8) (f : Frame) (a : ServingAddrRec) (m : Meter),
      (serving s = true) ∧
      ((s.ports[p]).link = true) ∧
      (f.fcsOk = true) ∧
      (refuseCause s p f = none) ∧
      (f.etherType = 0x86DD) ∧
      (f.icmpType = some 135) ∧
      ((portCfg s p).arpNdEn = true) ∧
      (servingRec s p f f.target = some a) ∧
      (takeToken (begin dt s) (portCfg s p).respRate (s.ports[p]).resp = some m) ∧
      (pauseEnd (begin dt s) p (framePrio s p (solicitedNa s p f a)) = none) ∧
      (fitsBeside (begin dt s) p (solicitedNa s p f a).len = true) :=
  ⟨sp, 5, 3, fn, aa, mm, by decide +kernel⟩

theorem witness_TheResponderAnswers_5 :
    ∃ (s : State) (dt : Nat) (p : Fin 8) (f : Frame) (a : ServingAddrRec),
      (serving s = true) ∧
      ((s.ports[p]).link = true) ∧
      (f.fcsOk = true) ∧
      (refuseCause s p f = none) ∧
      (f.etherType = 0x86DD) ∧
      (f.icmpType = some 135) ∧
      ((portCfg s p).arpNdEn = true) ∧
      (servingRec s p f f.target = some a) ∧
      (takeToken (begin dt s) (portCfg s p).respRate (s.ports[p]).resp = none) :=
  ⟨sq, 5, 3, fn, aa, by decide +kernel⟩

def fe : Frame := {etherType := 0x0800, dst := pr.portMac, src := 77, ip := some {src := 5, v6 := false, proto := 1, dst := addrNat false ([1,2,3,4] ++ zeroBytes 12)}, icmpType := some 8, payload := [1,2]}

def fe6 : Frame := {fn with icmpType := some 128, payload := [1,2]}

def me := (takeToken (begin 5 sp) (portCfg sp 3).echoRate (sp.ports[3]).echo).getD {}

theorem witness_TheResponderAnswers_6 :
    ∃ (s : State) (dt : Nat) (p : Fin 8) (f : Frame) (h : IpHdr) (m : Meter),
      (serving s = true) ∧
      ((s.ports[p]).link = true) ∧
      (f.fcsOk = true) ∧
      (refuseCause s p f = none) ∧
      (f.ip = some h) ∧
      (h.proto = (if h.v6 then 58 else 1)) ∧
      (f.icmpType = some (if h.v6 then 128 else 8)) ∧
      (isServing s p f h.v6 h.dst = true) ∧
      (takeToken (begin dt s) (portCfg s p).echoRate (s.ports[p]).echo = some m) ∧
      (pauseEnd (begin dt s) p (framePrio s p (echoReply s p f)) = none) ∧
      (fitsBeside (begin dt s) p f.len = true) :=
  ⟨sp, 5, 3, fe, (fe.ip.getD {}), me, by decide +kernel⟩

theorem witness_TheResponderAnswers_7 :
    ∃ (s : State) (dt : Nat) (p : Fin 8) (f : Frame) (h : IpHdr),
      (serving s = true) ∧
      ((s.ports[p]).link = true) ∧
      (f.fcsOk = true) ∧
      (refuseCause s p f = none) ∧
      (f.ip = some h) ∧
      (h.proto = (if h.v6 then 58 else 1)) ∧
      (f.icmpType = some (if h.v6 then 128 else 8)) ∧
      (isServing s p f h.v6 h.dst = true) ∧
      (takeToken (begin dt s) (portCfg s p).echoRate (s.ports[p]).echo = none) :=
  ⟨sq, 5, 3, fe, (fe.ip.getD {}), by decide +kernel⟩

theorem witness_EsmcIsReceivedAndSent_5 :
    ∃ (s : State) (dt : Nat) (p : Fin 8),
      (esmcSends s p = true) ∧
      (pauseEnd (begin dt s) p (Fin.ofNat 8 (portCfg s p).untaggedPrio) = none) ∧
      (fitsBeside (begin dt s) p 64 = true) :=
  ⟨sp, 5, 3, by decide +kernel⟩

theorem witness_EsmcIsReceivedAndSent_6 :
    ∃ (s : State) (dt : Nat) (p : Fin 8),
      (esmcSends s p = true) ∧
      (pauseEnd (begin dt s) p (Fin.ofNat 8 (portCfg s p).untaggedPrio) ≠ none ∨ fitsBeside (begin dt s) p 64 = false) :=
  ⟨spb, 5, 3, by decide +kernel, (Or.inr (by decide +kernel))⟩

theorem witness_EsmcIsReceivedAndSent_7 :
    ∃ (s : State) (dt : Nat) (p : Fin 8),
      (esmcSends s p = false) :=
  ⟨{sp with pwr.mode := .load}, 5, 3, by decide +kernel⟩

def se : State := {sp with cfg.b11.autoRetire := true, dress.worn := sp.dress.worn.set 6 2, ports := sp.ports.set 1 {link := true}}

theorem witness_LinksEqualisersAndFec_7 :
    ∃ (s : State) (dt : Nat) (g : Fin 2) (lane : Fin 4) (k : Fin 5),
      (eqSpare s g = some k) ∧
      (eqRetires s g (s.dress.eqMap[g])[lane] = true) ∧
      ((s.ports[lanePort s (Fin.ofNat 8 (4 * g.val + lane.val))]).link = true) ∧
      (anyPause (begin dt s) (lanePort s (Fin.ofNat 8 (4 * g.val + lane.val))) = false) :=
  ⟨se, 5, 0, 1, 4, by decide +kernel⟩

theorem witness_LinksEqualisersAndFec_8 :
    ∃ (s : State) (dt : Nat) (g : Fin 2) (lane : Fin 4) (k : Fin 5),
      (eqSpare s g = some k) ∧
      (eqRetires s g (s.dress.eqMap[g])[lane] = true) ∧
      ((s.ports[lanePort s (Fin.ofNat 8 (4 * g.val + lane.val))]).link = true) ∧
      (anyPause (begin dt s) (lanePort s (Fin.ofNat 8 (4 * g.val + lane.val))) = false) :=
  ⟨se, 5, 0, 1, 4, by decide +kernel⟩

theorem witness_LinksEqualisersAndFec_9 :
    ∃ (s : State) (dt : Nat) (g : Fin 2) (lane : Fin 4) (ok : Bool),
      (eqSpare s g = none ∨ eqRetires s g (s.dress.eqMap[g])[lane] = false ∨ (s.ports[lanePort s (Fin.ofNat 8 (4 * g.val + lane.val))]).link = false ∨ anyPause (begin dt s) (lanePort s (Fin.ofNat 8 (4 * g.val + lane.val))) = true) :=
  ⟨{se with ports := sp.ports}, 5, 0, 1, true, (Or.inr (Or.inr (Or.inl (by decide +kernel))))⟩

theorem witness_LinksEqualisersAndFec_10 :
    ∃ (s : State) (dt : Nat) (r : FecReport),
      (portPresent s r.port = true) ∧
      ((portCfg s r.port).portEn = true) :=
  ⟨sp, 5, {port := 3, corrected := 4}, by decide +kernel⟩

theorem witness_LinksEqualisersAndFec_11 :
    ∃ (s : State) (dt : Nat) (r : FecReport),
      (portPresent s r.port = false ∨ (portCfg s r.port).portEn = false) :=
  ⟨sp, 5, {port := 2, corrected := 4}, (Or.inr (by decide +kernel))⟩

end W22

namespace W23

def pr : PortRec := {portEn := true, portMac := 0x020000000001}

def ip4 : Nat := addrNat false ([1,2,3,4] ++ zeroBytes 12)

def wp (q : Port := {link := true}) (r : PortRec := pr) : State := {w0 with
  cfg.b0A.group := Vector.replicate 2 {groupMode := 1}, cfg.b0A.port := w0.cfg.b0A.port.set 3 r, ports := w0.ports.set 3 q
  cfg.b0A.addr := [(0, {addrIp := [1,2,3,4] ++ zeroBytes 12})], cfg.b0C.ntp.ntpEn := true, cfg.b0C.ntp.acqAnswer := true,
  cfg.b0E.weir.defClassPtp := 0 }

def fu (p : Nat) : Frame := {dst := pr.portMac, src := 77, ip := some {src := 5, proto := 17, dst := ip4}, udp := some {dstPort := p}, payload := [0x23#8] ++ zeroBytes 47}

theorem witness_FramesAreCheckedAndRequestsQueued_1 :
    ∃ (s : State) (dt : Nat) (p : Fin 8) (f : Frame),
      (serving s = true) ∧
      ((s.ports[p]).link = true) ∧
      (f.fcsOk = false) ∧
      (tooLong s p f = false) :=
  ⟨(wp), 5, 3, {fu 123 with fcsOk := false}, by decide +kernel⟩

theorem witness_FramesAreCheckedAndRequestsQueued_2 :
    ∃ (s : State) (dt : Nat) (p : Fin 8) (f : Frame) (c : Nat),
      (serving s = true) ∧
      ((s.ports[p]).link = true) ∧
      (f.fcsOk = true ∨ tooLong s p f = true) ∧
      (refuseCause s p f = some c) :=
  ⟨(wp), 5, 3, {fu 123 with len := 60}, 9, by decide +kernel, by decide +kernel, (Or.inl (by decide +kernel)), by decide +kernel⟩

theorem witness_FramesAreCheckedAndRequestsQueued_3 :
    ∃ (s : State) (dt : Nat) (p : Fin 8) (f : Frame),
      (s.pwr.mode = .load ∨ s.pwr.mode = .safe) ∧
      ((s.ports[p]).link = true) :=
  ⟨({wp with pwr.mode := .load}), 5, 3, (fu 123), by decide +kernel⟩

theorem witness_FramesAreCheckedAndRequestsQueued_4 :
    ∃ (s : State) (dt : Nat) (p : Fin 8) (r : RxPoint) (f : Frame) (a : Nat),
      (serving s = true) ∧
      ((s.ports[p]).link = true) ∧
      (f.fcsOk = true) ∧
      (refuseCause s p f = none) ∧
      (f.ip.isSome = true) ∧
      ((f.udp.map (·.dstPort)) = some 123) ∧
      (sluiceRefuses s f.payload = some a) :=
  ⟨(wp), 5, 3, {steps := 7}, {fu 123 with payload := [0]}, 0x0C0017, by decide +kernel⟩

def wd : State := {wp with cfg.b0C.ntp.defaultAction := 2}

theorem witness_FramesAreCheckedAndRequestsQueued_5 :
    ∃ (s : State) (dt : Nat) (p : Fin 8) (r : RxPoint) (f : Frame),
      (serving s = true) ∧
      ((s.ports[p]).link = true) ∧
      (f.fcsOk = true) ∧
      (refuseCause s p f = none) ∧
      (f.ip.isSome = true) ∧
      ((f.udp.map (·.dstPort)) = some 123) ∧
      (sluiceRefuses s f.payload = none) ∧
      (accessDecision s p f (ntpKind f == .nts) = (false, false)) :=
  ⟨wd, 5, 3, {steps := 7, codeword := 3}, (fu 123), by decide +kernel⟩

theorem witness_FramesAreCheckedAndRequestsQueued_6 :
    ∃ (s : State) (dt : Nat) (p : Fin 8) (r : RxPoint) (f : Frame) (c : Cls) (b need : Nat),
      (serving s = true) ∧
      ((s.ports[p]).link = true) ∧
      (f.fcsOk = true) ∧
      (refuseCause s p f = none) ∧
      (f.ip.isSome = true) ∧
      ((f.udp.map (·.dstPort)) = some 123) ∧
      (sluiceRefuses s f.payload = none) ∧
      ((accessDecision s p f (ntpKind f == .nts)).1 = true) ∧
      (classify s p (ntpKind f) f = (c, b)) ∧
      (c ≠ .prec) ∧
      (s.cfg.b0E.weir.spillEn = false) ∧
      (classMeter s c = none) ∧
      (need = ((portCfg s p).maxFrame + 255) / 256) ∧
      (need + s.cfg.b0A.hopper.precReserve ≤ hopperFree s) :=
  ⟨(wp), 5, 3, {steps := 7, codeword := 3}, (fu 123), .general, 0, 6, by decide +kernel⟩

def wq : State := {wp with cfg.b0E.weir.defClassNtp := 1}

def wr : State := {wp with weir.shedGeneral := true, cfg.b0E.weir.wmLowNs := 0, cfg.b0E.weir.kodBudget := 0, weir.capacity := 500}

theorem witness_FramesAreCheckedAndRequestsQueued_7 :
    ∃ (s : State) (dt : Nat) (p : Fin 8) (r : RxPoint) (f : Frame) (b : Nat),
      (serving s = true) ∧
      ((s.ports[p]).link = true) ∧
      (f.fcsOk = true) ∧
      (refuseCause s p f = none) ∧
      (f.ip.isSome = true) ∧
      ((f.udp.map (·.dstPort)) = some 123) ∧
      (sluiceRefuses s f.payload = none) ∧
      ((accessDecision s p f (ntpKind f == .nts)).1 = true) ∧
      (classify s p (ntpKind f) f = (.general, b)) ∧
      (s.cfg.b0E.weir.spillEn = false) ∧
      (s.weir.shedGeneral = true) ∧
      (s.cfg.b0E.weir.wmLowNs = 0) ∧
      (s.cfg.b0E.weir.kodBudget = 0) :=
  ⟨(wr), 5, 3, {}, (fu 123), 0, by decide +kernel⟩

def wk : State := {wp with cfg.b0C.key := [(7, {keyActivate := 5, keyRetire := 10000}), (9, {keyActivate := 5, keyRetire := 900})]}

theorem witness_HoldoverKeysAndLeapFollowTheTime_3 :
    ∃ (s : State) (dt : Nat),
      (s.pwr.mode ≠ .load) ∧
      (s.ntp.advLi ≠ liNow (begin dt s)) :=
  ⟨{wk with ntp.advLi := 2}, 5, by decide +kernel⟩

theorem witness_HoldoverKeysAndLeapFollowTheTime_4 :
    ∃ (s : State) (dt : Nat) (n : Fin 64) (k : NtsKeyRec),
      (s.pwr.mode ≠ .load) ∧
      (keyRec s n = some k) ∧
      (k.keyActivate ≤ (begin dt s).tb.sec) ∧
      ((begin dt s).tb.sec < k.keyRetire) ∧
      (s.ntp.key[n] ≠ .active) :=
  ⟨wk, 5, 7, {keyActivate := 5, keyRetire := 10000}, by decide +kernel⟩

theorem witness_HoldoverKeysAndLeapFollowTheTime_5 :
    ∃ (s : State) (dt : Nat) (n : Fin 64) (k : NtsKeyRec),
      (s.pwr.mode ≠ .load) ∧
      (keyRec s n = some k) ∧
      (k.keyActivate ≤ (begin dt s).tb.sec) ∧
      (k.keyRetire ≤ (begin dt s).tb.sec) ∧
      (s.ntp.key[n] ≠ .retired) ∧
      ((∀ m : Fin 64, n ≠ m → s.ntp.key[m] ≠ .active)) ∧
      (s.ntp.mintNone = false) :=
  ⟨{wk with ntp.mintNone := false, ntp.mintSlot := 3}, 5, 9, {keyActivate := 5, keyRetire := 900}, by decide +kernel⟩

def wm (pf : Nat) : State := {wp with cfg.b0D.port := (wp.cfg.b0D.port.set 3 {masterEn := true, profile := pf, mcastPrec := false})}

def fp (m : PtpMsg) : Frame := {fu 319 with ptp := some m}

theorem witness_PtpRequestsAreQueuedOrDropped_1 :
    ∃ (s : State) (dt : Nat) (p : Fin 8) (r : RxPoint) (f : Frame) (c : Cls) (b : Nat),
      (serving s = true) ∧
      (ptpSilent s = false) ∧
      ((s.ports[p]).link = true) ∧
      (f.fcsOk = true) ∧
      (refuseCause s p f = none) ∧
      (isPtpFrame f = true) ∧
      (ptpOutcome s p f = .delayReq) ∧
      (classify s p .delayReq f = (c, b)) ∧
      (c ≠ .prec) ∧
      (s.cfg.b0E.weir.spillEn = false) ∧
      (classMeter s c = none) ∧
      (((portCfg s p).maxFrame + 255) / 256 + s.cfg.b0A.hopper.precReserve ≤ hopperFree s) :=
  ⟨(wm 2), 5, 3, {steps := 7}, (fp {messageType := 1, domain := (wm 2).cfg.b0D.port[3].domain}), .general, 0, by decide +kernel⟩

def fs : Frame := fp {messageType := 12, domain := (wm 2).cfg.b0D.port[3].domain, tlvs := [{tlvType := 4}]}

theorem witness_PtpRequestsAreQueuedOrDropped_2 :
    ∃ (s : State) (dt : Nat) (p : Fin 8) (r : RxPoint) (f : Frame) (c : Cls) (b i : Nat),
      (serving s = true) ∧
      (ptpSilent s = false) ∧
      ((s.ports[p]).link = true) ∧
      (f.fcsOk = true) ∧
      (refuseCause s p f = none) ∧
      (isPtpFrame f = true) ∧
      (ptpOutcome s p f = .signaling) ∧
      (classify s p .signaling f = (c, b)) ∧
      (c ≠ .prec) ∧
      (s.cfg.b0E.weir.spillEn = false) ∧
      (classMeter s c = none) ∧
      (((portCfg s p).maxFrame + 255) / 256 + s.cfg.b0A.hopper.precReserve ≤ hopperFree s) ∧
      ((takeMac p f.src s).1 = some i) :=
  ⟨(wm 2), 5, 3, {steps := 7}, fs, .general, 0, 0, by decide +kernel⟩

theorem witness_PtpRequestsAreQueuedOrDropped_3 :
    ∃ (s : State) (dt : Nat) (p : Fin 8) (r : RxPoint) (f : Frame) (c : Cls) (b : Nat),
      (serving s = true) ∧
      (ptpSilent s = false) ∧
      ((s.ports[p]).link = true) ∧
      (f.fcsOk = true) ∧
      (refuseCause s p f = none) ∧
      (isPtpFrame f = true) ∧
      (ptpOutcome s p f = .signaling) ∧
      (classify s p .signaling f = (c, b)) ∧
      (c ≠ .prec) ∧
      (s.cfg.b0E.weir.spillEn = false) ∧
      (classMeter s c = none) ∧
      (((portCfg s p).maxFrame + 255) / 256 + s.cfg.b0A.hopper.precReserve ≤ hopperFree s) ∧
      ((takeMac p f.src s).1 = none) :=
  ⟨({wm 2 with garner.nhMac := (List.range 4096).map fun i => (i,4,4,4)}), 5, 3, {steps := 7}, fs, .general, 0, by decide +kernel⟩

theorem witness_PtpRequestsAreQueuedOrDropped_4 :
    ∃ (s : State) (dt : Nat) (p : Fin 8) (f : Frame) (a : Nat),
      (serving s = true) ∧
      ((s.ports[p]).link = true) ∧
      (f.fcsOk = true) ∧
      (refuseCause s p f = none) ∧
      (isPtpFrame f = true) ∧
      (ptpOutcome s p f = .drop a) :=
  ⟨(wm 2), 5, 3, (fp {messageType := 12, domain := (wm 2).cfg.b0D.port[3].domain}), 0x0D0009, by decide +kernel⟩

theorem witness_PtpRequestsAreQueuedOrDropped_5 :
    ∃ (s : State) (dt : Nat) (p : Fin 8) (r : RxPoint) (f : Frame),
      (s.pwr.mode = .acquire) ∧
      (s.cfg.b0D.ptp.acqMode = false) ∧
      ((s.ports[p]).link = true) ∧
      (f.fcsOk = true) ∧
      (refuseCause s p f = none) ∧
      (isPtpFrame f = true) ∧
      (ptpOutcome s p f = .delayReq ∨ ptpOutcome s p f = .signaling) :=
  ⟨({wm 2 with pwr.mode := .acquire, cfg.b0D.ptp.acqMode := false}), 5, 3, {steps := 7}, (fp {messageType := 1, domain := (wm 2).cfg.b0D.port[3].domain}), by decide +kernel, by decide +kernel, by decide +kernel, by decide +kernel, by decide +kernel, by decide +kernel, (Or.inl (by decide +kernel))⟩

theorem witness_SchedulesSweepsAndExpiry_1 :
    ∃ (s : State) (dt : Nat) (src : SchedSource) (ann : Bool) (p : Fin 8) (c : Cls) (l : Int) (i phase : Units),
      (serving s = true) ∧
      (ptpSilent s = false) ∧
      (streamOf s src ann = some (p, c, l)) ∧
      (i = interval l) ∧
      (phase = (match src with | .grant g => grantPhase g.toNat i | .port n => portPhase n i)) ∧
      ((match src with | .grant g => awaitsGrantAnswer s g.toNat ann | .port _ => false) = false) ∧
      (portPresent s p = true) ∧
      ((s.ports[p]).link = true) :=
  ⟨(wm 1), 5, (.port 3), true, 3, .general, (-3), _, _, by decide +kernel, by decide +kernel, by decide +kernel, rfl, rfl, by decide +kernel⟩

def wc : State := {wm 2 with garner.calendar := [(6, {prec := true, port := 3, syncCode := 4})]}

theorem witness_SchedulesSweepsAndExpiry_2 :
    ∃ (s : State) (n : Fin 8) (ann : Bool),
      ((ptpPort s n).masterEn = true) ∧
      ((ptpPort s n).profile ≠ 2) :=
  ⟨(wm 1), 3, true, by decide +kernel⟩

theorem witness_SchedulesSweepsAndExpiry_3 :
    ∃ (s : State) (dt : Nat) (src : SchedSource) (ann : Bool) (p : Fin 8) (c : Cls) (l : Int),
      (serving s = true) ∧
      (ptpSilent s = false) ∧
      (streamOf s src ann = some (p, c, l)) ∧
      ((match src with | .grant g => awaitsGrantAnswer s g.toNat ann | .port _ => false) = false) ∧
      (portPresent s p = false ∨ (s.ports[p]).link = false) :=
  ⟨{wm 1 with ports := w0.ports}, 5, (.port 3), false, 3, .general, (-4), by decide +kernel, by decide +kernel, by decide +kernel, by decide +kernel, (Or.inr (by decide +kernel))⟩

theorem witness_SchedulesSweepsAndExpiry_4 :
    ∃ (s : State) (dt : Nat) (g : BitVec 20) (ann : Bool),
      (awaitsGrantAnswer s g.toNat ann = true) :=
  ⟨{wc with core.park := [{kind := .signaling, grant := 6, k := 3}]}, 5, 6, false, by decide +kernel⟩

theorem witness_SchedulesSweepsAndExpiry_5 :
    ∃ (s : State) (dt : Nat) (b : Fin 16384),
      (serving s = true) :=
  ⟨(wm 1), 5, 3, by decide +kernel⟩

theorem witness_SchedulesSweepsAndExpiry_6 :
    ∃ (s : State) (dt : Nat) (src : SchedSource) (ann : Bool) (b : Fin 16384),
      (serving s = false) :=
  ⟨{wm 1 with pwr.mode := .safe}, 5, (.port 3), true, 3, by decide +kernel⟩

end W23

namespace W24

def wc (pf : Nat) (c : Client := {}) : State := {w0 with ports := w0.ports.set 3 {link := true}, cli := w0.cli.set 1 c, cfg.b0D.client := w0.cfg.b0D.client.set 1 {cEn := true, cPort := 3, cProfile := pf, cMasterCnt := 1}, refs := w0.refs.set 6 {st := .selected}}

def dm (s : State) : Nat := (cliCfg s 1).cDomain

def ma := (masters (cliCfg (wc 2) 1)).headD 0

def jr (k : Nat) (g : Nat) (m : PtpMsg) (t2 : Units := 5) : Job := {id := 3, kind := .clientRx, cls := .prec, port := 3, client := 1, k := k, grant := g, cells := 2, t2 := t2, req := {ptp := some m}, stepEpoch := w0.tb.stepCount}

def fr (s : State) (j : Job) : State := {s with core.cellsUsed := 7, core.ms := s.core.ms.set 9 {st := .inService, front := some (j, .cells 0), since := 5}}

def w1 := {wc 1 {best := some 9} with pending := []}

theorem witness_ClientsMeasureTheirMaster_1 :
    ∃ (s : State) (dt : Nat) (i : Fin 2) (src : Nat) (r : RxPoint) (m : PtpMsg),
      (serving s = true) ∧
      ((cliCfg s i).cEn = true) ∧
      ((s.ports[cliPort s i]).link = true) ∧
      (m.domain = (cliCfg s i).cDomain) :=
  ⟨(wc 1 {best := some 9}), 5, 1, 9, {steps := 3}, {domain := dm (wc 1), tsSec := 1000}, by decide +kernel⟩

theorem witness_ClientsMeasureTheirMaster_2 :
    ∃ (s : State) (dt : Nat) (i : Fin 2) (src : Nat) (r : RxPoint) (m : PtpMsg),
      (s.pwr.mode = .load ∨ s.pwr.mode = .safe) ∧
      ((cliCfg s i).cEn = true) ∧
      ((s.ports[cliPort s i]).link = true) :=
  ⟨{wc 1 {best := some 9} with pwr.mode := .load}, 5, 1, 9, {steps := 3}, {domain := dm (wc 1), tsSec := 1000}, (Or.inl (by decide +kernel)), by decide +kernel⟩

theorem witness_ClientsMeasureTheirMaster_3 :
    ∃ (s : State) (dt : Nat) (n : Fin 40) (j : Job),
      ((s.core.ms[n]).front = some (j, .cells 0)) ∧
      (j.kind = .clientRx) :=
  ⟨(fr (wc 1 {best := some 8}) (jr 0 9 {})), 5, 9, (jr 0 9 {}), by decide +kernel⟩

theorem witness_ClientsMeasureTheirMaster_4 :
    ∃ (s : State) (dt : Nat) (n : Fin 40) (j : Job) (i : Fin 2) (m : PtpMsg),
      ((s.core.ms[n]).front = some (j, .cells 0)) ∧
      (j.kind = .clientRx) ∧
      (j.k = 0xB) ∧
      (j.client = i) ∧
      (j.req.ptp = some m) :=
  ⟨(fr (wc 2) (jr 0xB ma {})), 5, 9, (jr 0xB ma {}), 1, {}, by decide +kernel⟩

def jq (m : PtpMsg) (ep : Nat) : Job := {jr 0 9 m with stepEpoch := ep}

theorem witness_ClientsMeasureTheirMaster_5 :
    ∃ (s : State) (dt : Nat) (n : Fin 40) (j : Job) (i : Fin 2) (m : PtpMsg),
      ((s.core.ms[n]).front = some (j, .cells 0)) ∧
      (j.kind = .clientRx) ∧
      (j.k = 0) ∧
      (j.client = i) ∧
      (j.req.ptp = some m) ∧
      ((s.cli[i]).best = some j.grant) :=
  ⟨(fr (wc 1 {best := some 9, dj := [5,8], mpd := 4}) (jq {tsSec := 1000} 0)), 5, 9, (jq {tsSec := 1000} 0), 1, {tsSec := 1000}, by decide +kernel⟩

def j8 := jr 8 9 {tsSec := 1000, seqId := 7}

theorem witness_ClientsMeasureTheirMaster_6 :
    ∃ (s : State) (dt : Nat) (n : Fin 40) (j : Job) (i : Fin 2) (m : PtpMsg) (t2 : Units) (corr : Int) (d : Bool),
      ((s.core.ms[n]).front = some (j, .cells 0)) ∧
      (j.kind = .clientRx) ∧
      (j.k = 8) ∧
      (j.client = i) ∧
      (j.req.ptp = some m) ∧
      ((s.cli[i]).best = some j.grant) ∧
      ((s.cli[i]).waiting = some (m.seqId, t2, corr, d, s.tb.stepCount)) ∧
      ((s.cli[i]).dj ≠ [] ∨ (s.cli[i]).frozen = true) :=
  ⟨(fr (wc 1 {best := some 9, dj := [5,8], waiting := some (7, 5, 6, false, w0.tb.stepCount)}) j8), 5, 9, j8, 1, {tsSec := 1000, seqId := 7}, 5, 6, false, by decide +kernel, by decide +kernel, by decide +kernel, by decide +kernel, by decide +kernel, by decide +kernel, by decide +kernel, (Or.inl (by decide +kernel))⟩

def wd : State := (wc 1 {best := some 9, dj := [5,8], mpd := 6, lastSync := some (5,7), dreqs := [{seqId := 7, t3 := some 44, stepEpoch := w0.tb.stepCount}, {seqId := 8}]})

def m9 : PtpMsg := {tsSec := 1000, seqId := 7, reqClockId := wd.cfg.b0D.ptp.clockId, reqPort := 4}

theorem witness_ClientsMeasureTheirMaster_8 :
    ∃ (s : State) (dt : Nat) (n : Fin 40) (j : Job) (i : Fin 2) (m : PtpMsg) (t1 t2 t3 d : Units) (l : List SentDreq),
      ((s.core.ms[n]).front = some (j, .cells 0)) ∧
      (j.kind = .clientRx) ∧
      (j.k = 9) ∧
      (j.client = i) ∧
      (j.req.ptp = some m) ∧
      ((s.cli[i]).best = some j.grant) ∧
      (m.reqClockId = s.cfg.b0D.ptp.clockId) ∧
      (m.reqPort = (cliPort s i).val + 1) ∧
      ((s.cli[i]).lastSync = some (t1, t2)) ∧
      ((s.cli[i]).dreqs = { seqId := m.seqId, t3 := some t3, stepEpoch := s.tb.stepCount } :: l) ∧
      (d = ((t2 - t1) + (msgTime m (-m.correction) - t3)) / 2) :=
  ⟨(fr wd (jr 9 9 m9)), 5, 9, (jr 9 9 m9), 1, m9, 5, 7, 44, (((7 - 5) + (msgTime m9 (-m9.correction) - 44)) / 2), [{seqId := 8}], by decide +kernel⟩

theorem witness_ClientsNegotiateAndLoseTheirMaster_1 :
    ∃ (s : State) (dt : Nat) (i : Fin 2) (b : Nat),
      (serving s = true) ∧
      ((cliCfg s i).cEn = true) ∧
      ((s.cli[i]).best = some b) :=
  ⟨wd, 5, 1, 9, by decide +kernel⟩

def wg (g : ClientGrant) : State := (wc 2 {best := some 9, grants := [g]})

theorem witness_ClientsNegotiateAndLoseTheirMaster_2 :
    ∃ (s : State) (dt : Nat) (i : Fin 2),
      ((s.cli[i]).best = none ∨ (cliCfg s i).cEn = false ∨ serving s = false) :=
  ⟨(wc 2), 5, 1, (Or.inl (by decide +kernel))⟩

def mc (a b : Nat) : PtpMsg := {tlvs := [{tlvType := 5, messageType := a, duration := b, logInterval := 0}]}

def mc3 : PtpMsg := {tlvs := [{tlvType := 5, messageType := 0, duration := 100, logInterval := 3}]}

theorem witness_ClientsNegotiateAndLoseTheirMaster_3 :
    ∃ (s : State) (dt : Nat) (n : Fin 40) (j : Job) (i : Fin 2) (m : PtpMsg) (l d : Nat),
      ((s.core.ms[n]).front = some (j, .cells 0)) ∧
      (j.kind = .clientRx) ∧
      (j.k = 0xC) ∧
      (j.client = i) ∧
      (j.req.ptp = some m) ∧
      ((s.cli[i]).best = some j.grant) ∧
      (m.tlvs = [{ tlvType := 5, messageType := 0, logInterval := l, duration := d + 1 }]) :=
  ⟨(fr (wg {master := 9, messageType := 0}) (jr 0xC 9 mc3)), 5, 9, (jr 0xC 9 mc3), 1, mc3, 3, 99, by decide +kernel⟩

def wgs : State := (wc 2 {best := some 9, grants := [{master := 9, messageType := 0, duration := some 1}, {master := 8, messageType := 9, duration := some 1}, {master := 9, messageType := 11, duration := some 1}, {master := 9, messageType := 9, asked := some 5, duration := some 1}]})

theorem witness_ClientsNegotiateAndLoseTheirMaster_4 :
    ∃ (s : State) (dt : Nat) (i : Fin 2),
      (serving s = true) :=
  ⟨wgs, (11*clkPerSec), 1, by decide +kernel⟩

theorem witness_ClientsNegotiateAndLoseTheirMaster_5 :
    ∃ (s : State) (dt : Nat) (i : Fin 2),
      (serving s = true) :=
  ⟨wgs, (11*clkPerSec), 1, by decide +kernel⟩

theorem witness_ClientsNegotiateAndLoseTheirMaster_6 :
    ∃ (s : State) (dt : Nat) (n : Fin 40) (j : Job) (i : Fin 2) (m : PtpMsg) (g : ClientGrant) (d : Nat),
      ((s.core.ms[n]).front = some (j, .cells 0)) ∧
      (j.kind = .clientRx) ∧
      (j.k = 0xC) ∧
      (j.client = i) ∧
      (j.req.ptp = some m) ∧
      ((s.cli[i]).grants = [g]) ∧
      (g.master = j.grant) ∧
      (g.messageType ≠ 0) ∧
      (m.tlvs = [{ tlvType := 5, messageType := g.messageType, duration := d }]) :=
  ⟨(fr (wg {master := 9, messageType := 11}) (jr 0xC 9 (mc 11 100))), 5, 9, (jr 0xC 9 (mc 11 100)), 1, (mc 11 100), {master := 9, messageType := 11}, 100, by decide +kernel⟩

theorem witness_ClientsNegotiateAndLoseTheirMaster_7 :
    ∃ (s : State) (dt : Nat) (i : Fin 2) (g : ClientGrant),
      (serving s = true) ∧
      ((s.cli[i]).grants = [g]) ∧
      (renewalDue (begin dt s).clk g = true) :=
  ⟨(wg {master := 9, messageType := 11, duration := some 1}), clkPerSec, 1, {master := 9, messageType := 11, duration := some 1}, by decide +kernel⟩

theorem witness_ClientsNegotiateAndLoseTheirMaster_8 :
    ∃ (s : State) (dt : Nat) (i : Fin 2) (g : ClientGrant),
      (serving s = true) ∧
      ((s.cli[i]).grants = [g]) ∧
      (retryDue (begin dt s).clk g = true) :=
  ⟨(wg {master := 9, messageType := 11, asked := some 5}), (11*clkPerSec), 1, {master := 9, messageType := 11, asked := some 5}, by decide +kernel⟩

theorem witness_ClientsNegotiateAndLoseTheirMaster_9 :
    ∃ (s : State) (dt : Nat) (i : Fin 2),
      ((cliCfg s i).cEn = true) ∧
      ((s.refs[cliSlot i]).st = .selected) ∧
      ((s.cli[i]).cands.any (·.qualified) = true) ∧
      (((s.cli[i]).cands.all fun x => announceStale (cliCfg s i) (begin dt s).clk x) = true) :=
  ⟨(wc 1 {best := some 9, cands := [{src := 9, qualified := true}]}), (1000*clkPerSec), 1, by decide +kernel⟩

theorem witness_ClientsNegotiateAndLoseTheirMaster_10 :
    ∃ (s : State) (dt : Nat) (i : Fin 2) (a b : Candidate),
      ((s.cli[i]).cands = [a, b]) ∧
      (a.src ≠ b.src) ∧
      (b.qualified = true) ∧
      (announceStale (cliCfg s i) (begin dt s).clk a = true) ∧
      ((s.cli[i]).best = some b.src) :=
  ⟨(wc 1 {best := some 9, cands := [{src := 7}, {src := 9, qualified := true, lastAt := 2000*clkPerSec}]}), (1000*clkPerSec), 1, {src := 7}, {src := 9, qualified := true, lastAt := 2000*clkPerSec}, by decide +kernel⟩

theorem witness_ClientsNegotiateAndLoseTheirMaster_11 :
    ∃ (s : State) (dt : Nat) (i : Fin 2) (src : Nat),
      ((s.cli[i]).cands.any (fun x => x.src == src && announceStale (cliCfg s i) (begin dt s).clk x) = true) ∧
      ((s.cli[i]).cands.any (fun x => x.src != src && x.qualified) = true) :=
  ⟨(wc 1 {best := some 7, cands := [{src := 7, qualified := true}, {src := 9, qualified := true, lastAt := 2000*clkPerSec}]}), (1000*clkPerSec), 1, 7, by decide +kernel⟩

theorem witness_ClientsNegotiateAndLoseTheirMaster_13 :
    ∃ (s : State) (dt : Nat) (i : Fin 2),
      ((cliCfg s i).cEn = false) :=
  ⟨w0, 5, 1, by decide +kernel⟩

theorem witness_ClientsNegotiateAndLoseTheirMaster_12 :
    ∃ (s : State) (dt : Nat) (i : Fin 2),
      ((cliCfg s i).cEn = true) ∧
      ((s.refs[cliSlot i]).st = .selected) ∧
      ((s.cli[i]).cands.any (fun x => x.qualified && !announceStale (cliCfg s i) (begin dt s).clk x) = true) :=
  ⟨(wc 1 {best := some 9, cands := [{src := 9, qualified := true, lastAt := w0.clk}]}), 5, 1, by decide +kernel⟩

theorem witness_ClientsNegotiateAndLoseTheirMaster_14 :
    ∃ (s : State) (dt : Nat) (i : Fin 2),
      ((s.cli[i]).watch.back = false ∨ (s.cli[i]).frozen = false) :=
  ⟨(wc 1 {withheld := true}), 5, 1, (Or.inl (by decide +kernel))⟩

theorem witness_ClientsNegotiateAndLoseTheirMaster_16 :
    ∃ (s : State) (dt : Nat) (i : Fin 2),
      ((s.cli[i]).watch.back = true) ∧
      ((s.cli[i]).frozen = true) ∧
      ((s.refs[cliSlot i]).st = .quarantined) :=
  ⟨({wc 1 {frozen := true, watch := {back := true}, dj := [5,8,1]} with refs := w0.refs.set 6 {st := .quarantined}}), 5, 1, by decide +kernel⟩

end W24

namespace W25

def wm (x : Millstone) : State := {w0 with core.ms := (Vector.replicate 40 {st := .inService}).set 7 {x with st := .inService}, cfg.b0A.group := Vector.replicate 2 {groupMode := 1}, ports := w0.ports.set 3 {link := true} }

def now := nowUnits (begin 5 w0)

def jn : Job := {id := 9, port := 3, t2 := now, cells := 2, work := [(5, 77)], stepEpoch := w0.tb.stepCount}

def wq (l : List Job) : State := {wm {} with core.precQ := l, core.dequeue.prec := some 6, core.dequeue.general := some 6}

theorem witness_MillstonesTakeReadAndBuild_1 :
    ∃ (s : State) (dt : Nat) (m : Fin 40) (c : Cls) (j : Job) (q : List Job),
      (topClass s = some c) ∧
      (queueOf s c = j :: q) ∧
      (roundRobin (lastOf s.core.dequeue c) (dequeueRequesters (begin dt s)) = some m.val) ∧
      (j.kind = .ntp ∨ j.kind = .nts) ∧
      (j.kod = none) ∧
      (j.recommit = false) ∧
      (j.relayed = false) ∧
      (overAge (begin dt s) j = false) :=
  ⟨(wq [jn, {jn with id := 8}]), 5, 7, .prec, jn, [{jn with id := 8}], by decide +kernel, by decide +kernel, by decide +kernel, (Or.inl (by decide +kernel)), by decide +kernel⟩

theorem witness_MillstonesTakeReadAndBuild_2 :
    ∃ (s : State) (dt n : Nat) (m : Fin 40) (c : Cls) (j : Job) (q : List Job),
      (topClass s = some c) ∧
      (queueOf s c = j :: q) ∧
      (roundRobin (lastOf s.core.dequeue c) (dequeueRequesters (begin dt s)) = some m.val) ∧
      (j.recommit = false) ∧
      (j.relayed = false) ∧
      (overAge (begin dt s) j = false) ∧
      (j.kind = .clientReq ∧ n = 0 ∨ j.kind = .clientRx ∧ n = j.cells ∨ (j.kind = .sync ∨ j.kind = .announce) ∧ j.mcast = true ∧ n = 0 ∨ (j.kind = .ntp ∨ j.kind = .nts) ∧ j.kod.isSome = true ∧ n = j.cells ∨ j.kind = .delayReq ∧ (ptpPort s j.port).profile ≠ 2 ∧ j.stepEpoch = s.tb.stepCount ∧ n = j.cells) :=
  ⟨(wq [{jn with kind := .clientReq}]), 5, 0, 7, .prec, {jn with kind := .clientReq}, [], by decide +kernel, by decide +kernel, by decide +kernel, by decide +kernel, by decide +kernel, by decide +kernel, (Or.inl (by decide +kernel))⟩

def wq1 (l : List Job) : State := {wq l with cfg.b0D.port := Vector.replicate 8 {profile := 1}}

def jr : Job := {jn with recommit := true, out := some {}}

theorem witness_MillstonesTakeReadAndBuild_3 :
    ∃ (s : State) (dt : Nat) (m : Fin 40) (c : Cls) (j : Job) (q : List Job),
      (topClass s = some c) ∧
      (queueOf s c = j :: q) ∧
      (roundRobin (lastOf s.core.dequeue c) (dequeueRequesters (begin dt s)) = some m.val) ∧
      ((s.core.ms[m]).back = none) ∧
      (j.recommit = true ∧ j.commits < s.cfg.b0B.core.recommitMax ∨ j.recommit = false ∧ j.relayed = true) ∧
      (overAge (begin dt s) j = false) ∧
      (j.stepEpoch = s.tb.stepCount) :=
  ⟨(wq [jr]), 5, 7, .prec, jr, [], by decide +kernel, by decide +kernel, by decide +kernel, by decide +kernel, (Or.inl (by decide +kernel)), by decide +kernel⟩

theorem witness_MillstonesTakeReadAndBuild_4 :
    ∃ (s : State) (dt : Nat) (m : Fin 40) (c : Cls) (j : Job) (q : List Job),
      (topClass s = some c) ∧
      (queueOf s c = j :: q) ∧
      (roundRobin (lastOf s.core.dequeue c) (dequeueRequesters (begin dt s)) = some m.val) ∧
      (overAge (begin dt s) j = true) ∧
      (j.spill = none) :=
  ⟨(wq [{jn with t2 := 0}, {jn with id := 8}]), 5, 7, .prec, {jn with t2 := 0}, [{jn with id := 8}], by decide +kernel⟩

theorem witness_MillstonesTakeReadAndBuild_5 :
    ∃ (s : State) (dt : Nat) (m : Fin 40) (c : Cls) (j : Job) (q : List Job),
      (topClass s = some c) ∧
      (queueOf s c = j :: q) ∧
      (roundRobin (lastOf s.core.dequeue c) (dequeueRequesters (begin dt s)) = some m.val) :=
  ⟨(wq [{jn with t2 := 0}, {jn with id := 8}]), 5, 7, .prec, {jn with t2 := 0}, [{jn with id := 8}], by decide +kernel⟩

def wpt : State := (fun s => {s with dress := {s.dress with probations := s.dress.probations.set 2 (some {partner := 7, unit := 39, copies := [4,5]})}}) (wq [jn, {jn with id := 8}])

theorem witness_MillstonesTakeReadAndBuild_6 :
    ∃ (s : State) (dt : Nat),
      (dequeueRequesters (begin dt s) = [] ∨ topClass s = none) :=
  ⟨({w0 with core.generalQ := [jn], core.dequeue.prec := some 5}), 5, (Or.inl (by decide +kernel))⟩

theorem witness_MillstonesTakeReadAndBuild_7 :
    ∃ (s : State) (dt : Nat) (b : Fin 48) (i : Nat) (m : Fin 40) (j : Job) (pre : Bool) (rest : List (Fin 48 × Nat)),
      (bankGrant s b = some (m.val, pre)) ∧
      ((s.core.ms[m]).front = some (j, .state ((b, i) :: rest))) ∧
      (b.val < 32 ∨ j.kind ≠ .signaling) :=
  ⟨(wm {front := some (jn, .state [(9, 77), (10, 78)])}), 5, 9, 77, 7, jn, false, [(10,78)], by decide +kernel, by decide +kernel, (Or.inl (by decide +kernel))⟩

def jd : Job := {jn with kind := .delayReq, grant := 77}

def wpre : State := (fun s => {s with garner.bank := s.garner.bank.set 40 {s.garner.bank[40] with holder := some 8, susp := [9]}, core.ms := s.core.ms.set 8 {st := .inService, front := some ({jd with id := 4}, .updating 40 3 [])} }) (wm {front := some ({jd with cls := .prec}, .state [(40, 77)])})

def jsg : Job := {jn with kind := .signaling, grant := 77}

def wsg : State := wm {front := some (jsg, .state [(40, 77)])}

theorem witness_MillstonesTakeReadAndBuild_8 :
    ∃ (s : State) (dt : Nat) (b : Fin 48) (i g : Nat) (m : Fin 40) (j : Job) (pre : Bool) (rest : List (Fin 48 × Nat)),
      (bankGrant s b = some (m.val, pre)) ∧
      ((s.core.ms[m]).front = some (j, .state ((b, i) :: rest))) ∧
      (32 ≤ b.val) ∧
      (j.kind = .signaling) ∧
      (g = ((findGrant s j).orElse fun _ => freeGrant s j).getD i) :=
  ⟨wsg, 5, 40, 77, (((findGrant wsg jsg).orElse fun _ => freeGrant wsg jsg).getD 77), 7, jsg, false, [], by decide +kernel, by decide +kernel, by decide +kernel, by decide +kernel, rfl⟩

theorem witness_MillstonesTakeReadAndBuild_9 :
    ∃ (s : State) (dt : Nat) (b : Fin 48),
      (bankGrant s b = none) :=
  ⟨w0, 5, 40, by decide +kernel⟩

def wb : State := (fun s => {s with garner.bank := s.garner.bank.set 9 {s.garner.bank[9] with holder := some 7, shadow := [{who := 7, record := 77, nextRate := {valid := true, tat := 5}}]}, garner.rate := [(3, {valid := true}), (77, {seq := true})]}) (wm {front := some (jn, .updating 9 77 [])})

def wbs : State := (fun s => {s with garner.bank := s.garner.bank.set 40 {s.garner.bank[40] with holder := some 7, susp := [8], shadow := [{who := 8, record := 5}, {who := 7, record := 77, nextGrant := {valid := true, seq := true}}]}, core.ms := s.core.ms.set 8 {st := .inService, front := some ({jd with id := 4}, .updating 40 5 [])} }) (wm {front := some ({jd with cls := .prec}, .updating 40 77 [])})

theorem witness_MillstonesTakeReadAndBuild_10 :
    ∃ (s : State) (dt : Nat) (b : Fin 48) (m : Fin 40) (e : Shadow),
      ((s.garner.bank[b]).holder = some m.val) ∧
      ((s.garner.bank[b]).shadow.find? (fun x => x.who == m.val) = some e) ∧
      ((s.garner.bank[b]).susp.contains m.val = false) :=
  ⟨wb, 5, 9, 7, {who := 7, record := 77, nextRate := {valid := true, tat := 5}}, by decide +kernel⟩

theorem witness_MillstonesTakeReadAndBuild_11 :
    ∃ (s : State) (dt : Nat) (b : Fin 48) (i : Nat) (m : Fin 40) (j : Job) (e : Shadow) (rest : List (Fin 48 × Nat)),
      ((s.garner.bank[b]).holder = some m.val) ∧
      ((s.garner.bank[b]).susp = []) ∧
      ((s.garner.bank[b]).shadow.find? (fun x => x.who == m.val) = some e) ∧
      ((s.core.ms[m]).front = some (j, .updating b i rest)) ∧
      (j.refused = false) ∧
      (j.kind ≠ .sweep) ∧
      (j.bucketKod = false) :=
  ⟨wb, 5, 9, 77, 7, jn, {who := 7, record := 77, nextRate := {valid := true, tat := 5}}, [], by decide +kernel⟩

def wcl : State := wm {front := some (jn, .cells 2)}

/-- The region in which the cell that Millstone 7 waits for lies. -/
def reg : Fin 8 := Fin.ofNat 8 (Config.cellRegion 577)

theorem reg_grants : arbitrate wcl.core.cellArb[reg] (cellRequests wcl reg) = some (7, .general) := by
  have e : cellRequests wcl reg = allMs.filterMap fun m =>
      if m = 7 then (if Config.cellRegion 577 % 8 == reg.val then some (7, .general) else none) else none := by
    have others : ∀ m : Fin 40, m ≠ 7 → (wcl.core.ms[m]).front = none := by decide +kernel
    have free : holdsPort wcl 7 = false := by decide +kernel
    unfold cellRequests
    congr 1
    funext m
    by_cases h : m = 7
    · subst h
      show (if (Config.cellRegion 577 % 8 == reg.val && !holdsPort wcl 7) = true then some ((7 : Nat), Cls.general) else none) = _
      simp [free]
    · rw [if_neg h, others m h]
  have a : wcl.core.cellArb[reg] = wcl.core.cellArb[(0 : Fin 8)] :=
    (by decide +kernel : ∀ r : Fin 8, wcl.core.cellArb[r] = wcl.core.cellArb[(0 : Fin 8)]) reg
  rw [e, a]
  have r : (Config.cellRegion 577 % 8 == reg.val) = true := by simp [reg, Fin.ofNat]
  rw [r]
  decide +kernel

theorem witness_MillstonesTakeReadAndBuild_12 :
    ∃ (s : State) (dt : Nat) (a : Fin 8) (m : Fin 40) (c : Cls) (j : Job) (r : Nat),
      (arbitrate s.core.cellArb[a] (cellRequests s a) = some (m.val, c)) ∧
      ((s.core.ms[m]).front = some (j, .cells (r + 1))) :=
  ⟨wcl, 5, reg, 7, .general, jn, 1, reg_grants, by decide +kernel⟩

theorem witness_MillstonesTakeReadAndBuild_13 :
    ∃ (s : State) (dt : Nat) (a : Fin 8),
      (cellRequests s a = []) :=
  ⟨w0, 5, 3, by decide +kernel⟩

theorem witness_MillstonesTakeReadAndBuild_14 :
    ∃ (s : State) (dt : Nat) (m : Fin 40) (j : Job),
      ((s.core.ms[m]).front = some (j, .cells 0)) ∧
      ((s.core.ms[m]).back = none) ∧
      (j.kind = .announce) ∧
      (j.spill = none) ∧
      ((scheduledFrame (begin dt s) j (announceMsg (begin dt s) j)).len ≤ 1536) :=
  ⟨(wm {front := some ({jn with kind := .announce}, .cells 0)}), 5, 7, {jn with kind := .announce}, by decide +kernel⟩

theorem witness_MillstonesTakeReadAndBuild_15 :
    ∃ (s : State) (dt : Nat) (m : Fin 40) (j : Job),
      ((s.core.ms[m]).front = some (j, .cells 0)) ∧
      ((s.core.ms[m]).back = none) ∧
      (j.kind = .ntp) ∧
      (j.kod = none) ∧
      (j.spill = none) ∧
      ((replyFrame (begin dt s) j 48).len ≤ 1536) :=
  ⟨(wm {front := some (jn, .cells 0)}), 5, 7, jn, by decide +kernel⟩

theorem witness_MillstonesTakeReadAndBuild_16 :
    ∃ (s : State) (dt : Nat) (m : Fin 40) (j : Job),
      ((s.core.ms[m]).front = some (j, .cells 0)) ∧
      ((s.core.ms[m]).back = none) ∧
      (j.kind = .delayReq) ∧
      (j.spill = none) ∧
      ((delayRespFrame (begin dt s) j).len ≤ 1536) :=
  ⟨(wm {front := some (jd, .cells 0)}), 5, 7, jd, by decide +kernel⟩

def jo : Job := {jn with out := some {}}

def lead : Units := now + ((400 * unitsPerNs : Nat) : Int)

def wcm (j : Job) (bk : List Booking := []) : State := (fun s => {s with ports := s.ports.set 3 {link := true, book := bk}}) (wm {back := some (j, .wantPort)})

def dpt (s : State) : State := dropPassed 3 (begin 5 s)

def slt (s : State) (j : Job) : List (Nat × Units) := slotsFor (dpt s) 3 12345 lead j

theorem witness_AnswersAreCommittedFinishedAndDeposited_1 :
    ∃ (s u : State) (dt : Nat) (p : Fin 8) (grid lo ttx : Units) (m : Fin 40) (c : Cls) (j : Job) (slots : List (Nat × Units)),
      (u = dropPassed p (begin dt s)) ∧
      ((s.ports[p]).link = true) ∧
      (portNext u p = some (m.val, c)) ∧
      ((s.core.ms[m]).back = some (j, .wantPort)) ∧
      (j.commits < s.cfg.b0B.core.recommitMax) ∧
      (overAge u j = false) ∧
      (lo = (match pauseEnd u p (framePrio s p (j.out.getD {})) with | some e => max (nowUnits u + ((400 * unitsPerNs : Nat) : Int)) e | none => nowUnits u + ((400 * unitsPerNs : Nat) : Int))) ∧
      (slots = slotsFor u p grid lo j) ∧
      (slots.head?.map (·.2) = some ttx) ∧
      (slots.foldl (fun _ e => slotStop u p e.1 e.2) 0 ≤ nowUnits u + ((400 * unitsPerNs : Nat) : Int) + ((s.cfg.b0B.core.bookAheadNs * unitsPerNs : Nat) : Int) ∨ j.cls = .prec ∧ sharePassed u p slots (u.ports[p]).precDone = false) :=
  ⟨(wcm jo), (dpt (wcm jo)), 5, 3, 12345, lead, (((slt (wcm jo) jo).head?.map (·.2)).getD 0), 7, .general, jo, (slt (wcm jo) jo), rfl, by decide +kernel, by decide +kernel, by decide +kernel, by decide +kernel, by decide +kernel, by decide +kernel, by decide +kernel, by decide +kernel, (Or.inl (by decide +kernel))⟩

def jp : Job := {jo with cls := .prec, follow := some {len := 90}}

def bks : List Booking := [{start := lead - 500, ttx := lead + 5000000, stop := lead + 900000000000}]

def bkf : List Booking := [{start := lead - 500, ttx := lead + 5000000, stop := lead + 900000000000000000}]

theorem witness_AnswersAreCommittedFinishedAndDeposited_2 :
    ∃ (s u : State) (dt : Nat) (p : Fin 8) (grid lo : Units) (m : Fin 40) (c : Cls) (j : Job),
      (u = dropPassed p (begin dt s)) ∧
      ((s.ports[p]).link = true) ∧
      (portNext u p = some (m.val, c)) ∧
      ((s.core.ms[m]).back = some (j, .wantPort)) ∧
      (j.commits < s.cfg.b0B.core.recommitMax) ∧
      (overAge u j = false) ∧
      (lo = nowUnits u + ((400 * unitsPerNs : Nat) : Int)) ∧
      (pauseEnd u p (framePrio s p (j.out.getD {})) = none) ∧
      (j.cls ≠ .prec) ∧
      (lo + ((s.cfg.b0B.core.bookAheadNs * unitsPerNs : Nat) : Int) < (slotsFor u p grid lo j).foldl (fun _ e => slotStop u p e.1 e.2) 0) :=
  ⟨(wcm jo bkf), (dpt (wcm jo bkf)), 5, 3, 12345, lead, 7, .general, jo, rfl, by decide +kernel⟩

theorem witness_AnswersAreCommittedFinishedAndDeposited_3 :
    ∃ (s u : State) (dt : Nat) (p : Fin 8) (grid : Units) (m : Fin 40) (c : Cls) (j : Job),
      (u = dropPassed p (begin dt s)) ∧
      (portNext u p = some (m.val, c)) ∧
      ((s.core.ms[m]).back = some (j, .wantPort)) ∧
      ((s.core.ms[m]).front = none) ∧
      (j.spill = none) ∧
      ((s.ports[p]).link = false ∨ s.cfg.b0B.core.recommitMax ≤ j.commits ∨ overAge u j = true) :=
  ⟨(wcm {jo with commits := 99}), (dpt (wcm {jo with commits := 99})), 5, 3, 12345, 7, .general, {jo with commits := 99}, rfl, by decide +kernel, by decide +kernel, by decide +kernel, by decide +kernel, (Or.inr (Or.inl (by decide +kernel)))⟩

theorem witness_AnswersAreCommittedFinishedAndDeposited_4 :
    ∃ (s : State) (dt : Nat) (m : Fin 40) (j : Job) (u : Units),
      ((s.core.ms[m]).back = some (j, .holdOff u)) :=
  ⟨(wm {back := some (jo, .holdOff 5)}), 5, 7, jo, 5, by decide +kernel⟩

theorem witness_AnswersAreCommittedFinishedAndDeposited_5 :
    ∃ (s : State) (dt : Nat) (m : Fin 40) (j : Job) (ttx t3 : Units),
      ((s.core.ms[m]).back = some (j, .finish ttx t3)) :=
  ⟨(wm {back := some (jo, .finish 5 6)}), 5, 7, jo, 5, 6, by decide +kernel⟩

theorem witness_AnswersAreCommittedFinishedAndDeposited_6 :
    ∃ (s : State) (dt : Nat) (m : Fin 40) (j : Job) (ttx t3 : Units) (b : NtpBuild) (f : Frame),
      ((s.core.ms[m]).back = some (j, .finish ttx t3)) ∧
      (j.ntp = some b) ∧
      (b.nts = none) ∧
      (b.timed = true) ∧
      (j.out = some f) :=
  ⟨(wm {back := some ({jo with ntp := some {timed := true, hdr := zeroBytes 48}}, .finish 5 6)}), 5, 7, {jo with ntp := some {timed := true, hdr := zeroBytes 48}}, 5, 6, {timed := true, hdr := zeroBytes 48}, {}, by decide +kernel⟩

def wdp (f : Option (Job × FrontPhase)) (j : Job := jo): State := (fun s => {s with ports := s.ports.set 3 {link := true, hold := some 8, book := [{ttx := 10^60, jobId := 9, ms := 7}, {ttx := 10^61, jobId := 9, ms := 7, isFollow := true}]}}) (wm {back := some (j, .finished (10^60) 6), front := f})

theorem witness_AnswersAreCommittedFinishedAndDeposited_7 :
    ∃ (s : State) (dt : Nat) (p : Fin 8) (c : Cls) (m : Fin 40) (j : Job) (ttx t3 : Units) (b : Booking) (l : List Bool),
      (l = [] ∨ probationOf s m = none) ∧
      (portNext (begin dt s) p = some (m.val, c)) ∧
      ((s.core.ms[m]).back = some (j, .finished ttx t3)) ∧
      (j.follow = none) ∧
      ((s.ports[p]).book.find? (fun x => x.jobId == j.id && x.job.isNone) = some b) :=
  ⟨(wdp none), 5, 3, .general, 7, jo, (10^60), 6, {ttx := 10^60, jobId := 9, ms := 7}, [], (Or.inl (by decide +kernel)), by decide +kernel⟩

theorem witness_AnswersAreCommittedFinishedAndDeposited_8 :
    ∃ (s : State) (dt : Nat) (p : Fin 8) (c : Cls) (m : Fin 40) (j : Job) (ttx t3 : Units) (b : Booking) (f : Frame) (l : List Bool),
      (portNext (begin dt s) p = some (m.val, c)) ∧
      ((s.core.ms[m]).back = some (j, .finished ttx t3)) ∧
      (j.follow = some f) ∧
      ((s.ports[p]).book.find? (fun x => x.jobId == j.id && x.job.isNone) = some b) :=
  ⟨(wdp (some ({}, .ready)) {jo with follow := some {len := 90}}), 5, 3, .general, 7, {jo with follow := some {len := 90}}, (10^60), 6, {ttx := 10^60, jobId := 9, ms := 7}, {len := 90}, [], by decide +kernel⟩

def bl : Booking := {ttx := 5, job := some jo}

def wla : State := {wm {} with ports := w0.ports.set 3 {link := true, book := [{void := true}, bl, {}]}}

theorem witness_LaunchesMissesAndLostAnswers_1 :
    ∃ (s u : State) (dt : Nat) (p : Fin 8) (b : Booking) (l : List Booking) (j : Job),
      (u = dropPassed p (begin dt s)) ∧
      ((u.ports[p]).book = b :: l) ∧
      (b.job = some j) ∧
      ((s.ports[p]).waiting = []) ∧
      (b.ttx ≤ nowUnits (begin dt s) + advanceTime (begin dt s)) :=
  ⟨wla, (dropPassed 3 (begin 5 wla)), 5, 3, bl, [{}], jo, rfl, by decide +kernel⟩

theorem witness_LaunchesMissesAndLostAnswers_2 :
    ∃ (s u : State) (dt : Nat) (p : Fin 8),
      (u = dropPassed p (begin dt s)) ∧
      (((u.ports[p]).book.head?.bind (·.job)) = none) :=
  ⟨{wm {} with ports := w0.ports.set 3 {link := true, book := [{void := true}]}}, _, 5, 3, rfl, by decide +kernel⟩

def bm : Booking := {ttx := 5, jobId := 9, ms := 7}

def wsm := (fun s => {s with ports := s.ports.set 3 {link := true, book := [bm]}}) (wm {back := some (jo, .wantPort)})

theorem witness_LaunchesMissesAndLostAnswers_3 :
    ∃ (s : State) (dt : Nat) (p : Fin 8) (b : Booking) (m : Fin 40) (j : Job) (ph : BackPhase),
      ((s.ports[p]).book = [b]) ∧
      (b.job = none) ∧
      (b.void = false) ∧
      (b.ms = m) ∧
      ((s.core.ms[m]).back = some (j, ph)) ∧
      (j.id = b.jobId) ∧
      ((s.core.ms[m]).front = none) ∧
      (b.ttx ≤ nowUnits (begin dt s) + ((80 * unitsPerNs : Nat) : Int)) ∧
      (parked s < 4096) :=
  ⟨wsm, 5, 3, bm, 7, jo, .wantPort, by decide +kernel⟩

def wsm2 := (fun s => {s with core.park := [{jo with id := 8}], ports := s.ports.set 3 {link := true, book := [bm], pause := some (10^60)}}) (wm {back := some (jo, .wantPort)})

theorem witness_LaunchesMissesAndLostAnswers_4 :
    ∃ (s : State) (dt : Nat) (p : Fin 8),
      (((s.ports[p]).book.all fun b => b.job.isSome || b.void) = true) :=
  ⟨wla, 5, 2, by decide +kernel⟩

theorem witness_LaunchesMissesAndLostAnswers_5 :
    ∃ (s : State) (dt : Nat) (p : Fin 8) (j : Job) (l : List Job),
      (s.core.park = j :: l) ∧
      (j.port = p) ∧
      (longPause (begin dt s) p (framePrio s p (j.out.getD {})) = false) :=
  ⟨{wm {} with core.park := [jo, {jo with id := 10}]}, 5, 3, jo, [{jo with id := 10}], by decide +kernel⟩

theorem witness_LaunchesMissesAndLostAnswers_6 :
    ∃ (s : State) (dt : Nat) (p : Fin 8),
      ((s.core.park.all fun j => j.port != p || longPause (begin dt s) p (framePrio s p (j.out.getD {}))) = true) :=
  ⟨{wm {} with core.park := [jo, {jo with id := 10}]}, 5, 2, by decide +kernel⟩

def wf := (fun s => {s with garner.bank := (s.garner.bank.set 9 {s.garner.bank[9] with holder := some 7, susp := [5], shadow := [{who := 7, record := 77, nextRate := {valid := true, tat := 5}}]}).set 40 {s.garner.bank[40] with holder := some 5, susp := [7,6]}, garner.rate := [(3, {valid := true}), (77, {seq := true})], ports := s.ports.set 3 {link := true, book := [bm]}}) (wm {front := some (jn, .updating 9 77 []), back := some (jo, .wantPort)})

theorem witness_LaunchesMissesAndLostAnswers_7 :
    ∃ (s : State) (dt : Nat) (m : Fin 40),
      ((s.core.ms[m]).st = .inService) ∧
      (bitAt s.dress.retired[0] m.val = false) :=
  ⟨wf, 5, 7, by decide +kernel⟩

def wf2 := {wdp none with ports := w0.ports.set 3 {hold := some 7}}

theorem witness_LaunchesMissesAndLostAnswers_8 :
    ∃ (s : State) (dt : Nat) (m : Fin 40),
      (holdsGrant s m = false) :=
  ⟨w0, 5, 7, by decide +kernel⟩

def pe : SpillPending := {handle := 4, link := 2, job := {cells := 3}}

theorem witness_LaunchesMissesAndLostAnswers_9 :
    ∃ (s : State) (dt h : Nat) (e : SpillPending),
      (s.core.pendingSpills.find? (fun x => x.handle == h) = some e) ∧
      (e.job.spill = none) ∧
      (e.job.work = []) :=
  ⟨{w0 with core.pendingSpills := [{pe with handle := 3}, pe], core.cellsUsed := 8}, 5, 4, pe, by decide +kernel⟩

theorem witness_LaunchesMissesAndLostAnswers_10 :
    ∃ (s : State) (dt : Nat) (n : Fin 4) (w : RespWait),
      (s.leat.respWait.find? (fun x => x.link == n) = some w) :=
  ⟨{w0 with leat.respWait := [{link := 1}, {link := 2}, {link := 2}]}, 5, 2, {link := 2}, by decide +kernel⟩

theorem witness_LaunchesMissesAndLostAnswers_11 :
    ∃ (s : State) (dt h : Nat),
      (s.core.pendingSpills.find? (fun x => x.handle == h) = none) :=
  ⟨{w0 with core.pendingSpills := [{pe with handle := 3}, pe], core.cellsUsed := 8}, 5, 9, by decide +kernel⟩

theorem witness_LaunchesMissesAndLostAnswers_12 :
    ∃ (s : State) (dt : Nat) (n : Fin 4),
      (s.leat.respWait.find? (fun x => x.link == n) = none) :=
  ⟨{w0 with leat.respWait := [{link := 1}, {link := 2}, {link := 2}]}, 5, 3, by decide +kernel⟩

end W25

namespace W26

def wl (l : LeatLink) (s : State := w0) : State := {s with leat.link := s.leat.link.set 2 l, cfg.b0F.link := s.cfg.b0F.link.set 2 {lpEn := true}}

theorem witness_LeatLinksComeUpAndSwap_1 :
    ∃ (s : State) (dt : Nat) (n : Fin 4),
      ((s.leat.link[n]).st = .down) ∧
      ((leatCfg s n).lpEn = true) ∧
      (s.pwr.mode ≠ .retain) ∧
      (s.pll.unfilled.contains .sd = false) :=
  ⟨(wl {st := .down}), 5, 2, by decide +kernel⟩

theorem witness_LeatLinksComeUpAndSwap_2 :
    ∃ (s : State) (dt : Nat) (c : LeatLoop),
      ((s.leat.link[c.link]).st = .calibrating) :=
  ⟨(wl {st := .calibrating}), 5, ⟨2,7,9⟩, by decide +kernel⟩

def wl2 (l : LeatLink) : State := {wl l with pwr.lanesCal := 4095}

theorem witness_LeatLinksComeUpAndSwap_3 :
    ∃ (s : State) (dt : Nat) (n : Fin 4),
      ((s.leat.link[n]).st = .training) ∧
      (serving s = true) ∧
      (bitAt s.pwr.lanesCal 11 = true) ∧
      (pairRetired s n (s.leat.link[n]).pairS = false) ∧
      ((s.leat.link[n]).txQ = []) ∧
      ((s.leat.link[n]).lineEnd ≤ (begin dt s).clk) :=
  ⟨(wl2 {st := .training, pairS := true}), 5, 2, by decide +kernel⟩

theorem witness_LeatLinksComeUpAndSwap_4 :
    ∃ (s : State) (dt : Nat) (n : Fin 4),
      ((s.leat.link[n]).st = .training) ∧
      (serving s = false) ∧
      (bitAt s.pwr.lanesCal 11 = true) ∧
      (pairRetired s n (s.leat.link[n]).pairS = false) :=
  ⟨{wl2 {st := .training, pairS := true} with pwr.mode := .load}, 5, 2, by decide +kernel⟩

theorem witness_LeatLinksComeUpAndSwap_5 :
    ∃ (s : State) (dt : Nat) (n : Fin 4) (b : Bool),
      ((s.leat.link[n]).st ≠ .training ∨ b ≠ (s.leat.link[n]).pairS ∨ bitAt s.pwr.lanesCal 11 = false ∨ pairRetired s n b = true) :=
  ⟨(wl {st := .training, pairS := true}), 5, 2, true, (Or.inr (Or.inr (Or.inl (by decide +kernel))))⟩

theorem witness_LeatLinksComeUpAndSwap_6 :
    ∃ (s : State) (dt : Nat) (n : Fin 4),
      ((s.leat.link[n]).st = .training) :=
  ⟨(wl {st := .training, pairS := true}), 5, 2, by decide +kernel⟩

theorem witness_LeatLinksComeUpAndSwap_7 :
    ∃ (s : State) (dt : Nat) (n : Fin 4),
      (serving s = true) ∧
      (linkTalks s n = true) ∧
      ((s.leat.link[n]).txQ = []) :=
  ⟨(wl {st := .hello}), 5, 2, by decide +kernel⟩

def lg := w0.cfg.b0F.leat.leatGroup

theorem witness_LeatLinksComeUpAndSwap_8 :
    ∃ (s : State) (dt : Nat) (n : Fin 4) (f : HelloFrame),
      (serving s = true) ∧
      ((s.leat.link[n]).st = .hello) ∧
      ((s.leat.link[n]).swapping = false) :=
  ⟨(wl {st := .hello}), 5, 2, {group := lg}, by decide +kernel⟩

def wsw : State := {wl {st := .up, swapping := true, departures := [{seq := 7, tx := 555, epoch := w0.tb.stepCount}], exchanges := 40, respCredit := 10^5} with leat.respWait := [{link := 2}], core.pendingSpills := [{handle := 6, link := 2, job := {cells := 1, cls := .assured}}]}

theorem witness_LeatLinksComeUpAndSwap_9 :
    ∃ (s : State) (dt : Nat) (n : Fin 4) (f : HelloFrame),
      (serving s = false) :=
  ⟨({wl {st := .hello} with pwr.mode := .load}), 5, 2, {group := lg}, by decide +kernel⟩

theorem witness_LeatLinksComeUpAndSwap_10 :
    ∃ (s : State) (dt : Nat) (n : Fin 4) (refine : Units) (h : HelloFrame) (f : TimeFrame) (x : TelemFrame) (y : SpillFrame) (z : RespFrame) (a b r : Nat),
      (serving s = true) ∧
      (linkMeasures s n = true) ∧
      ((s.leat.link[n]).swapping = true) ∧
      (h.group = s.cfg.b0F.leat.leatGroup) ∧
      (h.sender ≠ ownSerial) :=
  ⟨wsw, 5, 2, 7, {group := lg, sender := ownSerial + 1}, {echoSeq := 7}, {}, {}, {handle := 6}, 5, 6, 7, by decide +kernel, by decide +kernel, by decide +kernel, by decide +kernel, Nat.succ_ne_self _⟩

theorem witness_LeatLinksComeUpAndSwap_11 :
    ∃ (s : State) (dt : Nat) (n : Fin 4),
      (linkMeasures s n = true) :=
  ⟨({wl {st := .up} with leat.respWait := [{link := 2}, {link := 1}]}), 5, 2, by decide +kernel⟩

theorem witness_LeatLinksComeUpAndSwap_12 :
    ∃ (s : State) (dt : Nat) (n : Fin 4),
      (linkMeasures s n = true) ∧
      ((s.leat.link[n]).swapping = false) ∧
      ((s.leat.link[n]).spareOk = true) ∧
      (spareRetired s n = false) :=
  ⟨(wl {st := .up, spareOk := true}), 5, 2, by decide +kernel⟩

theorem witness_LeatLinksComeUpAndSwap_13 :
    ∃ (s : State) (dt : Nat) (n : Fin 4),
      ((s.leat.link[n]).swapping = true ∨ spareRetired s n = true) :=
  ⟨(wl {st := .measuring, swapping := true}), 5, 2, (Or.inl (by decide +kernel))⟩

theorem witness_LeatLinksComeUpAndSwap_14 :
    ∃ (s : State) (dt : Nat) (n : Fin 4),
      (linkMeasures s n = true) ∧
      ((s.leat.link[n]).swapping = false) ∧
      ((s.leat.link[n]).spareOk = false) :=
  ⟨(wl {st := .measuring, spareOk := false, pairS := true}), 5, 2, by decide +kernel⟩

theorem witness_LeatLinksComeUpAndSwap_15 :
    ∃ (s : State) (dt : Nat) (n : Fin 4),
      ((s.leat.link[n]).swapping = true) :=
  ⟨(wl {st := .measuring, swapping := true, pairS := true}), 5, 2, by decide +kernel⟩

theorem witness_LeatLinksComeUpAndSwap_16 :
    ∃ (s : State) (dt : Nat) (n : Fin 4),
      (linkTalks s n = true) ∧
      ((s.leat.link[n]).swapping = false) ∧
      (spareRetired s n = false) :=
  ⟨(wl {st := .hello, pairS := true}), 5, 2, by decide +kernel⟩

theorem witness_LeatLinksComeUpAndSwap_17 :
    ∃ (s : State) (dt : Nat) (n : Fin 4) (r : Nat),
      (linkMeasures s n = true) :=
  ⟨(wl {st := .measuring, pairS := true}), 5, 2, 77, by decide +kernel⟩

theorem witness_LeatLinksComeUpAndSwap_18 :
    ∃ (s : State) (dt : Nat) (n : Fin 4),
      (linkMeasures s n = true) :=
  ⟨(wl {st := .measuring, pairS := true}), 5, 2, by decide +kernel⟩

theorem witness_LeatLinksComeUpAndSwap_19 :
    ∃ (s : State) (dt : Nat) (n : Fin 4),
      (linkMeasures s n = true) :=
  ⟨(wl {st := .measuring, pairS := true}), 5, 2, by decide +kernel⟩

def stp (s : State) : Units := leatStamp (begin 5 s) 2 7777

theorem witness_LeatLinksCarryTime_1 :
    ∃ (s : State) (dt : Nat) (n : Fin 4) (refine t4 : Units) (f : TimeFrame),
      (serving s = true) ∧
      (linkMeasures s n = true) ∧
      ((s.leat.link[n]).swapping = false) ∧
      (t4 = leatStamp (begin dt s) n refine) ∧
      (exchangeOf (begin dt s) n f t4 = none) :=
  ⟨(wl {st := .up, held := true}), 5, 2, 7777, (stp w0), {echoSeq := 0xFFFF}, by decide +kernel⟩

def wlp (l : LeatLink) : State := {wl l with gov.sel := some 9, leat.waveLast := 5, leat.parentHeld := true}

def we (st : LeatState) : State := wl {st := st, departures := [{seq := 4, tx := 555, epoch := w0.tb.stepCount}], exchanges := 31}

def tf : TimeFrame := {echoSeq := 4, txTime := 7777, echoRx := 333, rootBudgetUs := 10^9, waveValid := true, rootId := 5, parentId := 5}

theorem witness_LeatLinksCarryTime_2 :
    ∃ (s : State) (dt : Nat) (n : Fin 4) (refine t4 : Units) (f : TimeFrame) (e : Exchange),
      (serving s = true) ∧
      (linkMeasures s n = true) ∧
      ((s.leat.link[n]).swapping = false) ∧
      (t4 = leatStamp (begin dt s) n refine) ∧
      (exchangeOf (begin dt s) n f t4 = some e) :=
  ⟨(we .up), 5, 2, 7777, (stp w0), tf, ((exchangeOf (begin 5 (we .up)) 2 tf (stp w0)).getD ⟨0,0,false,false⟩), by decide +kernel⟩

theorem witness_LeatLinksCarryTime_3 :
    ∃ (s : State) (dt : Nat) (n : Fin 4) (refine t1 : Units) (f : TimeFrame),
      (serving s = true) ∧
      ((s.leat.link[n]).st = .measuring) ∧
      ((s.leat.link[n]).swapping = false) ∧
      ((s.leat.link[n]).departures = [{ seq := f.echoSeq, tx := t1, epoch := s.tb.stepCount }]) ∧
      (f.echoSeq < 0xFFFF) ∧
      ((s.leat.link[n]).rx = none) ∧
      ((s.refs[leatSlot n]).y = 0) ∧
      ((s.leat.link[n]).exchanges = 31) ∧
      ((s.leat.link[n]).dj = []) :=
  ⟨(wl {st := .measuring, departures := [{seq := 4, tx := 555, epoch := w0.tb.stepCount}], exchanges := 31}), 5, 2, 7, 555, {echoSeq := 4, txTime := 7777, echoRx := 333}, by decide +kernel⟩

def wl3 (s : State) : State := {s with leat.link := s.leat.link.set 3 {st := .remeasure}}

theorem witness_LeatLinksCarryTime_4 :
    ∃ (s : State) (dt : Nat) (grid : List Units),
      (serving s = true) ∧
      (parentLink s = none) :=
  ⟨(wl3 (wl {st := .measuring, departures := [{seq := 4, tx := 555, epoch := w0.tb.stepCount}]})), 5, [1,2,3,4], by decide +kernel⟩

def wlf (s : State) : State := {s with gov.sel := some 9, leat.forward := some (12345678, 70000, true)}

theorem witness_LeatLinksCarryTime_5 :
    ∃ (s : State) (dt : Nat) (grid : List Units) (p : Fin 4) (trx : Units) (w : Nat) (h : Bool),
      (serving s = true) ∧
      (parentLink s = some p) ∧
      (s.leat.forward = some (trx, w, h)) :=
  ⟨(wl3 (wlf (wl {st := .up, accRx := 99}))), 5, [1,2,3,4], 2, 12345678, 70000, true, by decide +kernel⟩

theorem witness_LeatLinksCarryTime_6 :
    ∃ (s : State) (dt : Nat) (grid : List Units) (p : Fin 4),
      (serving s = true) ∧
      (parentLink s = some p) ∧
      (s.leat.parentHeld = false) :=
  ⟨(wl3 (wlf (wl {st := .up}))), 5, [1,2,3,4], 2, by decide +kernel⟩

theorem witness_LeatLinksCarryTime_7 :
    ∃ (s : State) (dt : Nat) (grid : List Units),
      (serving s = true) ∧
      (s.leat.parentHeld = true) :=
  ⟨({wl3 (wl {st := .up}) with leat.parentHeld := true}), 5, [1,2,3,4], by decide +kernel⟩

theorem witness_LeatLinksCarryTime_8 :
    ∃ (s : State) (dt : Nat) (grid : List Units),
      (serving s = false) :=
  ⟨({wlf (wl {st := .up}) with leat.parentHeld := true, pwr.mode := .safe}), 5, [1,2,3,4], by decide +kernel⟩

theorem witness_LeatLinksCarryTime_9 :
    ∃ (s : State) (dt : Nat) (n : Fin 4),
      ((s.leat.link[n]).st = .up) ∧
      (linkHeld s n = false) :=
  ⟨(wl {st := .up, waveAt := some 88, rx := some ({}, 6, false)}), 5, 2, by decide +kernel⟩

theorem witness_LeatLinksCarryTime_10 :
    ∃ (s : State) (dt : Nat) (n : Fin 4),
      (serving s = true) ∧
      (linkMeasures s n = true) ∧
      ((s.leat.link[n]).held = false) :=
  ⟨(wl {st := .up, waveAt := some 88, rx := some ({}, 6, false)}), 5, 2, by decide +kernel⟩

theorem witness_LeatLinksCarryTime_11 :
    ∃ (s : State) (dt : Nat) (n : Fin 4),
      ((s.leat.link[n]).held = true) ∧
      ((s.leat.link[n]).st = .up) :=
  ⟨(wlf (wl {st := .up, held := true})), 5, 2, by decide +kernel⟩

theorem witness_LeatLinksCarryTime_12 :
    ∃ (s : State) (dt : Nat) (n : Fin 4),
      ((s.leat.link[n]).watch.back = true) ∧
      ((s.leat.link[n]).watch.pre.isSome = true) ∧
      ((s.refs[leatSlot n]).st = .quarantined) :=
  ⟨({wl {st := .up, watch := {back := true, pre := some (5,6)}} with refs := w0.refs.set 9 {st := .quarantined}}), 5, 2, by decide +kernel⟩

theorem witness_LeatLinksLendCapacity_1 :
    ∃ (s : State) (dt : Nat) (n : Fin 4),
      (serving s = true) ∧
      (linkCarries s n = true) ∧
      ((s.leat.link[n]).spillReturn ≠ 0 ∨ (s.leat.link[n]).respReturn ≠ 0) ∧
      ((s.leat.link[n]).txQ = []) ∧
      ((s.leat.link[n]).lineEnd ≤ (begin dt s).clk) :=
  ⟨(wl {st := .up, spillReturn := 55}), 5, 2, by decide +kernel⟩

theorem witness_LeatLinksLendCapacity_2 :
    ∃ (s : State) (dt : Nat) (n : Fin 4),
      (serving s = true) ∧
      (linkCarries s n = true) ∧
      ((s.leat.link[n]).spillReturn ≠ 0 ∨ (s.leat.link[n]).respReturn ≠ 0) ∧
      ((begin dt s).clk < (s.leat.link[n]).lineEnd) :=
  ⟨(wl {st := .up, spillReturn := 55, lineEnd := 10^18, txQ := [{prio := 3, type := 4, bytes := 5, what := .leatSwap 2},{prio := 1, type := 4, bytes := 5, what := .leatSwap 1}]}), 5, 2, by decide +kernel⟩

theorem witness_LeatLinksLendCapacity_3 :
    ∃ (s : State) (dt : Nat) (n : Fin 4) (a b r : Nat),
      (serving s = true) ∧
      (linkMeasures s n = true) ∧
      ((s.leat.link[n]).swapping = false) ∧
      ((∀ w ∈ s.leat.respWait, w.link ≠ n)) ∧
      (r < 65536) :=
  ⟨(wl {st := .up, spillReturn := 55, spillCredit := 32000, bucket := {level := 10^30}}), 5, 2, 1000, 2000, 50, by decide +kernel⟩

theorem witness_LeatLinksLendCapacity_4 :
    ∃ (s : State) (dt : Nat) (n : Fin 4) (a b r : Nat) (w : RespWait),
      (serving s = true) ∧
      (linkMeasures s n = true) ∧
      ((s.leat.link[n]).swapping = false) ∧
      (s.leat.respWait = [w]) ∧
      (w.link = n) ∧
      (roundUpTo 8 w.frame.len ≤ min 32768 ((s.leat.link[n]).respCredit + b)) ∧
      ((s.leat.link[n]).txQ = []) ∧
      ((s.leat.link[n]).lineEnd ≤ (begin dt s).clk) :=
  ⟨{wl {st := .up} with leat.respWait := [{link := 2, frame := {len := 100}}]}, 5, 2, 1000, 2000, 50, {link := 2, frame := {len := 100}}, by decide +kernel⟩

theorem witness_LeatLinksLendCapacity_5 :
    ∃ (s : State) (dt : Nat) (n : Fin 4) (f : TelemFrame),
      (serving s = true) ∧
      (linkMeasures s n = true) ∧
      ((s.leat.link[n]).swapping = false) :=
  ⟨(wl {st := .up, spillReturn := 55}), 5, 2, {headroom := 9, mode := 7}, by decide +kernel⟩

theorem witness_LeatLinksLendCapacity_6 :
    ∃ (s : State) (dt : Nat) (n : Fin 4) (refine : Units) (f : SpillFrame),
      (serving s = true) ∧
      (linkCarries s n = true) ∧
      ((s.leat.link[n]).swapping = false) ∧
      (spillServed s f.req = false) ∧
      ((∀ w ∈ s.leat.respWait, w.link ≠ n)) ∧
      (32 ≤ (s.leat.link[n]).respCredit) ∧
      ((s.leat.link[n]).txQ = []) ∧
      ((s.leat.link[n]).lineEnd ≤ (begin dt s).clk) :=
  ⟨(wl {st := .up, spillReturn := 55, respCredit := 88}), 5, 2, 9, {handle := 9, len := 41}, by decide +kernel⟩

def sip : Nat := addrNat false ([1,2,3,4] ++ zeroBytes 12)

def fu : Frame := {ip := some {src := 5, proto := 17, dst := sip}, udp := some {dstPort := 123}, payload := [0x23#8] ++ zeroBytes 47}

def wsp : State := {wl {st := .up} with cfg.b0A.addr := [(0, {addrIp := [1,2,3,4] ++ zeroBytes 12})], cfg.b0C.ntp.ntpEn := true}

theorem witness_LeatLinksLendCapacity_7 :
    ∃ (s : State) (dt : Nat) (n : Fin 4) (refine : Units) (f : SpillFrame) (c : Cls) (b : Nat),
      (serving s = true) ∧
      (linkMeasures s n = true) ∧
      ((s.leat.link[n]).swapping = false) ∧
      (spillServed s f.req = true) ∧
      (isPtpFrame f.req = false) ∧
      (f.req.ip.isSome = true) ∧
      ((f.req.udp.map (·.dstPort)) = some 123) ∧
      (sluiceRefuses s f.req.payload = none) ∧
      ((accessDecision s f.port f.req (ntpKind f.req == .nts)).1 = true) ∧
      (classify s f.port (ntpKind f.req) f.req = (c, b)) ∧
      (c ≠ .prec) ∧
      (s.cfg.b0E.weir.spillEn = false) ∧
      (classMeter s c = none) ∧
      (((portCfg s f.port).maxFrame + 255) / 256 + s.cfg.b0A.hopper.precReserve ≤ hopperFree s) :=
  ⟨wsp, 5, 2, 9999, {handle := 9, len := 41, req := fu, port := 3, t2 := 555}, .general, 0, by decide +kernel⟩

def e6 : SpillPending := {handle := 6, link := 2, job := {cells := 1, cls := .assured}}

def wr := {wl {st := .up} with core.pendingSpills := [{handle := 5, link := 2}, e6], core.cellsUsed := 9}

theorem witness_LeatLinksLendCapacity_8 :
    ∃ (s : State) (dt : Nat) (n : Fin 4) (f : RespFrame) (e : SpillPending),
      (serving s = true) ∧
      (linkMeasures s n = true) ∧
      ((s.leat.link[n]).swapping = false) ∧
      (s.core.pendingSpills.find? (fun x => x.handle == f.handle && x.link == n) = some e) :=
  ⟨wr, 5, 2, {handle := 6, payload := zeroBytes 48}, e6, by decide +kernel⟩

theorem witness_LeatLinksLendCapacity_9 :
    ∃ (s : State) (dt : Nat) (n : Fin 4) (f : RespFrame),
      (serving s = true) ∧
      (linkMeasures s n = true) ∧
      ((s.leat.link[n]).swapping = false) ∧
      (s.core.pendingSpills.find? (fun x => x.handle == f.handle && x.link == n) = none) :=
  ⟨(wl {st := .up}), 5, 2, {handle := 6, refused := true}, by decide +kernel⟩

theorem witness_LeatLinksLendCapacity_10 :
    ∃ (s : State) (dt : Nat) (n : Fin 4) (w : LeatBad),
      (linkTalks s n = true) :=
  ⟨(wl {st := .up}), 5, 2, .crc, by decide +kernel⟩

theorem witness_LeatLinksLendCapacity_11 :
    ∃ (s : State) (dt : Nat) (n : Fin 4) (w : LeatBad),
      (linkTalks s n = false) :=
  ⟨(wl {st := .down}), 5, 2, .crc, by decide +kernel⟩

end W26

namespace W28

def okBin (sh : Nat) (v : Int) : Bool :=
  let w := v.natAbs / 2^sh
  let bin := tallyBin sh v
  (if w < 4 then bin == w else let e := w.log2; bin == min 63 (4*(e-1) + w/2^(e-2)%4)) &&
  (List.range 59).all (fun b' => let b := b'+4; (bin == b) == decide ((4 + b % 4) * 2 ^ (b / 4 - 1) ≤ w ∧ w < (4 + (b + 1) % 4) * 2 ^ ((b + 1) / 4 - 1))) &&
  ((bin == 63) == decide ((4 + 63 % 4) * 2 ^ (63 / 4 - 1) ≤ w)) && (w < 2^17 || bin == 63)

theorem witness_CompactStampsHoldTheNanoseconds_1 :
    ∃ (t : Nat) (d : Bool),
      (t < 2 ^ 47 * unitsPerSec) :=
  ⟨(123456789 * unitsPerSec + 888888888888), true, by decide +kernel⟩

end W28

/-! ## Witnesses written by hand: the invariants -/

theorem witness_StepRunsTheFrontCommand_2 : ∃ s : State, s.pending = [] := ⟨State.reset, rfl⟩

theorem witness_OtpBitsAreNeverClearedAndLockHolds_1 :
    ∃ (c : Instr) (s t : State), exec c s = .next t ∧ otpLocked s.otp = true ∧ s.otp.programming = none :=
  ⟨.otpProgram 5 0 1, { w0 with otp := { w0.otp with word := w0.otp.word.set 16 4 } }, _, rfl, by decide +kernel, rfl⟩

theorem witness_LockExcludesProgramming_1 :
    ∃ s t : State, (otpLocked s.otp = true → s.otp.programming = none) ∧ s.otp.busy = s.otp.programming.isSome ∧ step s = .next t :=
  ⟨w0, _, by decide +kernel, rfl, rfl⟩

theorem witness_WindowReadsOnlyClearAndLatch_1 :
    ∃ (s : State) (c : Instr), c ∈ [Instr.windowRead 5 0x04000E 2 true, .windowReadId 5 2] ∧ s.pwr.mode = .retain :=
  ⟨State.reset, .windowRead 5 0x04000E 2 true, by decide, rfl⟩

theorem witness_StepsKeepTheReportInForm_1 : ∃ s t : State, Report.wf s.rep = true ∧ step s = .next t :=
  ⟨w0, _, by decide +kernel, rfl⟩

theorem witness_StepsKeepTheGarnerInForm_1 : ∃ s t : State, Memory.wf s.garner = true ∧ step s = .next t :=
  ⟨{ w0 with garner := { w0.garner with rate := [(7, { tat := 5 })] } }, _, by decide +kernel, rfl⟩

theorem witness_OnlyTheGovernorWritesTheTimebase_1 : ∃ s t : State, exec (.msHung 5 3) s = .next t := ⟨w0, _, rfl⟩

theorem witness_ModesChangeOnlyAsTheTableAllows_1 :
    ∃ s t : State, exec (.retainExit 0 []) s = .next t ∧ t.pwr.mode ≠ s.pwr.mode :=
  ⟨State.reset, _, rfl, by decide +kernel⟩

/-! ## Ill-formed commands, one for each check -/

theorem test_ill_formed_repeated_item : Instr.wellFormed (.retainExit 0 [(.model, true), (.model, true)]) = false := by decide

theorem test_ill_formed_repeated_item_at_release : Instr.wellFormed (.resetRelease 5 0 [(.maps, false), (.maps, false)]) = false := by decide

theorem test_ill_formed_pd0_has_no_power_good : Instr.wellFormed (.domainPowerGood 5 0 { pd := 0 }) = false := by decide

theorem test_ill_formed_jedec_of_25_bits : Instr.wellFormed (.nvmWakeDone 5 (2 ^ 24) 0 (zeroBytes 64) ⟨zeroBytes 64, zeroBytes 64⟩) = false := by decide

theorem test_ill_formed_short_header : Instr.wellFormed (.nvmWakeDone 5 0 0 (zeroBytes 63) ⟨zeroBytes 64, zeroBytes 64⟩) = false := by decide

theorem test_ill_formed_trailer_of_one_byte : Instr.wellFormed (.verificationPassDone 5 (zeroBytes 64) [] (zeroBytes 1)) = false := by decide

theorem test_ill_formed_record_without_header : Instr.wellFormed (.parseRecord 5 (zeroBytes 7)) = false := by decide

theorem test_ill_formed_end_record_without_header : Instr.wellFormed (.sectionEndRecord 5 (zeroBytes 7)) = false := by decide

theorem test_ill_formed_vout_of_17_bits : Instr.wellFormed (.applyTick { voutMv := some (2 ^ 16) }) = false := by decide

theorem test_ill_formed_otp_word_256 : Instr.wellFormed (.otpProgram 5 256 0) = false := by decide

theorem test_ill_formed_otp_data_of_33_bits : Instr.wellFormed (.otpProgram 5 0 (2 ^ 32)) = false := by decide

theorem test_ill_formed_otp_read_word_256 : Instr.wellFormed (.otpRead 5 256) = false := by decide

theorem test_ill_formed_no_words : Instr.wellFormed (.windowRead 5 0 0 false) = false := by decide

theorem test_ill_formed_no_identity_words : Instr.wellFormed (.windowReadId 5 0) = false := by decide

theorem test_ill_formed_rates_of_39_millstones : Instr.wellFormed (.governorTick (List.replicate 39 0) none true) = false := by decide

theorem test_ill_formed_rate_of_17_bits : Instr.wellFormed (.governorTick ((2 ^ 16) :: List.replicate 39 0) none true) = false := by decide

theorem test_ill_formed_tune_of_25_bits : Instr.wellFormed (.adpllWindowEnd 5 0 0 0 (2 ^ 24)) = false := by decide

theorem test_ill_formed_slot_against_itself : Instr.wellFormed (.refDisagree 5 3 3) = false := by decide

theorem test_ill_formed_integrity_cause_3 : Instr.wellFormed (.integrityFailure 5 3) = false := by decide

theorem test_ill_formed_ssm_of_5_bits : Instr.wellFormed (.esmcRx 5 0 16 none) = false := by decide

theorem test_ill_formed_holdover_cause_0 : Instr.wellFormed (.hoIntegrityFailure 5 0) = false := by decide

theorem test_ill_formed_slot_corroborates_itself : Instr.wellFormed (.returnCorroborated 5 2 2) = false := by decide

theorem test_ill_formed_prn_33 : Instr.wellFormed (.satAcquired 5 0 { prn := 33 }) = false := by decide

theorem test_ill_formed_subframe_6 : Instr.wellFormed (.navWord 5 0 0 true 6 1 0 none) = false := by decide

theorem test_ill_formed_word_0 : Instr.wellFormed (.navWord 5 0 0 true 1 0 0 none) = false := by decide

theorem test_ill_formed_tow_of_18_bits : Instr.wellFormed (.navWord 5 0 0 true 1 1 (2 ^ 17) none) = false := by decide

theorem test_ill_formed_tow_past_the_week : Instr.wellFormed (.timingSolution 5 0 604800000 [] {}) = false := by decide

theorem test_ill_formed_leap_day_8 : Instr.wellFormed (.navWord 5 0 0 true 4 9 0 (some { dn := 8 })) = false := by decide

theorem test_ill_formed_leap_week : Instr.wellFormed (.navWord 5 0 0 true 4 9 0 (some { dn := 1, wnLsf := 256 })) = false := by decide

theorem test_ill_formed_hot_prn_0 : Instr.wellFormed (.gnssStart 5 { hotSats := [0], almanacFresh := true, posWithin100km := true }) = false := by decide

theorem test_ill_formed_elevation_of_91 :
    Instr.wellFormed (.timingSolution 5 0 0 [] { elevs := [(3, 91)] }) = false := by decide

theorem test_ill_formed_second_header : Instr.wellFormed (.nvmWakeDone 5 0 0 (zeroBytes 64) ⟨zeroBytes 64, zeroBytes 8⟩) = false := by decide

theorem test_ill_formed_visit_of_itself : Instr.wellFormed (.shadowVisit 5 4 4 0 0) = false := by decide

theorem test_ill_formed_wide_ether_type : Instr.wellFormed (.frameRefused 5 0 { etherType := 2 ^ 16 }) = false := by decide

theorem test_ill_formed_wide_destination : Instr.wellFormed (.ntpRequest 5 0 {} { dst := 2 ^ 48 }) = false := by decide

theorem test_ill_formed_wide_priority : Instr.wellFormed (.arpRequest 5 0 { tags := [(0x8100, 8, 1)] }) = false := by decide

theorem test_ill_formed_wide_address : Instr.wellFormed (.neighbourSolicitation 5 0 { ip := some { src := 2 ^ 128 } }) = false := by decide

theorem test_ill_formed_wide_port : Instr.wellFormed (.echoRequest 5 0 { udp := some { dstPort := 2 ^ 16 } }) = false := by decide

theorem test_ill_formed_quanta_of_17_bits : Instr.wellFormed (.pauseFrame 5 0 (2 ^ 16) true) = false := by decide

theorem test_ill_formed_seven_priorities : Instr.wellFormed (.pfcFrame 5 0 { enable := 0, quanta := List.replicate 7 0 } true) = false := by decide

theorem test_ill_formed_handle_of_17_bits : Instr.wellFormed (.spillTimeout 5 (2 ^ 16)) = false := by decide

theorem test_ill_formed_message_type_16 : Instr.wellFormed (.delayReq 5 0 {} { ptp := some { messageType := 16 } }) = false := by decide

theorem test_ill_formed_wide_clock_identity : Instr.wellFormed (.signalingRequest 5 0 {} { ptp := some { clockId := 2 ^ 64 } }) = false := by decide

theorem test_ill_formed_wide_source : Instr.wellFormed (.ptpMessageDropped 5 0 { src := 2 ^ 48 }) = false := by decide

theorem test_ill_formed_wide_sequence : Instr.wellFormed (.clientAnnounceRx 5 0 0 { seqId := 2 ^ 16 }) = false := by decide

theorem test_ill_formed_wide_domain : Instr.wellFormed (.clientSyncRx 5 0 0 {} { domain := 256 }) = false := by decide

theorem test_ill_formed_wide_sdo : Instr.wellFormed (.clientFollowUpRx 5 0 0 { majorSdoId := 16 }) = false := by decide

theorem test_ill_formed_wide_port_number : Instr.wellFormed (.clientDelayRespRx 5 0 0 { portNumber := 2 ^ 16 }) = false := by decide

theorem test_ill_formed_client_signaling_type_16 : Instr.wellFormed (.clientSignalingRx 5 0 0 { messageType := 16 }) = false := by decide

theorem test_ill_formed_hello_port_4 : Instr.wellFormed (.leatHelloRx 5 0 { port := 4 }) = false := by decide

theorem test_ill_formed_wide_wave : Instr.wellFormed (.leatTimeRx 5 0 0 { wave := 2 ^ 16 }) = false := by decide

theorem test_ill_formed_three_grid_points : Instr.wellFormed (.leatWaveLaunch 5 [0, 0, 0]) = false := by decide

theorem test_ill_formed_no_grid_to_forward : Instr.wellFormed (.leatWaveForward 5 []) = false := by decide

theorem test_ill_formed_five_grid_points : Instr.wellFormed (.leatNoWave 5 [0, 0, 0, 0, 0]) = false := by decide

theorem test_ill_formed_wide_rate : Instr.wellFormed (.leatCreditRx 5 0 0 0 (2 ^ 16)) = false := by decide

theorem test_ill_formed_slot_16 : Instr.wellFormed (.leatTelemRx 5 0 { selSlot := 16 }) = false := by decide

theorem test_ill_formed_wide_spill_handle : Instr.wellFormed (.leatSpillRx 5 0 0 { handle := 2 ^ 16 }) = false := by decide

theorem test_ill_formed_resp_kind_3 : Instr.wellFormed (.leatRespRx 5 0 { kind := 3 }) = false := by decide

theorem test_ill_formed_no_proxy_grid : Instr.wellFormed (.leatProxyWave 5 []) = false := by decide

theorem test_ill_formed_millstone_40 : Instr.wellFormed (.wearCheck 5 0 [{ unit := 40, measured := 0 }]) = false := by decide

theorem test_ill_formed_bank_52 : Instr.wellFormed (.wearCheck 5 1 [{ unit := 52, measured := 0 }]) = false := by decide

theorem test_ill_formed_rate_record_past_the_garner : Instr.wellFormed (.uncorrectableError 5 (.rateRecord (2 ^ 22))) = false := by decide

theorem test_ill_formed_grant_record_past_the_garner : Instr.wellFormed (.uncorrectableError 5 (.grantRecord (2 ^ 20))) = false := by decide

theorem test_ill_formed_seventeen_beats : Instr.wellFormed (.garnerMigrationBeat 5 17 []) = false := by decide

theorem test_ill_formed_wide_reading : Instr.wellFormed (.avsVoutCheck 5 (some (2 ^ 16))) = false := by decide

theorem test_ill_formed_wide_status : Instr.wellFormed (.avsAlert 5 { status := some (2 ^ 16) }) = false := by decide

theorem test_ill_formed_wide_mode : Instr.wellFormed (.avsTakeoverRetry 5 { voutMode := some 256 }) = false := by decide

theorem test_ill_formed_seven_rails : Instr.wellFormed (.railMonitorSample 5 (List.replicate 7 0) 0) = false := by decide

theorem test_ill_formed_wide_rail : Instr.wellFormed (.railOutOfRange 5 0 (2 ^ 16)) = false := by decide

theorem test_commands_of_the_table_are_well_formed :
    ([.powerOn true, .retainExit 32768 [(.model, true)], .windowRead 5 0x10117F 6 false, .otpProgram 5 16 3,
      .wearCheck 5 0 [{ unit := 39, measured := 0 }], .garnerMigrationBeat 5 16 [], .satAcquired 5 31 { prn := 32 }] : List Instr).all
      Instr.wellFormed = true := by decide

/-! ## Values the spec works out -/

/-- R34: the check value of CRC-32C over "123456789". -/
theorem test_crc32c_check_value : crc32c [0x31, 0x32, 0x33, 0x34, 0x35, 0x36, 0x37, 0x38, 0x39] = 0xE3069283 := by decide +kernel

/-- R229: the check value of the CRC-8 over "123456789". -/
theorem test_crc8_check_value : crc8 [0x31, 0x32, 0x33, 0x34, 0x35, 0x36, 0x37, 0x38, 0x39] = 0xF4#8 := by decide +kernel

/-- R68, the worked example of 03_timescale.md: `MARKER_C32` of TAI second 1,800,000,001 is 3,478,047,232. -/
theorem test_marker_compact_stamp : compactOf (stampOf (1800000001 * unitsPerSec) false) = 3478047232 := by decide +kernel

/-- R303, the worked example of 12_ntp_and_nts.md: T2 = 1,800,000,050.25 s at an offset of 37 s. -/
theorem test_ntp_time_of_t2 : ntpTime { offset := 37 } (1800000050 * unitsPerSec + unitsPerSec / 4) = 0xEEF4508D40000000 := by decide +kernel

/-- R303, the same example: T3 = T2 + 959.150 ns. -/
theorem test_ntp_time_of_t3 :
    ntpTime { offset := 37 } (1800000050 * unitsPerSec + unitsPerSec / 4 + 959150 * unitsPerPs) = 0xEEF4508D40001018 := by
  decide +kernel

/-- R308, the same chapter: 204 ns and 103 ns both read 1. -/
theorem test_root_dispersion_units : ntpShort 204 = 1 ∧ ntpShort 103 = 1 ∧ ntpShort 1100 = 1 := by decide +kernel

/-- R428, the worked example of 16_telemetry_and_monitors.md: with a shift of 10, bins 32 to 35 start at w = 512, 640, 768 and 896. -/
theorem test_tally_bin_edges :
    (tallyBin 10 (511 * 1024), tallyBin 10 (512 * 1024), tallyBin 10 (640 * 1024 - 1), tallyBin 10 (640 * 1024), tallyBin 10 (768 * 1024),
      tallyBin 10 (896 * 1024), tallyBin 10 (1024 * 1024)) = (31, 32, 32, 33, 34, 35, 36) := by decide +kernel

/-- R276, the worked example of 11_millstone_core_and_arbitration.md: grant 268,844 lies in logical bank 36. -/
theorem test_grant_bank : grantBank 268844 = 36 := by decide +kernel

/-- R422: the first two words of the identity block. -/
theorem test_identity_words : isNextWith (step { w0 with pending := [.windowReadId 5 3] }) fun t =>
    t.out == [.window (misoBytes [0x47480800#32, 0xA0#32, 0x47480800#32])] := by decide +kernel

/-- R62, R63: outside SAFE an OTP command is refused. -/
theorem test_otp_refused_in_locked : isNextWith (step { w0 with pending := [.otpLock 5] }) fun t =>
    t.otp.word == w0.otp.word && t.otp.refused := by decide +kernel

/-- R21: RETAIN is left for LOAD. -/
theorem test_retain_exit_enters_load : isNextWith (step { State.reset with pending := [.retainExit 0 []] }) fun t =>
    t.pwr.mode == .load := by decide +kernel

/-- With no command waiting, the block idles. -/
theorem test_idle : step State.reset = .next State.reset := rfl

/-- No row of the table gives bits, so no word spells a command. -/
theorem test_no_word_spells_a_command : decodeTableWord 32 0x12345678 = none := rfl

end Sys2Proof.Tests
end

section
/-!
SUPPORT. The report keeps its form (O55): every note does, and a command touches the report through its notes alone.
-/

namespace Sys2Proof.Machine

/-! The store of counters. -/

/-- A counter that does not read zero stands in the store. -/
theorem mem_of_cntGet_ne_zero {a : Nat} {l : List (Nat × Nat)} (h : cntGet a l ≠ 0) : (a, cntGet a l) ∈ l := by
  induction l with
  | nil => exact absurd rfl h
  | cons b r ih =>
    obtain ⟨b, v⟩ := b
    by_cases hab : a = b
    · simp [cntGet, hab]
    · simp only [cntGet, if_neg hab] at h ⊢
      exact List.mem_cons_of_mem _ (ih h)

/-- No counter of a canonical store reads more than its field holds. -/
theorem cntGet_le_rcMax (a : Nat) {l : List (Nat × Nat)} (h : counterWf l = true) : cntGet a l ≤ rcMax a := by
  by_cases h0 : cntGet a l = 0
  · exact h0 ▸ Nat.zero_le _
  · simp only [counterWf, Bool.and_eq_true, List.all_eq_true, decide_eq_true_eq] at h
    exact (h.2 _ (mem_of_cntGet_ne_zero h0)).2

/-- Counters taken out leave the store canonical. -/
theorem counterWf_filter (p : Nat × Nat → Bool) {l : List (Nat × Nat)} (h : counterWf l = true) : counterWf (l.filter p) = true := by
  simp only [counterWf, Bool.and_eq_true, List.all_eq_true] at h ⊢
  exact ⟨rising_filter p h.1, fun e he => h.2 e (List.mem_filter.1 he).1⟩

/-! What a note does to the report. -/

/-- Every note leaves the counters canonical. -/
theorem applyNote_counterWf (n : Note) {r : Report} (h : counterWf r.cnt = true) : counterWf (applyNote n r).cnt = true := by
  cases n with
  | entry e => rwa [applyNote_entry_cnt]
  | count a k => exact cntSet_wf _ _ h (Nat.min_le_left _ _)
  | taken a k => exact cntSet_wf _ _ h (Nat.le_trans (Nat.sub_le _ _) (cntGet_le_rcMax a h))
  | clearBlock b => exact counterWf_filter _ h
  | clearRange lo hi => exact counterWf_filter _ h
  | attnTaken | reported | clearRing => exact h

theorem applyNotes_counterWf (ns : List Note) {r : Report} (h : counterWf r.cnt = true) : counterWf (applyNotes ns r).cnt = true := by
  induction ns with
  | nil => exact h
  | cons n ns ih => exact applyNote_counterWf n ih

theorem Report.wf_iff (r : Report) : Report.wf r = true ↔ counterWf r.cnt = true ∧ r.ring.length ≤ 1024 ∧ r.evHead < 65536 ∧
    r.attnPending ≤ 0xFFFF ∧ r.attnLow = decide (0 < r.attnPending) := by
  simp [Report.wf, and_assoc]

/-- An entry keeps the report in form: `EV_HEAD` wraps and `ATTN_PENDING` saturates (R423, R425). -/
theorem applyNote_entry_wf (e : EvEntry) {r : Report} (h : Report.wf r = true) : Report.wf (applyNote (.entry e) r) = true := by
  rw [Report.wf_iff] at h ⊢
  obtain ⟨hcnt, hring, hhead, hpending, hlow⟩ := h
  refine ⟨applyNote_counterWf _ hcnt, ?_⟩
  by_cases quiet : (e.marker || e.masked) = true
  · simp only [applyNote, if_pos quiet]
    exact ⟨List.length_take_le _ _, Nat.mod_lt _ (by decide), hpending, hlow⟩
  · simp only [applyNote, if_neg quiet]
    exact ⟨List.length_take_le _ _, Nat.mod_lt _ (by decide), Nat.min_le_left _ _, (decide_eq_true (by omega)).symm⟩

/-- A read of `ATTN_PENDING` keeps the report in form: `ATTN_N` is released exactly where nothing is left (R425). -/
theorem applyNote_attnTaken_wf (k : Nat) {r : Report} (h : Report.wf r = true) : Report.wf (applyNote (.attnTaken k) r) = true := by
  rw [Report.wf_iff] at h ⊢
  obtain ⟨hcnt, hring, hhead, hpending, hlow⟩ := h
  have low : (r.attnLow && decide (0 < r.attnPending - k)) = decide (0 < r.attnPending - k) := by
    rw [hlow, ← Bool.decide_and, decide_eq_decide]
    omega
  exact ⟨hcnt, hring, hhead, Nat.le_trans (Nat.sub_le _ _) hpending, low⟩

/-- Every note keeps the report in form. -/
theorem applyNote_wf (n : Note) {r : Report} (h : Report.wf r = true) : Report.wf (applyNote n r) = true := by
  have counters := applyNote_counterWf n ((Report.wf_iff r).1 h).1
  cases n with
  | entry e => exact applyNote_entry_wf e h
  | attnTaken k => exact applyNote_attnTaken_wf k h
  | clearRing => exact (Report.wf_iff _).2 ⟨counters, by simp [applyNote]⟩
  | count | taken | reported | clearBlock | clearRange => exact (Report.wf_iff _).2 ⟨counters, ((Report.wf_iff r).1 h).2⟩

theorem applyNotes_wf (ns : List Note) {r : Report} (h : Report.wf r = true) : Report.wf (applyNotes ns r) = true := by
  induction ns with
  | nil => exact h
  | cons n ns ih => exact applyNote_wf n ih

/-! The forms in which a command answers. -/

/-- An outcome in one of the forms of Machine/Ops.lean: what the command may write beside its effect, and that it reports its notes. -/
inductive AnswerForm (s : State) : Host.Outcome State Fault Refusal → Prop
  | act (dt : Nat) (f : State → State) : AnswerForm s (act dt f s)
  | actPd0 (dt : Nat) (f : State → State) : AnswerForm s (actPd0 dt f s)
  | actTime (dt : Nat) (f : State → State) : AnswerForm s (actTime dt f s)
  | actOtp (dt : Nat) (f : State → State) : AnswerForm s (actOtp dt f s)
  | actPower (dt : Nat) (resets : State → Bool) (f : State → State) : AnswerForm s (actPower dt resets f s)

/-- Every command answers in one of the forms: those named in one that writes the time value, PD0 or the OTP, the others in `act`. -/
theorem exec_answerForm (c : Instr) (s : State) : AnswerForm s (exec c s) := by
  unfold exec
  cases c with
  | powerOn | retainEntry | warmReset | coldReset => exact .actPower _ _ _
  | retainExit | resetRelease | domainPowerGood | applyTick | secondMarker | governorTick => exact .actTime _ _
  | tapReset | otpProgram | otpProgramDone | otpRead | otpKcv | otpLock => exact .actOtp _ _
  | reload | pd0SupplyChangeover | rtcCrystalLoss | retentionHourlyWrite | adpllRetry | navWord | navFix | timingSolution
  | icCellSwap | vcCalibration | msDeposit | msHung | msFault | msDrained | eqSliceSwapped | wearCheck | uncorrectableError | katRun
  | probationKatSupply | spareInService | garnerMigrationBeat => exact .actPd0 _ _
  | _ => exact .act _ _

/-- An outcome in one of the forms is a next state: the queue is as it was, and the report has gained what was noted. -/
theorem AnswerForm.next {s : State} {o : Host.Outcome State Fault Refusal} (h : AnswerForm s o) :
    ∃ t, o = .next t ∧ t.pending = s.pending ∧ t.notes = [] ∧ ∃ ns, t.rep = applyNotes ns s.rep := by
  cases h <;> exact ⟨_, rfl, rfl, rfl, _, rfl⟩

/-- A step changes the report by notes alone. -/
theorem step_rep {s t : State} (h : step s = .next t) : ∃ ns, t.rep = applyNotes ns s.rep := by
  unfold step at h
  split at h
  · cases h
    exact ⟨[], rfl⟩
  · rename_i c rest _
    obtain ⟨u, hu, -, -, ns, hrep⟩ := (exec_answerForm c { s with pending := rest }).next
    obtain rfl : u = t := by rw [hu] at h; exact Host.Outcome.next.inj h
    exact ⟨ns, hrep⟩

/-- Settles O55: a step changes the report by notes alone, and every note keeps its form. -/
theorem stepsKeepTheReportInForm : Obligations.StepsKeepTheReportInForm := by
  intro s t hwf h
  obtain ⟨ns, hrep⟩ := step_rep h
  exact hrep ▸ applyNotes_wf ns hwf

end Sys2Proof.Machine
end

section
/-!
SUPPORT. The reads of the Window (O36): what one word read by itself puts out, latches and takes from the report, and from that what each
command of R418 to R421 and R425 answers.
-/

namespace Sys2Proof.Machine

/-! The terms an answer is stated in. -/

theorem Answers.imp {c : Instr} {s : State} {P Q : State → Prop} (h : Answers c s P) (hpq : ∀ t, P t → Q t) : Answers c s Q :=
  Exists.imp (fun t ht => ⟨ht.1, hpq t ht.2⟩) h

/-- A part named among those that may change, that did not change, need not be named. -/
theorem KeepsBut.of_same {p : Part} {l l' : List Part} {s t : State} (h : KeepsBut l s t) (hp : p.same s t)
    (hl : ∀ q ∈ l, q = p ∨ q ∈ l') : KeepsBut l' s t := by
  intro q hq
  by_cases hqp : q = p
  · exact hqp ▸ hp
  · exact h q fun hql => (hl q hql).elim hqp hq

/-- More parts may be named than changed. -/
theorem KeepsBut.mono {l l' : List Part} {s t : State} (h : KeepsBut l s t) (hl : ∀ q ∈ l, q ∈ l') : KeepsBut l' s t :=
  fun q hq => h q fun hql => hq (hl q hql)

/-- A command in `act` that has no effect lets the time pass. -/
theorem answers_act_idle {c : Instr} {s : State} {dt : Nat} {f : State → State} (hc : exec c s = act dt f s)
    (hf : f (begin dt s) = begin dt s) : Answers c s fun t => Changes dt s t [] [] := by
  refine ⟨_, hc.trans (act_next s dt f), ?_⟩
  rw [hf]
  refine ⟨fun p hp => ?_, rfl⟩
  cases p <;> simp_all [Part.same]

/-! The report as a read finds it: only the count of the time in DIRECT may have moved (R108). -/

theorem begin_report (dt : Nat) (s : State) : ∃ l, applyNotes (begin dt s).notes s.rep = { s.rep with cnt := l } := by
  rcases begin_notes s dt with h | ⟨k, h⟩ <;> rw [h] <;> exact ⟨_, rfl⟩

@[simp] theorem begin_report_attnPending (dt : Nat) (s : State) :
    (applyNotes (begin dt s).notes s.rep).attnPending = s.rep.attnPending := by
  obtain ⟨_, h⟩ := begin_report dt s
  rw [h]

@[simp] theorem begin_report_ring (dt : Nat) (s : State) : (applyNotes (begin dt s).notes s.rep).ring = s.rep.ring := by
  obtain ⟨_, h⟩ := begin_report dt s
  rw [h]

theorem begin_report_counter {a : Nat} (dt : Nat) (s : State) (h : a ≠ 0x040013) :
    cntGet a (applyNotes (begin dt s).notes s.rep).cnt = counter a s := by
  rcases begin_notes s dt with hn | ⟨k, hn⟩ <;> rw [hn]
  · rfl
  · exact cntGet_cntSet_ne _ _ h

@[simp] theorem settled_begin_rep (dt : Nat) (s : State) : (settled (begin dt s)).rep = applyNotes (begin dt s).notes s.rep := by
  simp [settled]

/-! The live words a read of the report's registers shows. -/

theorem liveWord_of_absentPort {s : State} {a : Nat} (h : absentPort s a = true) : liveWord s a = 0 := by simp [liveWord, h]

theorem liveWord_of_rcMax {s : State} {a : Nat} (hp : absentPort s a = false) (h : rcMax a ≠ 0) : liveWord s a = counter a s := by
  simp [liveWord, hp, h, counter]

theorem rcMax_attnPending : rcMax 0x100001 = 0 := by decide

theorem liveWord_attnPending (s : State) : liveWord s 0x100001 = s.rep.attnPending := by
  simp [liveWord, rcMax_attnPending, absentPort, portOfAddr, word10]

/-- Which ports there are is the configuration's alone, which the passing of time leaves. -/
@[simp] theorem absentPort_settled_begin (dt : Nat) (s : State) (a : Nat) : absentPort (settled (begin dt s)) a = absentPort s a := by
  simp [absentPort, portPresent, portMode, settled]

/-! The latches. -/

theorem getIndexed_cons {α : Type} (i : Nat) (e : Nat × α) (l : List (Nat × α)) :
    getIndexed i (e :: l) = if e.1 = i then some e.2 else getIndexed i l := by
  by_cases h : e.1 = i <;> simp [getIndexed, h]

theorem getIndexed_putIndexed_ne {α : Type} {i j : Nat} (h : j ≠ i) (x : α) (l : List (Nat × α)) :
    getIndexed j (putIndexed i x l) = getIndexed j l := by
  induction l with
  | nil => simp [putIndexed, getIndexed_cons, h.symm]
  | cons e r ih => grind [putIndexed, getIndexed_cons]

theorem getIndexed_filter_ne {α : Type} {i j : Nat} (h : j ≠ i) (l : List (Nat × α)) :
    getIndexed j (l.filter fun e => e.1 != i) = getIndexed j l := by
  induction l with
  | nil => rfl
  | cons e r ih => grind [getIndexed_cons]

theorem getIndexed_filter_self {α : Type} (i : Nat) (l : List (Nat × α)) : getIndexed i (l.filter fun e => e.1 != i) = none := by
  induction l with
  | nil => rfl
  | cons e r ih => grind [getIndexed_cons]

/-- Words put into the latches leave every other word's latch. -/
theorem getIndexed_foldl_putIndexed_of_not_mem {α : Type} (f : Nat → α) {b : Nat} {bs : List Nat} (hb : b ∉ bs)
    (l : List (Nat × α)) :
    getIndexed b (bs.foldl (fun l b => putIndexed b (f b) l) l) = getIndexed b l := by
  induction bs generalizing l with
  | nil => rfl
  | cons c bs ih =>
    obtain ⟨hbc, hbs⟩ := not_or.1 fun h => hb (List.mem_cons.2 h)
    exact (ih hbs _).trans (getIndexed_putIndexed_ne hbc _ l)

/-- The latches once every word of a list has been put into them. -/
theorem getIndexed_foldl_putIndexed {α : Type} (f : Nat → α) {b : Nat} {bs : List Nat} (hb : b ∈ bs) (l : List (Nat × α)) :
    getIndexed b (bs.foldl (fun l b => putIndexed b (f b) l) l) = some (f b) := by
  induction bs generalizing l with
  | nil => cases hb
  | cons c bs ih =>
    by_cases hbs : b ∈ bs
    · exact ih hbs _
    · obtain rfl : b = c := (List.mem_cons.1 hb).resolve_right hbs
      exact (getIndexed_foldl_putIndexed_of_not_mem f hbs _).trans (getIndexed_putIndexed b (f b) l)

/-! One word read by itself. -/

/-- The latches after the capture edge of the word at an address (R420). -/
def latchesLoaded (s : State) (a : Nat) : List (Nat × Nat) :=
  (latchedBy a).foldl (fun l b => putIndexed b (liveWord (settled s) b) l) s.tele.latches

/-- The latches after the 32nd bit of the word at an address (R82, R421). -/
def latchesLeft (a : Nat) (l : List (Nat × Nat)) : List (Nat × Nat) := if givesUpLatch a then l.filter fun e => e.1 != a else l

/-- What the 32nd bit of a word of value `v` takes from the report (R10, R420, R425). -/
def takenNotes (a v : Nat) : List Note :=
  if a = 0x100001 then [.attnTaken v] else if rcMax a != 0 then [.taken a v] else []

theorem loadLatches_eq (a : Nat) (s : State) : loadLatches a s = { s with tele := { s.tele with latches := latchesLoaded s a } } := rfl

theorem wordDone_eq (a v : Nat) (s : State) :
    wordDone a v s =
      { s with tele := { s.tele with latches := latchesLeft a s.tele.latches }, notes := takenNotes a v ++ s.notes } := by
  have given : (if givesUpLatch a then modTele (fun t => { t with latches := t.latches.filter fun e => e.1 != a }) s else s) =
      { s with tele := { s.tele with latches := latchesLeft a s.tele.latches } } := by
    unfold latchesLeft
    split <;> rfl
  unfold wordDone takenNotes
  rw [given]
  by_cases ha : a = 0x100001
  · simp only [if_pos ha]
    rfl
  · by_cases hr : (rcMax a != 0) = true
    · simp only [if_neg ha, if_pos hr]
      rfl
    · simp only [if_neg ha, if_neg hr]
      rfl

/-- A word read to its end is put out, loads its latches and takes what it returned. -/
theorem readOne_whole (a : Nat) (s : State) :
    readOne a true s =
      { s with
        out := s.out ++ [.window (misoBytes [BitVec.ofNat 32 (capture s a)])]
        tele := { s.tele with latches := latchesLeft a (latchesLoaded s a) }
        notes := takenNotes a (capture s a) ++ s.notes } := by
  simp [readOne, readWords, shiftOut, wordDone_eq, loadLatches_eq]

/-- A word cut off before its 32nd bit loads its latches and takes nothing. -/
theorem readOne_cut (a : Nat) (s : State) :
    readOne a false s =
      { s with out := s.out ++ [.window []], tele := { s.tele with latches := latchesLoaded s a } } := by
  simp [readOne, readWords, shiftOut, loadLatches_eq, misoBytes]

/-- The state a command in `act` answers when it puts out `o`, leaves the latches `l` and notes `ns`. -/
structure Reads (dt : Nat) (s : State) (o : List Output) (l : List (Nat × Nat)) (ns : List Note) (t : State) : Prop where
  out : t.out = o
  tele : t.tele = { s.tele with latches := l }
  rep : t.rep = applyNotes (ns ++ (begin dt s).notes) s.rep
  keeps : KeepsBut [.out, .rep, .tele] (begin dt s) t

theorem answers_reads {c : Instr} {s : State} {dt : Nat} {f : State → State} {o : List Output} {l : List (Nat × Nat)} {ns : List Note}
    (hc : exec c s = act dt f s)
    (hf : f (begin dt s) = { begin dt s with
      out := o, tele := { s.tele with latches := l }, notes := ns ++ (begin dt s).notes }) :
    Answers c s (Reads dt s o l ns) := by
  refine ⟨_, hc.trans (act_next s dt f), ?_⟩
  rw [hf]
  refine ⟨rfl, rfl, rfl, fun p hp => ?_⟩
  cases p <;> simp_all [Part.same]

/-- A command that reads one word to its end. -/
theorem answers_readOne_whole {c : Instr} {s : State} {dt a : Nat} {f : State → State} (hc : exec c s = act dt f s)
    (hf : f (begin dt s) = readOne a true (begin dt s)) :
    Answers c s (Reads dt s [.window (misoBytes [BitVec.ofNat 32 (capture (begin dt s) a)])]
      (latchesLeft a (latchesLoaded (begin dt s) a)) (takenNotes a (capture (begin dt s) a))) :=
  answers_reads hc (by rw [hf, readOne_whole]; simp)

/-- A command that reads one word and is cut off. -/
theorem answers_readOne_cut {c : Instr} {s : State} {dt a : Nat} {f : State → State} (hc : exec c s = act dt f s)
    (hf : f (begin dt s) = readOne a false (begin dt s)) :
    Answers c s (Reads dt s [.window []] (latchesLoaded (begin dt s) a) []) :=
  answers_reads hc (by rw [hf, readOne_cut]; simp)

/-! What one read by itself returns and leaves, by what its word is. -/

@[simp] theorem windowAnswers_begin (dt : Nat) (s : State) : windowAnswers (begin dt s) = windowAnswers s := by simp [windowAnswers]

theorem capture_of_unlatched {s : State} {a : Nat} (dt : Nat) (h : getIndexed a s.tele.latches = none) :
    capture (begin dt s) a = liveWord (settled (begin dt s)) a := by simp [capture, h]

/-- A counter is captured as it stood: the passing of time counts only the time in DIRECT (R108). -/
theorem capture_counter {s : State} {a : Nat} (dt : Nat) (hl : getIndexed a s.tele.latches = none) (hr : rcMax a ≠ 0)
    (hd : a ≠ 0x040013) (hp : absentPort s a = false) : capture (begin dt s) a = counter a s := by
  rw [capture_of_unlatched dt hl, liveWord_of_rcMax (by simpa using hp) hr, counter, settled_begin_rep, begin_report_counter dt s hd]

theorem latchesLoaded_of_nil {s : State} {a : Nat} (h : latchedBy a = []) : latchesLoaded s a = s.tele.latches := by
  simp [latchesLoaded, h]

theorem getIndexed_latchesLoaded {s : State} {a b : Nat} (hb : b ∈ latchedBy a) :
    getIndexed b (latchesLoaded s a) = some (liveWord (settled s) b) :=
  getIndexed_foldl_putIndexed (fun b => liveWord (settled s) b) hb _

theorem getIndexed_latchesLeft_ne {a b : Nat} (h : b ≠ a) (l : List (Nat × Nat)) : getIndexed b (latchesLeft a l) = getIndexed b l := by
  unfold latchesLeft
  split
  · exact getIndexed_filter_ne h l
  · rfl

/-- A word that is not latched gives up nothing. -/
theorem getIndexed_latchesLeft_of_none {a : Nat} {l : List (Nat × Nat)} (h : getIndexed a l = none) (b : Nat) :
    getIndexed b (latchesLeft a l) = getIndexed b l := by
  by_cases hb : b = a
  · subst hb
    unfold latchesLeft
    split
    · rw [getIndexed_filter_self, h]
    · rfl
  · exact getIndexed_latchesLeft_ne hb l

theorem takenNotes_counter {a : Nat} (h : rcMax a ≠ 0) (v : Nat) : takenNotes a v = [.taken a v] := by
  have ha : a ≠ 0x100001 := fun e => h (e ▸ rcMax_attnPending)
  simp [takenNotes, ha, h]

theorem takenNotes_of_no_counter {a : Nat} (ha : a ≠ 0x100001) (h : rcMax a = 0) (v : Nat) : takenNotes a v = [] := by
  simp [takenNotes, ha, h]

/-- A counter from which its whole value was taken reads zero. -/
theorem cntGet_taken_self {a v : Nat} {r : Report} (h : counterWf r.cnt = true) (hv : cntGet a r.cnt ≤ v) :
    cntGet a (applyNote (.taken a v) r).cnt = 0 := by
  simp only [counterWf, Bool.and_eq_true] at h
  exact (cntGet_cntSet a _ h.1).trans (Nat.sub_eq_zero_of_le hv)

theorem cntGet_taken_ne {a b : Nat} (h : b ≠ a) (v : Nat) (r : Report) : cntGet b (applyNote (.taken a v) r).cnt = cntGet b r.cnt :=
  cntGet_cntSet_ne _ _ h

/-! The clauses of O36. -/

section
variable (s : State) (dt : Nat) (a : BitVec 24)

/-- R419, R420: one live word is returned, and nothing is cleared or latched. -/
theorem windowRead_live (hw : windowAnswers s = true) (hr : rcMax a.toNat = 0) (hb : latchedBy a.toNat = [])
    (ha : a.toNat ≠ 0x100001) (hl : getIndexed a.toNat s.tele.latches = none) :
    Answers (.windowRead dt a 1 false) s fun t =>
      t.out = [.window (misoBytes [BitVec.ofNat 32 (liveWord (settled (begin dt s)) a.toNat)])] ∧
      (∀ b, getIndexed b t.tele.latches = getIndexed b s.tele.latches) ∧ Changes dt s t [.out, .tele] [] := by
  have read : Answers (.windowRead dt a 1 false) s _ :=
    answers_readOne_whole (a := a.toNat) rfl (by simp only [windowAnswers_begin, hw, if_true]; rfl)
  rw [capture_of_unlatched dt hl, latchesLoaded_of_nil hb, takenNotes_of_no_counter ha hr] at read
  refine read.imp fun t ⟨hout, htele, hrep, hkeeps⟩ => ⟨hout, fun b => ?_, hkeeps.mono (by simp), hrep⟩
  rw [htele]
  simpa using getIndexed_latchesLeft_of_none hl b

/-- R419: the identity words repeat. -/
theorem windowReadId_repeats (n : Nat) (hw : windowAnswers s = true) :
    Answers (.windowReadId dt n) s fun t =>
      t.out = [.window (misoBytes ((List.range n).map fun k => BitVec.ofNat 32 (liveWord (begin dt s) (k % 2))))] ∧
      Changes dt s t [.out] [] := by
  have read : Answers (.windowReadId dt n) s (Reads dt s
      [.window (misoBytes ((List.range n).map fun k => BitVec.ofNat 32 (liveWord (begin dt s) (k % 2))))] s.tele.latches []) :=
    answers_reads rfl (by simp [hw, shiftOut])
  exact read.imp fun t ⟨hout, htele, hrep, hkeeps⟩ =>
    ⟨hout, hkeeps.of_same (p := .tele) (by simp [Part.same, htele]) (by simp), hrep⟩

/-- R419: an opcode that is none does nothing. -/
theorem windowUnknownOpcode_idles (op : Byte) : Answers (.windowUnknownOpcode dt op) s fun t => Changes dt s t [] [] :=
  answers_act_idle (f := fun s => s) rfl rfl

/-- A word with an RC field, read to its end. -/
theorem rcFieldRead_whole (hw : windowAnswers s = true) (hr : rcMax a.toNat ≠ 0) :
    Answers (.rcFieldRead dt a true) s (Reads dt s [.window (misoBytes [BitVec.ofNat 32 (capture (begin dt s) a.toNat)])]
      (latchesLeft a.toNat (latchesLoaded (begin dt s) a.toNat)) [.taken a.toNat (capture (begin dt s) a.toNat)]) := by
  have read : Answers (.rcFieldRead dt a true) s _ := answers_readOne_whole (a := a.toNat) rfl (by simp [hw, hr])
  rwa [takenNotes_counter hr] at read

/-- R10, R420: an RC field returns its value and loses it. -/
theorem rcFieldRead_takes (hw : windowAnswers s = true) (hwf : counterWf s.rep.cnt = true) (hr : rcMax a.toNat ≠ 0)
    (hl : getIndexed a.toNat s.tele.latches = none) (hd : a.toNat ≠ 0x040013) (hp : absentPort s a.toNat = false) :
    Answers (.rcFieldRead dt a true) s fun t =>
      t.out = [.window (misoBytes [BitVec.ofNat 32 (counter a.toNat s)])] ∧ counter a.toNat t = 0 ∧
      (∀ b, b ≠ a.toNat → b ≠ 0x040013 → counter b t = counter b s) ∧ KeepsBut [.out, .rep, .tele] (begin dt s) t := by
  have read := rcFieldRead_whole s dt a hw hr
  rw [capture_counter dt hl hr hd hp] at read
  refine read.imp fun t ⟨hout, _, hrep, hkeeps⟩ => ⟨hout, ?_, fun b hb hbd => ?_, hkeeps⟩
  · rw [counter, hrep]
    exact cntGet_taken_self (applyNotes_counterWf _ hwf) (Nat.le_of_eq (begin_report_counter dt s hd))
  · rw [counter, hrep]
    exact (cntGet_taken_ne hb _ _).trans (begin_report_counter dt s hbd)

/-- R420: an RC field cut off before its 32nd bit loses nothing. -/
theorem rcFieldRead_cut (hw : windowAnswers s = true) (hr : rcMax a.toNat ≠ 0) (hd : a.toNat ≠ 0x040013) :
    Answers (.rcFieldRead dt a false) s fun t => t.out = [.window []] ∧ counter a.toNat t = counter a.toNat s := by
  have read : Answers (.rcFieldRead dt a false) s _ := answers_readOne_cut (a := a.toNat) rfl (by simp [hw, hr])
  refine read.imp fun t ⟨hout, _, hrep, _⟩ => ⟨hout, ?_⟩
  rw [counter, hrep]
  exact begin_report_counter dt s hd

/-- R269: a field of an absent port reads zero. -/
theorem rcFieldRead_absentPort (hw : windowAnswers s = true) (hr : rcMax a.toNat ≠ 0)
    (hl : getIndexed a.toNat s.tele.latches = none) (hp : absentPort s a.toNat = true) :
    Answers (.rcFieldRead dt a true) s fun t => t.out = [.window [0#8, 0#8, 0#8, 0#8]] := by
  have read := rcFieldRead_whole s dt a hw hr
  rw [capture_of_unlatched dt hl, liveWord_of_absentPort (by simpa using hp)] at read
  exact read.imp fun t h => h.out

/-- R420, R421: a latching word loads its latches, cut off or not. -/
theorem latchingRead_loads (whole : Bool) (hw : windowAnswers s = true) (hb : latchedBy a.toNat ≠ []) :
    Answers (.latchingRead dt a whole) s fun t =>
      (∀ b ∈ latchedBy a.toNat, b ≠ a.toNat → getIndexed b t.tele.latches = some (liveWord (settled (begin dt s)) b)) ∧
      KeepsBut [.out, .rep, .tele] (begin dt s) t := by
  cases whole with
  | true =>
    have read : Answers (.latchingRead dt a true) s _ := answers_readOne_whole (a := a.toNat) rfl (by simp [hw, hb])
    refine read.imp fun t ⟨_, htele, _, hkeeps⟩ => ⟨fun b hbm hba => ?_, hkeeps⟩
    rw [htele]
    exact (getIndexed_latchesLeft_ne hba _).trans (getIndexed_latchesLoaded hbm)
  | false =>
    have read : Answers (.latchingRead dt a false) s _ := answers_readOne_cut (a := a.toNat) rfl (by simp [hw, hb])
    refine read.imp fun t ⟨_, htele, _, hkeeps⟩ => ⟨fun b hbm _ => ?_, hkeeps⟩
    rw [htele]
    exact getIndexed_latchesLoaded hbm

/-- R425: `ATTN_PENDING` returns its value and loses it, and `ATTN_N` is released. -/
theorem attnPendingRead_takes (hw : windowAnswers s = true) (hl : getIndexed 0x100001 s.tele.latches = none) :
    Answers (.attnPendingRead dt true) s fun t =>
      t.out = [.window (misoBytes [BitVec.ofNat 32 s.rep.attnPending])] ∧ t.rep.attnPending = 0 ∧ t.rep.attnLow = false ∧
      t.rep.ring = s.rep.ring ∧ KeepsBut [.out, .rep] (begin dt s) t := by
  have read : Answers (.attnPendingRead dt true) s _ := answers_readOne_whole (a := 0x100001) rfl (by simp [hw])
  have captured : capture (begin dt s) 0x100001 = s.rep.attnPending := by
    rw [capture_of_unlatched dt hl, liveWord_attnPending, settled_begin_rep, begin_report_attnPending]
  have latches : latchesLeft 0x100001 (latchesLoaded (begin dt s) 0x100001) = s.tele.latches := by
    rw [latchesLoaded_of_nil (by decide), begin_tele]
    rfl
  have taken : takenNotes 0x100001 s.rep.attnPending = [.attnTaken s.rep.attnPending] := rfl
  rw [captured, latches, taken] at read
  refine read.imp fun t ⟨hout, htele, hrep, hkeeps⟩ => ⟨hout, ?_, ?_, ?_, ?_⟩
  · simp [hrep, applyNote]
  · simp [hrep, applyNote]
  · simp [hrep, applyNote]
  · exact hkeeps.of_same (p := .tele) (by simp [Part.same, htele]) (by simp)

end

/-- Settles O36, clause by clause. -/
theorem windowReadsReturnAndClear : Obligations.WindowReadsReturnAndClear :=
  ⟨fun s dt a hw hr hb ha => windowRead_live s dt a hw hr hb (BitVec.toNat_ne.1 ha), windowReadId_repeats, windowUnknownOpcode_idles,
    fun s dt a hw hwf hr _ hl hd => rcFieldRead_takes s dt a hw hwf hr hl (BitVec.toNat_ne.1 hd),
    fun s dt a hw hr hd => rcFieldRead_cut s dt a hw hr (BitVec.toNat_ne.1 hd),
    rcFieldRead_absentPort, latchingRead_loads, fun s dt hw hl _ => attnPendingRead_takes s dt hw hl⟩

end Sys2Proof.Machine
end
